-- ==== Sys2Proof/Word.lean ====
section
/-!
DEFINITION. The word types of the CZ418: the line byte, the wrapping frame number, the wrapping sequence number, and
the small fixed collections (four carriers, two branches of a carrier, eight classes) that State is made of.
-/
namespace Sys2Proof

/-- A byte of the host line or of an adaptation field. -/
abbrev Byte := BitVec 8

/-- A frame number: 16 bits, wrapping (00_scope, Conventions). -/
abbrev FrameNo := BitVec 16

/-- A request or answer sequence number, 0 to 7, wrapping (R83). -/
abbrev Seq := BitVec 3

/-- One of the four frequency carriers C0 to C3. -/
inductive Carrier where
  | c0 | c1 | c2 | c3
  deriving DecidableEq, Repr

/-- One of the two diversity branches of a carrier. -/
inductive Side where
  | a | b
  deriving DecidableEq, Repr

/-- One of the eight traffic classes K0 to K7. -/
inductive Cls where
  | k0 | k1 | k2 | k3 | k4 | k5 | k6 | k7
  deriving DecidableEq, Repr

def Carrier.all : List Carrier := [.c0, .c1, .c2, .c3]

def Carrier.toNat : Carrier → Nat
  | .c0 => 0 | .c1 => 1 | .c2 => 2 | .c3 => 3

/-- The carrier of an index, none outside 0 to 3. -/
def Carrier.ofNat? : Nat → Option Carrier
  | 0 => some .c0 | 1 => some .c1 | 2 => some .c2 | 3 => some .c3 | _ => none

/-- The next carrier round the ring C0, C1, C2, C3 (R157). -/
def Carrier.succ : Carrier → Carrier
  | .c0 => .c1 | .c1 => .c2 | .c2 => .c3 | .c3 => .c0

def Cls.all : List Cls := [.k0, .k1, .k2, .k3, .k4, .k5, .k6, .k7]

def Cls.toNat : Cls → Nat
  | .k0 => 0 | .k1 => 1 | .k2 => 2 | .k3 => 3 | .k4 => 4 | .k5 => 5 | .k6 => 6 | .k7 => 7

/-- The class of an index, none outside 0 to 7. -/
def Cls.ofNat? : Nat → Option Cls
  | 0 => some .k0 | 1 => some .k1 | 2 => some .k2 | 3 => some .k3
  | 4 => some .k4 | 5 => some .k5 | 6 => some .k6 | 7 => some .k7 | _ => none

/-- One item for each carrier ("a per-carrier item exists four times", 00_scope). -/
structure Four (α : Type) where
  c0 : α
  c1 : α
  c2 : α
  c3 : α
  deriving DecidableEq, Repr

namespace Four
variable {α β : Type}

def get (f : Four α) : Carrier → α
  | .c0 => f.c0 | .c1 => f.c1 | .c2 => f.c2 | .c3 => f.c3

def set (f : Four α) (c : Carrier) (x : α) : Four α :=
  match c with
  | .c0 => { f with c0 := x }
  | .c1 => { f with c1 := x }
  | .c2 => { f with c2 := x }
  | .c3 => { f with c3 := x }

/-- The four items given by a rule on carriers. -/
def ofFn (f : Carrier → α) : Four α := ⟨f .c0, f .c1, f .c2, f .c3⟩

/-- The same item on every carrier. -/
def fill (x : α) : Four α := ⟨x, x, x, x⟩

def toList (f : Four α) : List α := [f.c0, f.c1, f.c2, f.c3]

end Four

/-- One item for each branch of a carrier. -/
structure Sides (α : Type) where
  a : α
  b : α
  deriving DecidableEq, Repr

namespace Sides
variable {α : Type}

def get (f : Sides α) : Side → α
  | .a => f.a | .b => f.b

def set (f : Sides α) (s : Side) (x : α) : Sides α :=
  match s with
  | .a => { f with a := x }
  | .b => { f with b := x }

def fill (x : α) : Sides α := ⟨x, x⟩

end Sides

/-- One item for each traffic class. -/
structure Eight (α : Type) where
  k0 : α
  k1 : α
  k2 : α
  k3 : α
  k4 : α
  k5 : α
  k6 : α
  k7 : α
  deriving DecidableEq, Repr

namespace Eight
variable {α : Type}

def get (f : Eight α) : Cls → α
  | .k0 => f.k0 | .k1 => f.k1 | .k2 => f.k2 | .k3 => f.k3
  | .k4 => f.k4 | .k5 => f.k5 | .k6 => f.k6 | .k7 => f.k7

def set (f : Eight α) (k : Cls) (x : α) : Eight α :=
  match k with
  | .k0 => { f with k0 := x }
  | .k1 => { f with k1 := x }
  | .k2 => { f with k2 := x }
  | .k3 => { f with k3 := x }
  | .k4 => { f with k4 := x }
  | .k5 => { f with k5 := x }
  | .k6 => { f with k6 := x }
  | .k7 => { f with k7 := x }

def ofFn (f : Cls → α) : Eight α :=
  ⟨f .k0, f .k1, f .k2, f .k3, f .k4, f .k5, f .k6, f .k7⟩

def fill (x : α) : Eight α := ⟨x, x, x, x, x, x, x, x⟩

end Eight

end Sys2Proof
end

