-- ==== Sys2Proof/Config.lean ====
section
/-!
DEFINITION. What one CZ418 fixes (its identity code and revision) and the free values: values the spec leaves open,
which no proof can see (opaque, no body).
-/
namespace Sys2Proof.Config

/-- The part's identity code (R180). -/
def identityCode : Byte := 0x4C

/-- IDENTIFY's revision (11, message payloads). -/
def revision : Byte := 0x01

/-- FREE VALUE. Which of several standing sources a commit names as the cause of the abort it raises (R171 states
no result there). The argument is the model's counter `State.freeCount`. DESIGN CHOICE, notes/assumptions/10. -/
opaque freeCause : Nat → Nat

/-- FREE VALUE. A byte of a READ_CARRIER or READ_EVENTS reply that belongs to an absent item and for which the layout
states no code (R188 leaves the coding of absence to the layout). The arguments are the model's counter
`State.freeCount` and the byte's place in the payload. DESIGN CHOICE, notes/assumptions/24 and 30. -/
opaque freeReplyByte : Nat → Nat → Byte

end Sys2Proof.Config
end

