-- ==== Sys2Proof/Syntax.lean ====
section
/-!
DEFINITION. The commands of the CZ418: one constructor of `Instr` for each row of spec/opcode_table.json, with the
row's operands as the spec's transactions, events and messages carry them.
-/
namespace Sys2Proof

/-- A branch part of a CARRIER_REPORT whose present is yes (R1): lock, snr as reported in qdB, level in dBm. -/
structure BranchPart where
  lock  : Bool
  snr   : BitVec 8
  level : Int
  deriving DecidableEq, Repr

/-- The six bytes of an adaptation field as the modem delivers or takes them (11, The adaptation field). -/
structure RawField where
  b0 : Byte
  b1 : Byte
  b2 : Byte
  b3 : Byte
  b4 : Byte
  b5 : Byte
  deriving DecidableEq, Repr

/-- When one FRAME_START takes a hand-over of the port: before the other blocks' frame-start work, after that work
and before the outgoing fields are composed, or after everything else of the frame start. -/
inductive HandoverTime where
  | beforeBlocks
  | beforeFields
  | last
  deriving DecidableEq, Repr

/-- When a FRAME_START takes the port's blind reports (R3 step 4, R9) and its missing notices (R3 step 5, R13), which
meet the other blocks' own work at the same frame start. The spec gives the result for each order and calls either
correct (R36, R39, R103, R113, R135), so the order is an operand. DESIGN CHOICE, notes/assumptions/3. -/
structure FrameOrder where
  reports : HandoverTime
  notices : HandoverTime
  deriving DecidableEq, Repr

/-- Why a host frame is rejected whole (R177, R178, R179). -/
inductive RejectReason where
  /-- a LEN outside 2 to 250 -/
  | length
  /-- a byte with a low stop bit in RECEIVING -/
  | lowStop
  /-- a complete frame whose check sequence differs -/
  | badCheck
  /-- a complete frame while a reply is being sent -/
  | duringReply
  deriving DecidableEq, Repr

/-- A command, by the row of spec/opcode_table.json it stands for. Host messages carry their TAG and their payload
bytes as they stand in the frame. -/
inductive Instr where
  | frameStart (n : FrameNo) (order : FrameOrder)
  | blindReport (c : Carrier)
  | graceExpiry (c : Carrier)
  | pingpongWindowExpiry (c : Carrier)
  | rxSwitch (c : Carrier)
  | requestTimeout (c : Carrier)
  | announcementSwitch
  | pcuShadowLoad (c : Carrier)
  | mapShadowLoad
  | commit
  | frameLoss
  | carrierReport (c : Carrier) (f : FrameNo) (a b : Option BranchPart) (errors : BitVec 8)
  | fieldIn (c : Carrier) (field : Option RawField)
  | faultInputChange (asserted : Bool)
  | powerOnReset (straps : BitVec 2) (fault : Bool)
  | hmlReceiveTimeout
  | lineClear
  | hmlFrameRejected (reason : RejectReason)
  | replySent
  | badKindMessage (kind tag : Byte) (payload : List Byte)
  | identify (tag : Byte) (payload : List Byte)
  | readStaged (tag : Byte) (payload : List Byte)
  | readWorking (tag : Byte) (payload : List Byte)
  | stageLink (tag : Byte) (payload : List Byte)
  | stageCarrier (tag : Byte) (payload : List Byte)
  | stageProfile (tag : Byte) (payload : List Byte)
  | stageTableLength (tag : Byte) (payload : List Byte)
  | stageClass (tag : Byte) (payload : List Byte)
  | apply (tag : Byte) (payload : List Byte)
  | readCarrier (tag : Byte) (payload : List Byte)
  | readBranches (tag : Byte) (payload : List Byte)
  | readLane (tag : Byte) (payload : List Byte)
  | readMap (tag : Byte) (payload : List Byte)
  | setPause (tag : Byte) (payload : List Byte)
  | setCombine (tag : Byte) (payload : List Byte)
  | setTxHold (tag : Byte) (payload : List Byte)
  | abort (tag : Byte) (payload : List Byte)
  | resume (tag : Byte) (payload : List Byte)
  | readEvents (tag : Byte) (payload : List Byte)
  | clearEvents (tag : Byte) (payload : List Byte)
  | setEventMode (tag : Byte) (payload : List Byte)
  | reset (tag : Byte) (payload : List Byte)
  | hmlByte (byte : Byte) (stopHigh : Bool)
  | lineReturnsHigh
  deriving DecidableEq, Repr

end Sys2Proof
end

