-- ==== Sys2Proof/Machine/State.lean ====
section
/-!
DEFINITION. The state of the CZ418, block by block, as plain data, and the state after power-on reset.
Each structure names the rule of spec/ that lists its items.
-/
namespace Sys2Proof.Machine

/-! ### Configuration (04, 09, 11) -/

/-- A carrier's combining mode (R23, R51). -/
inductive CombiningMode where
  | combine | select | forceA | forceB
  deriving DecidableEq, Repr

/-- What signalling loss does to the transmit side (R113, R114). -/
inductive LossPolicy where
  | dropToBase | freeze
  deriving DecidableEq, Repr

/-- The link parameters (11.6, link-parameter table). -/
structure LinkParams where
  filterShift     : Nat
  lookahead       : Nat
  fastDrop        : Nat
  fadeAlarmLevel  : Nat
  reportLoss      : Nat
  frameWatch      : Nat
  faultScans      : Nat
  recoverScans    : Nat
  levelFloor      : Int
  pauseGrace      : Nat
  holdFrames      : Nat
  errLimit        : Nat
  refuseBackoff   : Nat
  answerTimeout   : Nat
  pingpongWindow  : Nat
  sigLoss         : Nat
  sigRecover      : Nat
  announceCount   : Nat
  urgentCount     : Nat
  /-- abort_sources: LOCAL is a member -/
  abortOnLocal    : Bool
  /-- abort_sources: FAR is a member -/
  abortOnFar      : Bool
  deriving DecidableEq, Repr

/-- The carrier parameters (11.6, carrier-parameter table). -/
structure CarrierParams where
  enable     : Bool
  rxCeiling  : Nat
  txCeiling  : Nat
  mode       : CombiningMode
  excludeA   : Bool
  excludeB   : Bool
  lossPolicy : LossPolicy
  atpcEnable : Bool
  low        : Nat
  high       : Nat
  period     : Nat
  maxAtten   : Nat
  deriving DecidableEq, Repr

/-- A profile record (R54). -/
structure ProfileRecord where
  modCode      : Nat
  capacity     : Nat
  down         : Option Nat
  up           : Option Nat
  backoffFloor : Nat
  deriving DecidableEq, Repr

/-- A class record (R153). -/
structure ClassRecord where
  active   : Bool
  priority : Nat
  need     : Nat
  split    : Bool
  min      : Option Nat
  home     : Carrier
  deriving DecidableEq, Repr

/-- The staged set: what the host is writing (R55, R181). -/
structure StagedSet where
  link        : LinkParams
  carriers    : Four CarrierParams
  slots       : Vector (Option ProfileRecord) 12
  tableLength : Nat
  classes     : Eight ClassRecord
  deriving DecidableEq, Repr

/-- The working set: the configuration in force. The working length T is the length of `table` (R61). -/
structure WorkingSet where
  link     : LinkParams
  carriers : Four CarrierParams
  table    : List ProfileRecord
  classes  : Eight ClassRecord
  deriving DecidableEq, Repr

/-! ### Modem Port and Report Intake (01) -/

/-- The link frame state (R2). -/
inductive LinkFrame where
  | running | frameLost
  deriving DecidableEq, Repr

/-- The TX output state of a carrier (R16). -/
inductive TxOutput where
  | live | muted
  deriving DecidableEq, Repr

/-- A FIELD_OUT transaction for one carrier (R14). -/
structure FieldOut where
  frame : FrameNo
  bytes : RawField
  deriving DecidableEq, Repr

/-- A CARRIER_SETTINGS transaction for one carrier (R15). -/
structure CarrierSettings where
  frame     : FrameNo
  rxModCode : Option Nat
  txModCode : Option Nat
  atten     : Nat
  output    : TxOutput
  slotMap   : List (Cls × Nat)
  deriving DecidableEq, Repr

/-- The Modem Port's items for one carrier (R2). -/
structure PortCarrier where
  missed     : Nat
  arrival    : Bool
  fieldTaken : Bool
  deriving DecidableEq, Repr

/-- The Modem Port (R2) with the latest transactions it delivered to the modem (R14, R15). -/
structure Port where
  current  : Option FrameNo
  previous : Option FrameNo
  /-- none: stopped; some d: running, started at d microseconds (R5) -/
  watch    : Option Nat
  link     : LinkFrame
  carriers : Four PortCarrier
  fieldOut : Four (Option FieldOut)
  settings : Four (Option CarrierSettings)
  deriving DecidableEq, Repr

/-- A branch record (R12): the part is none when present is no. -/
structure BranchRecord where
  frame : FrameNo
  part  : Option BranchPart
  deriving DecidableEq, Repr

/-- Report Intake's items for one carrier (R11, R12). -/
structure IntakeCarrier where
  lastAccepted : Option FrameNo
  records      : Sides (Option BranchRecord)
  deriving DecidableEq, Repr

/-! ### Margin Estimator (02) -/

/-- The fields of a seeded estimate record (R18), in fine units. -/
structure Estimate where
  e       : Int
  history : List Int
  r       : Int
  pr      : Int
  deriving DecidableEq, Repr

/-- The estimate record of one carrier (R18); seeded is `est.isSome`. -/
structure EstRecord where
  est    : Option Estimate
  margin : Nat
  fade   : Bool
  deriving DecidableEq, Repr

/-! ### Branch Monitor (03) -/

inductive BranchHealth where
  | healthy | suspect | faulted | excluded
  deriving DecidableEq, Repr

/-- A branch's state and run counts (R40). -/
structure BranchState where
  health  : BranchHealth
  badRun  : Nat
  goodRun : Nat
  deriving DecidableEq, Repr

/-- The Branch Monitor (R40). -/
structure Monitor where
  branches : Four (Sides BranchState)
  /-- the carrier and branch of the slot used at the next FRAME_START -/
  scanCarrier : Carrier
  scanSide    : Side
  grace    : Four Nat
  deriving DecidableEq, Repr

/-! ### Receive Adaptation Unit (05) -/

inductive RxPhase where
  | standby | acquire | working | siglost
  deriving DecidableEq, Repr

/-- REQ_KIND (R99). -/
inductive ReqKind where
  | none | up | down | urgent
  deriving DecidableEq, Repr

/-- ANS_KIND (R99). -/
inductive AnsKind where
  | none | granted | deferred | refused | cancelled
  deriving DecidableEq, Repr

/-- An answer: a kind and the seq it belongs to. -/
structure Answer where
  kind : AnsKind
  seq  : Seq
  deriving DecidableEq, Repr

/-- The standing request (R70): target is none exactly when kind is NONE. -/
structure Request where
  seq    : Seq
  kind   : ReqKind
  target : Option Nat
  deriving DecidableEq, Repr

/-- The grant recorded with an armed switch (R86). -/
structure Grant where
  seq    : Seq
  kind   : ReqKind
  target : Nat
  deriving DecidableEq, Repr

/-- An armed receive switch (R88). -/
structure Armed where
  next      : Nat
  remaining : Nat
  grant     : Option Grant
  deriving DecidableEq, Repr

/-- The refused-target memory (R81). -/
structure Refused where
  target : Nat
  frame  : FrameNo
  deriving DecidableEq, Repr

/-- The receive adaptation context of one carrier (R70). SCAN's membership of the pause set is the Branch Monitor's
grace counter being above 0 (R49). -/
structure RxContext where
  phase      : RxPhase
  active     : Nat
  linked     : Bool
  request    : Request
  timer      : Option Nat
  armed      : Option Armed
  hold       : Nat
  hostPause  : Bool
  m          : Nat
  upCounter  : Nat
  guardOpen  : Bool
  refused    : Option Refused
  consumed   : Seq
  lastAnswer : Option Answer
  deriving DecidableEq, Repr

/-! ### Signalling Unit (06) -/

/-- The last valid field (R108): the bytes as received and the frame number current when it was taken. -/
structure TakenField where
  bytes : RawField
  frame : Option FrameNo
  deriving DecidableEq, Repr

/-- The Signalling Unit's items for one carrier (R108); `lost` is SIG_LOST. -/
structure SigCarrier where
  lost       : Bool
  invalidRun : Nat
  validRun   : Nat
  lastValid  : Option TakenField
  deriving DecidableEq, Repr

/-! ### Change Lane (07) -/

/-- The makers of internal entries (R121, R128). -/
inductive Internal where
  | sigloss | ceiling | abort
  deriving DecidableEq, Repr

/-- The origin of a pending entry or of a member (R121, R134). -/
inductive Origin where
  | far (seq : Seq)
  | own (maker : Internal)
  deriving DecidableEq, Repr

/-- The kind of a pending entry (R121). -/
inductive ChangeKind where
  | up | down | urgent
  deriving DecidableEq, Repr

/-- A pending entry (R121). A far entry's `restored` has a meaning for kind UP only. -/
inductive Entry where
  | far (seq : Seq) (kind : ChangeKind) (target : Nat) (arrival : Option FrameNo) (restored : Bool)
  | own (maker : Internal) (kind : ChangeKind) (target : Nat) (absorbed : Option Seq)
  deriving DecidableEq, Repr

/-- A member of an announcement (R134). `arrival` keeps the arrival frame of the far entry it was made from, which
a withdrawal restores (R136). DEDUCED, notes/assumptions/12. -/
structure Member where
  carrier : Carrier
  fromP   : Nat
  toP     : Nat
  origin  : Origin
  arrival : Option FrameNo
  deriving DecidableEq, Repr

/-- The kind of an announcement (R134). -/
inductive AnnKind where
  | up | down
  deriving DecidableEq, Repr

/-- The announcement record (R134). -/
structure Announcement where
  kind    : AnnKind
  members : List Member
  count   : Nat
  switchFrame : FrameNo
  deriving DecidableEq, Repr

/-- The Change Lane's items for one carrier (R119), with the carrier's entry of the pending table: the table holds
at most one entry per carrier (R121). -/
structure LaneCarrier where
  entry        : Option Entry
  active       : Nat
  lastAnswered : Seq
  answer       : Answer
  hold         : Bool
  deriving DecidableEq, Repr

/-- The Change Lane (R119): ANNOUNCING exactly while the announcement record is present. -/
structure Lane where
  announcement : Option Announcement
  carriers     : Four LaneCarrier
  deriving DecidableEq, Repr

/-! ### Power Control Unit (08) -/

/-- A switch shadow (R148). -/
structure PowerShadow where
  toP       : Nat
  remaining : Nat
  deriving DecidableEq, Repr

/-- The power record of one carrier (R142). -/
structure PowerCarrier where
  atpc   : Nat
  period : Nat
  eff    : Nat
  shadow : Option PowerShadow
  deriving DecidableEq, Repr

/-! ### Capacity Mapper (09) -/

inductive PlaceState where
  | inactive | placed | partly | shed
  deriving DecidableEq, Repr

/-- A class's derived entry (R154). -/
structure ClassEntry where
  state    : PlaceState
  placed   : Nat
  segments : List (Carrier × Nat)
  deriving DecidableEq, Repr

/-- A placement result: four slot maps and an entry for every class (09.3). -/
structure Placement where
  maps    : Four (List (Cls × Nat))
  entries : Eight ClassEntry
  deriving DecidableEq, Repr

/-- The mapper's shadow (R160). -/
structure MapShadow where
  remaining : Nat
  loadFrame : FrameNo
  result    : Placement
  deriving DecidableEq, Repr

/-- The Capacity Mapper: the placement in force (R154, R155) and the shadow (R160). -/
structure Mapper where
  active : Placement
  shadow : Option MapShadow
  deriving DecidableEq, Repr

/-! ### Fault Supervisor (10) -/

/-- The link adaptation state (R168). -/
inductive LinkState where
  | running | aborted
  deriving DecidableEq, Repr

/-- The abort cause (R168). -/
inductive AbortCause where
  | localFault
  | far (c : Carrier)
  | host
  deriving DecidableEq, Repr

/-- The Fault Supervisor (R168). -/
structure Supervisor where
  state      : LinkState
  faultLevel : Bool
  farFault   : Four Bool
  cause      : Option AbortCause
  deriving DecidableEq, Repr

/-! ### Event Latch Table (11.4) -/

/-- The event kinds, in the order of their codes 0 to 15. -/
inductive EventKind where
  | fadeAlarm | sigLost | branchFault | classShed | aborted | frameLost
  | profileChangeRx | profileChangeTx | profileSlip | requestTimeout | staleReport
  | frameSlip | applyDone | hmlError | localFault | farFault
  deriving DecidableEq, Repr

/-- The edge of a condition (R184). -/
inductive Edge where
  | enter | leave
  deriving DecidableEq, Repr

/-- A condition kind's edge mode (R184). -/
inductive EdgeMode where
  | enter | leave | both
  deriving DecidableEq, Repr

/-- A kind's enable and edge mode; the edge mode has a meaning for condition kinds only (R184). -/
structure KindMode where
  on   : Bool
  edge : EdgeMode
  deriving DecidableEq, Repr

/-- A latched entry (R184): the edge is none for an occurrence kind, the frame none when no frame number was
current. -/
structure EventEntry where
  kind  : EventKind
  index : Nat
  edge  : Option Edge
  frame : Option FrameNo
  deriving DecidableEq, Repr

/-- The Event Latch Table: a mode for each kind code, and the entries in order of kind code and then index. -/
structure EventTable where
  modes   : Vector KindMode 16
  entries : List EventEntry
  deriving DecidableEq, Repr

/-! ### Host Message Link (11) -/

/-- The line rates (11.1). -/
inductive LineRate where
  | r115200 | r460800 | r921600
  deriving DecidableEq, Repr

/-- The receiver (R177); in RECEIVING it holds the bytes stored since SYNC, LEN first. -/
inductive Receiver where
  | idle
  | receiving (bytes : List Byte)
  deriving DecidableEq, Repr

/-- A reply: KIND, TAG and payload (R179). -/
structure Reply where
  kind    : Byte
  tag     : Byte
  payload : List Byte
  deriving DecidableEq, Repr

/-- The transmitter (R179); `resets` says that the reset of R187 acts when the reply's last byte has been sent. -/
inductive Transmitter where
  | idle
  | sending (reply : Reply) (resets : Bool)
  deriving DecidableEq, Repr

/-- The Host Message Link (R177 to R179, 11.1). -/
structure HostLink where
  receiver    : Receiver
  /-- the line is held low after a line clear (R177) -/
  lineLow     : Bool
  transmitter : Transmitter
  rate        : LineRate
  deriving DecidableEq, Repr

/-! ### The whole machine -/

/-- The state of the CZ418. -/
structure State where
  port         : Port
  intake       : Four IntakeCarrier
  est          : Four EstRecord
  monitor      : Monitor
  staged       : StagedSet
  working      : WorkingSet
  applyPending : Bool
  rau          : Four RxContext
  sig          : Four SigCarrier
  lane         : Lane
  pcu          : Four PowerCarrier
  mapper       : Mapper
  fault        : Supervisor
  events       : EventTable
  hml          : HostLink
  /-- the model's own: names fresh free values (notes/assumptions/23) -/
  freeCount    : Nat
  /-- the model's own: the commands waiting, first in, first out (notes/assumptions/1) -/
  pending      : List Instr
  deriving DecidableEq, Repr

/-- The reasons a step could stop with a fault: none. The CZ418 has no fault that stops it (R1: "An inbound
transaction that cannot be used is discarded by the rule that owns it"), so no meaning raises one. Safe. -/
inductive Fault where
  deriving DecidableEq, Repr

/-- The reasons a command has no meaning. -/
inductive Refusal where
  /-- Raised only by an arm of exec whose command is not modelled yet, by name. No arm raises it. Safe. -/
  | notModelled (mnemonic : String)
  deriving DecidableEq, Repr

/-! ### Reset values -/

/-- The defaults of the link-parameter table (11.6). -/
def LinkParams.default : LinkParams :=
  { filterShift := 3, lookahead := 4, fastDrop := 12, fadeAlarmLevel := 24, reportLoss := 4,
    frameWatch := 2500, faultScans := 4, recoverScans := 8, levelFloor := -88, pauseGrace := 16,
    holdFrames := 16, errLimit := 16, refuseBackoff := 64, answerTimeout := 32,
    pingpongWindow := 2000, sigLoss := 16, sigRecover := 8, announceCount := 4, urgentCount := 2,
    abortOnLocal := false, abortOnFar := false }

/-- The defaults of the carrier-parameter table (11.6). -/
def CarrierParams.default : CarrierParams :=
  { enable := false, rxCeiling := 11, txCeiling := 11, mode := .combine, excludeA := false,
    excludeB := false, lossPolicy := .dropToBase, atpcEnable := false, low := 4, high := 12,
    period := 32, maxAtten := 20 }

/-- The defaults of the class table (R153). -/
def ClassRecord.default : ClassRecord :=
  { active := false, priority := 7, need := 1, split := false, min := none, home := .c0 }

/-- The staged set after power-on reset (11.3, R55). -/
def StagedSet.default : StagedSet :=
  { link := .default, carriers := .fill .default, slots := Vector.replicate 12 none,
    tableLength := 0, classes := .fill .default }

/-- The working set after power-on reset and after RESET (11.3, R61). -/
def WorkingSet.default : WorkingSet :=
  { link := .default, carriers := .fill .default, table := [], classes := .fill .default }

/-- The Modem Port after a reset (R2, R17). -/
def Port.initial : Port :=
  { current := none, previous := none, watch := none, link := .running,
    carriers := .fill { missed := 0, arrival := false, fieldTaken := false },
    fieldOut := .fill none, settings := .fill none }

/-- Report Intake's items after a reset, a restoration, and for a carrier a commit enables or disables (R11, R12). -/
def IntakeCarrier.initial : IntakeCarrier :=
  { lastAccepted := none, records := .fill none }

/-- An unseeded estimate record (R18). -/
def EstRecord.unseeded : EstRecord := { est := none, margin := 0, fade := false }

/-- The Branch Monitor after a reset (R40). -/
def Monitor.initial : Monitor :=
  { branches := .fill (.fill { health := .healthy, badRun := 0, goodRun := 0 }),
    scanCarrier := .c0, scanSide := .a, grace := .fill 0 }

/-- A receive adaptation context after a reset (R70). -/
def RxContext.initial : RxContext :=
  { phase := .standby, active := 0, linked := false,
    request := { seq := 7, kind := .none, target := none }, timer := none, armed := none,
    hold := 0, hostPause := false, m := 1, upCounter := 65535, guardOpen := false,
    refused := none, consumed := 7, lastAnswer := none }

/-- Signalling items after a reset, at frame loss, and for a carrier a commit enables or disables (R108, R109). -/
def SigCarrier.initial : SigCarrier :=
  { lost := false, invalidRun := 0, validRun := 0, lastValid := none }

/-- The Change Lane after a reset (R119). -/
def Lane.initial : Lane :=
  { announcement := none,
    carriers := .fill { entry := none, active := 0, lastAnswered := 7,
                        answer := { kind := .none, seq := 7 }, hold := false } }

/-- A power record after a reset (R142). -/
def PowerCarrier.initial : PowerCarrier := { atpc := 0, period := 0, eff := 0, shadow := none }

/-- A class that holds no slots and is INACTIVE (R154). -/
def ClassEntry.inactive : ClassEntry := { state := .inactive, placed := 0, segments := [] }

/-- The Capacity Mapper after a reset (R154, R155, R160). -/
def Mapper.initial : Mapper :=
  { active := { maps := .fill [], entries := .fill .inactive }, shadow := none }

/-- The Event Latch Table after power-on reset (R184). -/
def EventTable.initial : EventTable :=
  { modes := Vector.replicate 16 { on := false, edge := .enter }, entries := [] }

/-- The machine right after power-on reset. The straps are taken to select 115200 bit/s and the FAULT input to be
clear: DESIGN CHOICE, notes/assumptions/9. The transmitter idle and the line
high: DESIGN CHOICE, notes/assumptions/18. -/
def State.reset : State :=
  { port := .initial, intake := .fill .initial, est := .fill .unseeded, monitor := .initial,
    staged := .default, working := .default, applyPending := false, rau := .fill .initial,
    sig := .fill .initial, lane := .initial, pcu := .fill .initial, mapper := .initial,
    fault := { state := .running, faultLevel := false, farFault := .fill false, cause := none },
    events := .initial,
    hml := { receiver := .idle, lineLow := false, transmitter := .idle, rate := .r115200 },
    freeCount := 0, pending := [] }

end Sys2Proof.Machine
end

