-- ==== Sys2Proof/Machine/Ops.lean ====
section
/-!
DEFINITION. The named operations over the state that every block shares: the named updates of State, the Event Latch
Table's latching (R184), lookups in the working configuration, and the arithmetic of frame numbers.
-/
namespace Sys2Proof.Machine

/-! ### Named updates of the state -/

def State.setPort (s : State) (x : Port) : State := { s with port := x }
def State.setPortCarriers (s : State) (x : Four PortCarrier) : State := s.setPort { s.port with carriers := x }
def State.setIntake (s : State) (x : Four IntakeCarrier) : State := { s with intake := x }
def State.setEst (s : State) (x : Four EstRecord) : State := { s with est := x }
def State.setMonitor (s : State) (x : Monitor) : State := { s with monitor := x }
def State.setStaged (s : State) (x : StagedSet) : State := { s with staged := x }
def State.setWorking (s : State) (x : WorkingSet) : State := { s with working := x }
def State.setApplyPending (s : State) (x : Bool) : State := { s with applyPending := x }
def State.setRau (s : State) (x : Four RxContext) : State := { s with rau := x }
def State.setSig (s : State) (x : Four SigCarrier) : State := { s with sig := x }
def State.setLane (s : State) (x : Lane) : State := { s with lane := x }
def State.setPcu (s : State) (x : Four PowerCarrier) : State := { s with pcu := x }
def State.setMapper (s : State) (x : Mapper) : State := { s with mapper := x }
def State.setFault (s : State) (x : Supervisor) : State := { s with fault := x }
def State.setEvents (s : State) (x : EventTable) : State := { s with events := x }
def State.setHml (s : State) (x : HostLink) : State := { s with hml := x }
def State.setFreeCount (s : State) (x : Nat) : State := { s with freeCount := x }
def State.setPending (s : State) (x : List Instr) : State := { s with pending := x }

/-! ### The Event Latch Table (R184) -/

/-- The code of an event kind (11.4). -/
def EventKind.code : EventKind → Fin 16
  | .fadeAlarm => 0 | .sigLost => 1 | .branchFault => 2 | .classShed => 3
  | .aborted => 4 | .frameLost => 5 | .profileChangeRx => 6 | .profileChangeTx => 7
  | .profileSlip => 8 | .requestTimeout => 9 | .staleReport => 10 | .frameSlip => 11
  | .applyDone => 12 | .hmlError => 13 | .localFault => 14 | .farFault => 15

/-- The event kind of a code, none above 15. -/
def EventKind.ofNat? : Nat → Option EventKind
  | 0 => some .fadeAlarm | 1 => some .sigLost | 2 => some .branchFault | 3 => some .classShed
  | 4 => some .aborted | 5 => some .frameLost | 6 => some .profileChangeRx | 7 => some .profileChangeTx
  | 8 => some .profileSlip | 9 => some .requestTimeout | 10 => some .staleReport | 11 => some .frameSlip
  | 12 => some .applyDone | 13 => some .hmlError | 14 => some .localFault | 15 => some .farFault
  | _ => none

/-- Condition kinds have codes 0 to 5, occurrence kinds 6 to 15 (11.4). -/
def EventKind.isCondition (k : EventKind) : Bool := k.code.val ≤ 5

/-- How many indices a kind has (11.4); they add up to 58. -/
def EventKind.indices : EventKind → Nat
  | .fadeAlarm => 4 | .sigLost => 4 | .branchFault => 8 | .classShed => 8
  | .aborted => 1 | .frameLost => 1 | .profileChangeRx => 4 | .profileChangeTx => 4
  | .profileSlip => 4 | .requestTimeout => 4 | .staleReport => 4 | .frameSlip => 1
  | .applyDone => 1 | .hmlError => 5 | .localFault => 1 | .farFault => 4

/-- A report to the Event Latch Table (R184): a condition edge, or an occurrence (edge none). -/
structure Report where
  kind  : EventKind
  index : Nat
  edge  : Option Edge
  deriving DecidableEq, Repr

/-- Whether a kind's edge mode selects an edge; an occurrence is always selected (R184). -/
def EdgeMode.selects : EdgeMode → Option Edge → Bool
  | _, none => true
  | .enter, some e => e = .enter
  | .leave, some e => e = .leave
  | .both, some _ => true

/-- The enable and edge mode of a kind. -/
def EventTable.mode (t : EventTable) (k : EventKind) : KindMode := t.modes[k.code]

/-- An entry is latched for a (kind, index) pair. -/
def EventTable.latched (t : EventTable) (k : EventKind) (i : Nat) : Bool :=
  t.entries.any fun x => x.kind = k && x.index = i

/-- The order of READ_EVENTS: kind code, then index (R185). -/
def EventEntry.precedes (x y : EventEntry) : Bool :=
  x.kind.code < y.kind.code || (x.kind.code = y.kind.code && x.index < y.index)

/-- Put an entry at its place in the order. -/
def insertEntry (x : EventEntry) : List EventEntry → List EventEntry
  | [] => [x]
  | y :: ys => if x.precedes y then x :: y :: ys else y :: insertEntry x ys

/-- What the table does with one report (R184): dropped when the kind is off, when the edge is not selected, or when
an entry is latched for the pair; latched with the current frame number otherwise. -/
def latch (frame : Option FrameNo) (t : EventTable) (r : Report) : EventTable :=
  if (t.mode r.kind).on && (t.mode r.kind).edge.selects r.edge && !t.latched r.kind r.index then
    { t with entries := insertEntry { kind := r.kind, index := r.index, edge := r.edge, frame := frame } t.entries }
  else t

/-- Reports are taken one after the other. -/
def latchAll (frame : Option FrameNo) (t : EventTable) (rs : List Report) : EventTable :=
  rs.foldl (latch frame) t

/-- Report to the Event Latch Table under the frame number current now. -/
def State.report (s : State) (rs : List Report) : State :=
  s.setEvents (latchAll s.port.current s.events rs)

/-- An occurrence (R184). -/
def occurrence (k : EventKind) (i : Nat) : Report := { kind := k, index := i, edge := none }

/-- The edge, if any, by which a condition goes from `before` to `after` (R184). -/
def conditionEdge (k : EventKind) (i : Nat) (before after : Bool) : List Report :=
  match before, after with
  | false, true => [{ kind := k, index := i, edge := some .enter }]
  | true, false => [{ kind := k, index := i, edge := some .leave }]
  | _, _ => []

/-! ### The working configuration -/

/-- The working parameters of a carrier. -/
def State.params (s : State) (c : Carrier) : CarrierParams := s.working.carriers.get c

/-- The carrier is enabled in the working set. -/
def State.enabled (s : State) (c : Carrier) : Bool := (s.params c).enable

/-- The working length T (R61). -/
def WorkingSet.length (w : WorkingSet) : Nat := w.table.length

/-- down[p] of the working table; none for P0 and for an absent profile. -/
def downOf (table : List ProfileRecord) (p : Nat) : Option Nat := table[p]?.bind (·.down)

/-- up[p] of the working table; none for P0 and for an absent profile. -/
def upOf (table : List ProfileRecord) (p : Nat) : Option Nat := table[p]?.bind (·.up)

/-- capacity[p]; an absent profile carries no slot (notes/assumptions/16). -/
def capacityOf (table : List ProfileRecord) (p : Nat) : Nat :=
  match table[p]? with
  | some r => r.capacity
  | none => 0

/-- backoff_floor[p]; an absent profile sets no floor (notes/assumptions/16). -/
def floorOf (table : List ProfileRecord) (p : Nat) : Nat :=
  match table[p]? with
  | some r => r.backoffFloor
  | none => 0

/-- mod_code[p], none for an absent profile. -/
def modCodeOf (table : List ProfileRecord) (p : Nat) : Option Nat := table[p]?.map (·.modCode)

/-- A value restricted to a least and a greatest value. -/
def clampInt (lo hi x : Int) : Int := max lo (min hi x)

/-- The count of frame numbers from f to n across the wrap, (n − f) mod 65536. -/
def frameAge (n f : FrameNo) : Nat := (n - f).toNat

/-! ### The lane as other blocks read it -/

/-- The lane is IDLE (R119). -/
def Lane.isIdle (l : Lane) : Bool := l.announcement.isNone

/-- The member of the running announcement for a carrier, if it is one. -/
def Lane.memberOf (l : Lane) (c : Carrier) : Option Member :=
  match l.announcement with
  | some a => a.members.find? (·.carrier = c)
  | none => none

/-- The TX active profile of a carrier (R120). -/
def State.txActive (s : State) (c : Carrier) : Nat := (s.lane.carriers.get c).active

/-- The TX bound of a carrier: its TX active profile, or the to profile of the announcement when it is a member,
whichever is higher (R59, R138). -/
def Lane.txBound (l : Lane) (c : Carrier) : Nat :=
  match l.memberOf c with
  | some m => max (l.carriers.get c).active m.toP
  | none => (l.carriers.get c).active

/-- The link takes frame starts' work: RUNNING with a frame number present (R2, R6). -/
def State.frameRunning (s : State) : Bool := s.port.link = .running && s.port.current.isSome

end Sys2Proof.Machine
end

