-- ==== Sys2Proof/Machine/BranchMonitor.lean ====
section
/-!
DEFINITION. The Branch Monitor (03_diversity_branch_supervision): the grace counters, the scan and its sample test,
the branch transitions, and exclusion at a commit.
-/
namespace Sys2Proof.Machine

/-- The scan slot of a branch, which is its BRANCH_FAULT index (03, 3.1). -/
def branchIndex (c : Carrier) (side : Side) : Nat :=
  match side with
  | .a => 2 * c.toNat
  | .b => 2 * c.toNat + 1

/-- Starting the grace sets the counter to pause_grace as the working set holds it (R49). -/
def startGrace (link : LinkParams) (c : Carrier) (x : Monitor) : Monitor :=
  { x with grace := x.grace.set c link.pauseGrace }

/-- Step 1 of R41: every grace counter above 0 is decremented. -/
def graceTick (x : Monitor) : Monitor :=
  { x with grace := .ofFn fun c => x.grace.get c - 1 }

/-- The sample of a branch record is bad (R43). -/
def badSample (link : LinkParams) (n : FrameNo) (record : Option BranchRecord) : Bool :=
  match record with
  | none => true
  | some r =>
    match r.part with
    | none => true
    | some p => !p.lock || p.level < link.levelFloor || 8 < frameAge n r.frame

/-- What one sample does to a branch: the new state, and whether it entered or left FAULTED (R44 to R46). -/
def sampleBranch (link : LinkParams) (bad : Bool) (b : BranchState) : BranchState × Option Edge :=
  match b.health, bad with
  | .healthy, false => (b, none)
  | .healthy, true => ({ health := .suspect, badRun := 1, goodRun := 0 }, none)
  | .suspect, false => ({ health := .healthy, badRun := 0, goodRun := 0 }, none)
  | .suspect, true =>
    if link.faultScans ≤ b.badRun + 1 then
      ({ health := .faulted, badRun := 0, goodRun := 0 }, some .enter)
    else ({ b with badRun := b.badRun + 1 }, none)
  | .faulted, true => ({ b with goodRun := 0 }, none)
  | .faulted, false =>
    if link.recoverScans ≤ b.goodRun + 1 then
      ({ health := .healthy, badRun := 0, goodRun := 0 }, some .leave)
    else ({ b with goodRun := b.goodRun + 1 }, none)
  | .excluded, _ => (b, none)

/-- Store a branch's state. -/
def setBranch (c : Carrier) (side : Side) (b : BranchState) (x : Monitor) : Monitor :=
  { x with branches := x.branches.set c ((x.branches.get c).set side b) }

/-- Evaluate the branch of one slot (R43 to R46, R50), with the BRANCH_FAULT edge it raises. -/
def evaluateBranch (link : LinkParams) (n : FrameNo) (c : Carrier) (side : Side) (record : Option BranchRecord)
    (x : Monitor) : Monitor × List Report :=
  let (b, edge) := sampleBranch link (badSample link n record) ((x.branches.get c).get side)
  match edge with
  | none => (setBranch c side b x, [])
  | some e =>
    (startGrace link c (setBranch c side b x),
     [{ kind := .branchFault, index := branchIndex c side, edge := some e }])

/-- Step 3 of R41: the scan position moves on by one slot, from slot 7 back to slot 0. -/
def advanceScan (x : Monitor) : Monitor :=
  match x.scanSide with
  | .a => { x with scanSide := .b }
  | .b => { x with scanSide := .a, scanCarrier := x.scanCarrier.succ }

/-- Steps 2 and 3 of R41. `pass c` says that a commit or the kind of this frame start passes carrier c over (R42). -/
def scanBranch (w : WorkingSet) (n : FrameNo) (pass : Carrier → Bool) (intake : Four IntakeCarrier) (x : Monitor) :
    Monitor × List Report :=
  let c := x.scanCarrier
  let side := x.scanSide
  if ((x.branches.get c).get side).health = .excluded || !(w.carriers.get c).enable || pass c then
    (advanceScan x, [])
  else
    let (y, rs) := evaluateBranch w.link n c side ((intake.get c).records.get side) x
    (advanceScan y, rs)

/-- The exclude flag of a branch. -/
def CarrierParams.excludes (p : CarrierParams) : Side → Bool
  | .a => p.excludeA
  | .b => p.excludeB

/-- A commit's exclusion change of one branch (R47): the new state, and whether it left FAULTED. -/
def excludeBranch (before after : Bool) (b : BranchState) : BranchState × Bool :=
  match before, after with
  | false, true => ({ health := .excluded, badRun := 0, goodRun := 0 }, b.health = .faulted)
  | true, false => ({ health := .healthy, badRun := 0, goodRun := 0 }, false)
  | _, _ => (b, false)

/-- A commit's effect on one carrier's branches and grace (R47, R49, R50). -/
def monitorCommit (link : LinkParams) (c : Carrier) (old new : CarrierParams) (x : Monitor) :
    Monitor × List Report :=
  let a := excludeBranch old.excludeA new.excludeA ((x.branches.get c).a)
  let b := excludeBranch old.excludeB new.excludeB ((x.branches.get c).b)
  let y := setBranch c .b b.1 (setBranch c .a a.1 x)
  let changed := old.mode ≠ new.mode || old.excludeA ≠ new.excludeA || old.excludeB ≠ new.excludeB
  let z := if old.enable && new.enable && changed then startGrace link c y
    else if old.enable && !new.enable then { y with grace := y.grace.set c 0 }
    else y
  (z,
   (if a.2 then [{ kind := .branchFault, index := branchIndex c .a, edge := some .leave }] else []) ++
   (if b.2 then [{ kind := .branchFault, index := branchIndex c .b, edge := some .leave }] else []))

end Sys2Proof.Machine
end

