-- ==== Sys2Proof/Machine/Estimator.lean ====
section
/-!
DEFINITION. The Margin Estimator (02_margin_estimation): the stages of one accepted report, R21 to R34, and
unseeding, R19.
-/
namespace Sys2Proof.Machine

/-- The estimator's clamp of a reported snr at 160 qdB (R22). -/
def clampSnr (snr : BitVec 8) : Nat := min snr.toNat 160

/-- Whether a combining mode admits a branch (R23). -/
def CombiningMode.admits : CombiningMode → Side → Bool
  | .forceA, .a => true
  | .forceA, .b => false
  | .forceB, .a => false
  | .forceB, .b => true
  | .combine, _ => true
  | .select, _ => true

/-- Branch Monitor states that combining may use (R23). -/
def BranchHealth.usable : BranchHealth → Bool
  | .healthy => true
  | .suspect => true
  | .faulted => false
  | .excluded => false

/-- The clamped snr of a branch eligible for combining, none for a branch that is not (R22, R23). -/
def eligibleSnr (mode : CombiningMode) (side : Side) (health : BranchHealth) (part : Option BranchPart) :
    Option Nat :=
  match part with
  | some p => if p.lock && health.usable && mode.admits side then some (clampSnr p.snr) else none
  | none => none

/-- The bonus table of R25, by bonus index. -/
def bonusAt : Nat → Nat
  | 0 => 12 | 1 => 8 | 2 => 6 | 3 => 4 | 4 => 3 | 5 => 2 | 6 => 1 | 7 => 1 | _ => 0

/-- The bonus for a difference d between the two branches (R25). -/
def combiningBonus (d : Nat) : Nat := bonusAt (min (d / 8) 8)

/-- The combined value of the eligible branches, none when the report is blind (R24, R25). -/
def combineBranches (mode : CombiningMode) (a b : Option Nat) : Option Nat :=
  match a, b with
  | none, none => none
  | some x, none => some x
  | none, some y => some y
  | some x, some y =>
    match mode with
    | .combine => some (min (max x y + combiningBonus (max x y - min x y)) 160)
    | _ => some (max x y)

/-- The filter and fast attack on a seeded record (R28, R29); `k` is filter_shift. -/
def filterEstimate (k fastDrop : Nat) (e sample : Int) : Int :=
  if sample < e - 16 * (fastDrop : Int) then sample else e + (sample - e) / (2 ^ k : Int)

/-- The slope against the history before this report joins it (R30). -/
def slopeOf (history : List Int) (e : Int) : Int :=
  match history with
  | oldest :: _ => if history.length = 8 then (e - oldest) / 8 else 0
  | [] => 0

/-- The new estimate joins the history, which holds at most 8 (R31). -/
def pushHistory (history : List Int) (e : Int) : List Int :=
  if history.length = 8 then history.tail ++ [e] else history ++ [e]

/-- The prediction, lookahead accepted reports ahead along a falling slope (R32). -/
def predict (lookahead : Nat) (e r : Int) : Int :=
  if r < 0 then max 0 (e + r * (lookahead : Int)) else e

/-- 16 × down of the RX ceiling profile, 0 when it has none (R33). -/
def marginBase (table : List ProfileRecord) (ceiling : Nat) : Int :=
  match downOf table ceiling with
  | some d => 16 * (d : Int)
  | none => 0

/-- The margin report (R33). -/
def marginOf (base pr : Int) : Nat := (clampInt 0 63 ((pr - base) / 32)).toNat

/-- The estimate after a report with the given sample (R27 to R32). -/
def nextEstimate (link : LinkParams) (before : Option Estimate) (sample : Int) : Estimate :=
  let history := match before with
    | some x => x.history
    | none => []
  let e := match before with
    | some x => filterEstimate link.filterShift link.fastDrop x.e sample
    | none => sample
  let r := slopeOf history e
  { e := e, history := pushHistory history e, r := r, pr := predict link.lookahead e r }

/-- One report through the stages of R26 to R34, as one act on the carrier's record, with the fade-alarm edge it
raises. `combined` is none for a blind report. -/
def estimateReport (w : WorkingSet) (c : Carrier) (combined : Option Nat) (x : EstRecord) :
    EstRecord × List Report :=
  let sample : Int := 16 * (match combined with
    | some v => (v : Int)
    | none => 0)
  let est := nextEstimate w.link x.est sample
  let fade := decide (est.pr < 16 * (w.link.fadeAlarmLevel : Int))
  ({ est := some est,
     margin := marginOf (marginBase w.table (w.carriers.get c).rxCeiling) est.pr,
     fade := fade },
   conditionEdge .fadeAlarm c.toNat x.fade fade)

/-- Unseeding a carrier's record (R19), with the edge it raises. -/
def unseed (c : Carrier) (x : EstRecord) : EstRecord × List Report :=
  (EstRecord.unseeded, conditionEdge .fadeAlarm c.toNat x.fade false)

/-- The record is seeded (R18). -/
def EstRecord.seeded (x : EstRecord) : Bool := x.est.isSome

end Sys2Proof.Machine
end

