-- ==== Sys2Proof/Machine/Operands.lean ====
section
/-!
DEFINITION. The operand forms: the adaptation field and its check sequence (R99 to R101, 11.6), the host frame's check
sequence (R178), and the payloads of the staging messages as bytes (11.6), each read with every range check the
message's rule states, and written back in the same layout.
-/
namespace Sys2Proof.Machine

/-! ### Check sequences -/

/-- One shift of the CRC-8 remainder (R100). -/
def crc8Shift (r : BitVec 8) : BitVec 8 := if r.msb then (r <<< 1) ^^^ 0x07#8 else r <<< 1

/-- One byte taken into the CRC-8 remainder (R100). -/
def crc8Byte (r b : BitVec 8) : BitVec 8 := crc8Shift^[8] (r ^^^ b)

/-- CRC-8 over bytes in order (R100). -/
def crc8 (bytes : List Byte) : BitVec 8 := bytes.foldl crc8Byte 0#8

/-- One shift of the CRC-16 remainder (R178). -/
def crc16Shift (r : BitVec 16) : BitVec 16 := if r.msb then (r <<< 1) ^^^ 0x1021#16 else r <<< 1

/-- One byte taken into the high byte of the CRC-16 remainder (R178). -/
def crc16Byte (r : BitVec 16) (b : Byte) : BitVec 16 := crc16Shift^[8] (r ^^^ (b ++ 0#8))

/-- CRC-16 over bytes in order, initial value 0xFFFF (R178). -/
def crc16 (bytes : List Byte) : BitVec 16 := bytes.foldl crc16Byte 0xFFFF#16

/-! ### The adaptation field -/

/-- The named parts of an adaptation field (06, 6.1). `ansKind` is none for a code that names no answer kind. -/
structure FieldParts where
  ver        : Nat
  active     : Nat
  next       : Nat
  count      : Nat
  fade       : Bool
  reqKind    : ReqKind
  reqSeq     : Seq
  ansSeq     : Seq
  reqTarget  : Nat
  ansKind    : Option AnsKind
  equipFault : Bool
  margin     : Nat
  aborted    : Bool
  deriving DecidableEq, Repr

/-- REQ_KIND's code (11.6). -/
def ReqKind.code : ReqKind → BitVec 2
  | .none => 0 | .up => 1 | .down => 2 | .urgent => 3

/-- The request kind of a code; every code is in use (R99). -/
def ReqKind.ofCode (x : BitVec 2) : ReqKind :=
  if x = 0 then .none else if x = 1 then .up else if x = 2 then .down else .urgent

/-- ANS_KIND's code (11.6). -/
def AnsKind.code : AnsKind → BitVec 3
  | .none => 0 | .granted => 1 | .deferred => 2 | .refused => 3 | .cancelled => 4

/-- The answer kind of a code; 5 to 7 name none (11.6). -/
def AnsKind.ofCode? (x : BitVec 3) : Option AnsKind :=
  if x = 0 then some .none else if x = 1 then some .granted else if x = 2 then some .deferred
  else if x = 3 then some .refused else if x = 4 then some .cancelled else Option.none

/-- A one-bit flag. -/
def flagBit (x : Bool) : BitVec 1 := BitVec.ofBool x

/-- The parts of a field's bytes 0 to 4 (11.6, The adaptation field). -/
def fieldParts (f : RawField) : FieldParts :=
  { ver := (f.b0.extractLsb' 4 4).toNat
    active := (f.b0.extractLsb' 0 4).toNat
    next := (f.b1.extractLsb' 4 4).toNat
    count := (f.b1.extractLsb' 1 3).toNat
    fade := f.b1.getLsbD 0
    reqKind := .ofCode (f.b2.extractLsb' 6 2)
    reqSeq := f.b2.extractLsb' 3 3
    ansSeq := f.b2.extractLsb' 0 3
    reqTarget := (f.b3.extractLsb' 4 4).toNat
    ansKind := AnsKind.ofCode? (f.b3.extractLsb' 1 3)
    equipFault := f.b3.getLsbD 0
    margin := (f.b4.extractLsb' 2 6).toNat
    aborted := f.b4.getLsbD 1 }

/-- The CRC over a field's bytes 0 to 4 (R100). -/
def fieldCrc (f : RawField) : BitVec 8 := crc8 [f.b0, f.b1, f.b2, f.b3, f.b4]

/-- Write the parts of a field as its six bytes, the CRC last (R103, 11.6). -/
def writeField (p : FieldParts) (ans : AnsKind) : RawField :=
  let b0 : Byte := BitVec.ofNat 4 p.ver ++ BitVec.ofNat 4 p.active
  let b1 : Byte := BitVec.ofNat 4 p.next ++ BitVec.ofNat 3 p.count ++ flagBit p.fade
  let b2 : Byte := p.reqKind.code ++ p.reqSeq ++ p.ansSeq
  let b3 : Byte := BitVec.ofNat 4 p.reqTarget ++ ans.code ++ flagBit p.equipFault
  let b4 : Byte := BitVec.ofNat 6 p.margin ++ flagBit p.aborted ++ 0#1
  { b0 := b0, b1 := b1, b2 := b2, b3 := b3, b4 := b4, b5 := crc8 [b0, b1, b2, b3, b4] }

/-- The checks 2 to 7 of R101 on a DECODED field, T being the working length. -/
def fieldValid (T : Nat) (f : RawField) : Bool :=
  let p := fieldParts f
  fieldCrc f = f.b5 && p.ver = 1 && p.active < T &&
  ((p.next = 15 && p.count = 0) || (p.next < T && 1 ≤ p.count)) &&
  (p.reqKind = .none || p.reqTarget < T) && p.ansKind.isSome

/-! ### Bytes and numbers of host payloads -/

def byteOf (n : Nat) : Byte := BitVec.ofNat 8 n

/-- Two bytes, high byte first (R188). -/
def word16 (hi lo : Byte) : Nat := hi.toNat * 256 + lo.toNat

/-- A number as two bytes, high byte first (R188). -/
def bytes16 (n : Nat) : List Byte := [byteOf (n / 256), byteOf n]

/-- A frame number as two bytes, high byte first (R188). -/
def frameBytes (f : FrameNo) : List Byte := [f.extractLsb' 8 8, f.extractLsb' 0 8]

def flagByte (x : Bool) : Byte := if x then 1 else 0

/-- A flag byte is 0 or 1 (R188). -/
def isFlag (b : Byte) : Bool := b.toNat ≤ 1

def isSet (b : Byte) : Bool := b = 1

def within (lo hi x : Nat) : Bool := lo ≤ x && x ≤ hi

/-! ### The link record (24 bytes) -/

/-- Read the STAGE_LINK payload; none when a parameter lies outside its range or the length is not 24. -/
def readLink : List Byte → Option LinkParams
  | [b0, b1, b2, b3, b4, b5, b6, b7, b8, b9, b10, b11, b12, b13, b14, b15, b16, b17, b18, b19, b20, b21, b22, b23] =>
    if b0.toNat ≤ 6 && b1.toNat ≤ 15 && within 4 80 b2.toNat && b3.toNat ≤ 160 && within 1 15 b4.toNat &&
       within 200 5000 (word16 b5 b6) && within 2 15 b7.toNat && within 2 31 b8.toNat &&
       -110 ≤ b9.toInt && b9.toInt ≤ -40 && within 1 4095 (word16 b11 b12) && 1 ≤ b13.toNat &&
       within 1 4095 (word16 b14 b15) && 4 ≤ b16.toNat && within 1 4095 (word16 b17 b18) && 2 ≤ b19.toNat &&
       1 ≤ b20.toNat && within 2 7 b21.toNat && within 1 7 b22.toNat && b23.toNat ≤ 3 then
      some
        { filterShift := b0.toNat, lookahead := b1.toNat, fastDrop := b2.toNat, fadeAlarmLevel := b3.toNat,
          reportLoss := b4.toNat, frameWatch := word16 b5 b6, faultScans := b7.toNat, recoverScans := b8.toNat,
          levelFloor := b9.toInt, pauseGrace := b10.toNat, holdFrames := word16 b11 b12, errLimit := b13.toNat,
          refuseBackoff := word16 b14 b15, answerTimeout := b16.toNat, pingpongWindow := word16 b17 b18,
          sigLoss := b19.toNat, sigRecover := b20.toNat, announceCount := b21.toNat, urgentCount := b22.toNat,
          abortOnLocal := b23.getLsbD 0, abortOnFar := b23.getLsbD 1 }
    else none
  | _ => none

/-- abort_sources as a byte: bit 0 LOCAL, bit 1 FAR. -/
def abortSources (l : LinkParams) : Byte := 0#6 ++ flagBit l.abortOnFar ++ flagBit l.abortOnLocal

/-- The link record in the layout of STAGE_LINK. -/
def linkBytes (l : LinkParams) : List Byte :=
  [byteOf l.filterShift, byteOf l.lookahead, byteOf l.fastDrop, byteOf l.fadeAlarmLevel, byteOf l.reportLoss] ++
  bytes16 l.frameWatch ++
  [byteOf l.faultScans, byteOf l.recoverScans, BitVec.ofInt 8 l.levelFloor, byteOf l.pauseGrace] ++
  bytes16 l.holdFrames ++ [byteOf l.errLimit] ++ bytes16 l.refuseBackoff ++ [byteOf l.answerTimeout] ++
  bytes16 l.pingpongWindow ++
  [byteOf l.sigLoss, byteOf l.sigRecover, byteOf l.announceCount, byteOf l.urgentCount, abortSources l]

/-! ### The carrier record (12 bytes after the carrier) -/

/-- The combining mode of a code (11.6). -/
def CombiningMode.ofByte? (b : Byte) : Option CombiningMode :=
  if b = 0 then some .combine else if b = 1 then some .select else if b = 2 then some .forceA
  else if b = 3 then some .forceB else none

def CombiningMode.code : CombiningMode → Byte
  | .combine => 0 | .select => 1 | .forceA => 2 | .forceB => 3

/-- Read bytes 1 to 12 of the STAGE_CARRIER payload with their ranges and the window check of R151. -/
def readCarrierParams : List Byte → Option CarrierParams
  | [en, rx, tx, mode, exA, exB, loss, atpc, low, high, period, maxAtten] =>
    match CombiningMode.ofByte? mode with
    | none => none
    | some m =>
      if isFlag en && rx.toNat ≤ 11 && tx.toNat ≤ 11 && isFlag exA && isFlag exB && isFlag loss && isFlag atpc &&
         low.toNat ≤ 62 && within 1 63 high.toNat && 1 ≤ period.toNat && maxAtten.toNat ≤ 40 &&
         low.toNat < high.toNat then
        some
          { enable := isSet en, rxCeiling := rx.toNat, txCeiling := tx.toNat, mode := m, excludeA := isSet exA,
            excludeB := isSet exB, lossPolicy := if isSet loss then .freeze else .dropToBase,
            atpcEnable := isSet atpc, low := low.toNat, high := high.toNat, period := period.toNat,
            maxAtten := maxAtten.toNat }
      else none
  | _ => none

/-- The carrier record in the layout of STAGE_CARRIER, without its leading carrier byte. -/
def carrierBytes (p : CarrierParams) : List Byte :=
  [flagByte p.enable, byteOf p.rxCeiling, byteOf p.txCeiling, p.mode.code, flagByte p.excludeA,
   flagByte p.excludeB, flagByte (p.lossPolicy = .freeze), flagByte p.atpcEnable, byteOf p.low, byteOf p.high,
   byteOf p.period, byteOf p.maxAtten]

/-! ### Profile records (5 bytes after the slot) -/

/-- A down or up byte: 0xFF when absent, else 0 to 160 (R55, 11.6); the outer none is a refusal. -/
def readThreshold (b : Byte) : Option (Option Nat) :=
  if b = 0xFF then some none else if b.toNat ≤ 160 then some (some b.toNat) else none

/-- Read bytes 1 to 5 of the STAGE_PROFILE payload for a slot, with the checks of R55. -/
def readProfile (slot : Nat) : List Byte → Option ProfileRecord
  | [code, capacity, down, up, floor] =>
    match readThreshold down, readThreshold up with
    | some d, some u =>
      if slot ≤ 11 && code.toNat ≤ 15 && within 1 64 capacity.toNat && floor.toNat ≤ 16 &&
         (if slot = 0 then d.isNone && u.isNone else d.isSome && u.isSome) then
        some { modCode := code.toNat, capacity := capacity.toNat, down := d, up := u, backoffFloor := floor.toNat }
      else none
    | _, _ => none
  | _ => none

def thresholdByte : Option Nat → Byte
  | some d => byteOf d
  | none => 0xFF

/-- A profile slot in the layout of STAGE_PROFILE, without its slot byte; an empty or absent one is all 0xFF
(R180). -/
def profileBytes : Option ProfileRecord → List Byte
  | some r => [byteOf r.modCode, byteOf r.capacity, thresholdByte r.down, thresholdByte r.up, byteOf r.backoffFloor]
  | none => [0xFF, 0xFF, 0xFF, 0xFF, 0xFF]

/-! ### Class records (6 bytes after the class) -/

/-- Read bytes 1 to 6 of the STAGE_CLASS payload with the checks of R153; min is absent when its byte is 0. -/
def readClass : List Byte → Option ClassRecord
  | [active, priority, need, split, minB, home] =>
    match Carrier.ofNat? home.toNat with
    | none => none
    | some h =>
      if isFlag active && priority.toNat ≤ 7 && within 1 64 need.toNat && isFlag split &&
         (if isSet split then within 1 need.toNat minB.toNat else minB.toNat = 0) then
        some { active := isSet active, priority := priority.toNat, need := need.toNat, split := isSet split,
               min := if isSet split then some minB.toNat else none, home := h }
      else none
  | _ => none

/-- The class record in the layout of STAGE_CLASS, without its class byte. -/
def classBytes (r : ClassRecord) : List Byte :=
  [flagByte r.active, byteOf r.priority, byteOf r.need, flagByte r.split, byteOf (r.min.getD 0),
   byteOf r.home.toNat]

/-! ### Host message kinds -/

/-- The messages of the host link (11.6, KIND table). -/
inductive Message where
  | identify | stageLink | stageCarrier | stageProfile | stageTableLength | stageClass | apply | readStaged
  | readWorking | readCarrier | readBranches | readLane | readMap | setPause | setCombine | setTxHold | abort
  | resume | readEvents | clearEvents | setEventMode | reset
  deriving DecidableEq, Repr

/-- The KIND of a message (11.6). -/
def Message.kind : Message → Byte
  | .identify => 0x01 | .stageLink => 0x10 | .stageCarrier => 0x11 | .stageProfile => 0x12
  | .stageTableLength => 0x13 | .stageClass => 0x14 | .apply => 0x20 | .readStaged => 0x21
  | .readWorking => 0x22 | .readCarrier => 0x30 | .readBranches => 0x31 | .readLane => 0x32
  | .readMap => 0x33 | .setPause => 0x40 | .setCombine => 0x41 | .setTxHold => 0x42 | .abort => 0x43
  | .resume => 0x44 | .readEvents => 0x50 | .clearEvents => 0x51 | .setEventMode => 0x52 | .reset => 0x7F

def Message.all : List Message :=
  [.identify, .stageLink, .stageCarrier, .stageProfile, .stageTableLength, .stageClass, .apply, .readStaged,
   .readWorking, .readCarrier, .readBranches, .readLane, .readMap, .setPause, .setCombine, .setTxHold, .abort,
   .resume, .readEvents, .clearEvents, .setEventMode, .reset]

/-- The message a KIND names, if any. -/
def Message.ofKind? (k : Byte) : Option Message := Message.all.find? (·.kind = k)

/-- The reply statuses and their codes (11.6). -/
inductive Status where
  | ok | busy | badLength | badKind | badValue | badState | badTable
  deriving DecidableEq, Repr

def Status.code : Status → Byte
  | .ok => 0 | .busy => 1 | .badLength => 2 | .badKind => 3 | .badValue => 4 | .badState => 5 | .badTable => 6

/-- SYNC (R177). -/
def sync : Byte := 0xA6

/-- The bytes of a frame from LEN through the last payload byte. -/
def frameBody (kind tag : Byte) (payload : List Byte) : List Byte :=
  byteOf (payload.length + 2) :: kind :: tag :: payload

/-- A reply as it goes out on the line (11.6, Envelope). -/
def Reply.frame (r : Reply) : List Byte :=
  let body := frameBody r.kind r.tag r.payload
  sync :: body ++ [(crc16 body).extractLsb' 8 8, (crc16 body).extractLsb' 0 8]

end Sys2Proof.Machine
end

