-- ==== Sys2Proof/Machine/Lane.lean ====
section
/-!
DEFINITION. The Change Lane (07_the_transmit_change_lane): the intake of far-end requests and of internal entries,
re-checks, the announcement's countdown, switch, selection and withdrawal, and the lane's part in commits, aborts,
signalling loss and frame loss. Operations on one carrier's items come first.
-/
namespace Sys2Proof.Machine

/-! ### One carrier's items -/

/-- The lane gives an answer (R127): GRANTED, REFUSED and CANCELLED also write the last answered seq. -/
def giveAnswer (kind : AnsKind) (seq : Seq) (x : LaneCarrier) : LaneCarrier :=
  match kind with
  | .granted => { x with answer := { kind := kind, seq := seq }, lastAnswered := seq }
  | .refused => { x with answer := { kind := kind, seq := seq }, lastAnswered := seq }
  | .cancelled => { x with answer := { kind := kind, seq := seq }, lastAnswered := seq }
  | .deferred => { x with answer := { kind := kind, seq := seq } }
  | .none => { x with answer := { kind := kind, seq := seq } }

/-- The seq of a far entry. -/
def Entry.farSeq? : Entry → Option Seq
  | .far seq _ _ _ _ => some seq
  | .own _ _ _ _ => none

/-- The seq that is answered with an entry: that of a far entry, or an absorbed seq (R128). -/
def Entry.answerSeq? : Entry → Option Seq
  | .far seq _ _ _ _ => some seq
  | .own _ _ _ absorbed => absorbed

def Entry.kind : Entry → ChangeKind
  | .far _ kind _ _ _ => kind
  | .own _ kind _ _ => kind

def Entry.target : Entry → Nat
  | .far _ _ target _ _ => target
  | .own _ _ target _ => target

def Entry.arrival? : Entry → Option FrameNo
  | .far _ _ _ arrival _ => arrival
  | .own _ _ _ _ => none

def Entry.origin : Entry → Origin
  | .far seq _ _ _ _ => .far seq
  | .own maker _ _ _ => .own maker

/-- The entry is internal (R121). -/
def Entry.isOwn : Entry → Bool
  | .far _ _ _ _ _ => false
  | .own _ _ _ _ => true

/-- The change kind a request kind asks for; NONE asks for none. -/
def ReqKind.change? : ReqKind → Option ChangeKind
  | .none => Option.none | .up => some .up | .down => some .down | .urgent => some .urgent

/-- The target clamped at intake (R124). -/
def clampTarget (kind : ChangeKind) (target active ceiling T : Nat) : Nat :=
  match kind with
  | .up => min (min (min target (active + 1)) ceiling) (T - 1)
  | .down => min (min target ceiling) (T - 1)
  | .urgent => min (min target ceiling) (T - 1)

/-- A clamped request is refused (R125). -/
def refusedAtIntake (kind : ChangeKind) (clamped : Nat) (aborted : Bool) (x : LaneCarrier) : Bool :=
  clamped = x.active || (kind = .up && clamped ≤ x.active) || (kind ≠ .up && x.active < clamped) ||
  (kind = .up && x.hold) || aborted

/-- The entry with its absorbed seq removed; a far entry goes (R123, R138). -/
def dropFarSide : Option Entry → Option Entry
  | some (.own maker kind target _) => some (.own maker kind target none)
  | some (.far _ _ _ _ _) => none
  | none => none

/-- The intake of a far-end request (R122 to R126). -/
def intakeRequest (ceiling T : Nat) (aborted : Bool) (frame : Option FrameNo) (kind : ReqKind) (seq : Seq)
    (target : Nat) (x : LaneCarrier) : LaneCarrier :=
  if seq = x.lastAnswered then x
  else if x.entry.bind Entry.farSeq? = some seq then giveAnswer .deferred seq x
  else
    match kind.change? with
    | none => giveAnswer .cancelled seq { x with entry := dropFarSide x.entry }
    | some k =>
      let t := clampTarget k target x.active ceiling T
      match x.entry with
      | some (.own maker ik it ab) =>
        if refusedAtIntake k t aborted x then giveAnswer .refused seq { x with entry := some (.own maker ik it ab) }
        else giveAnswer .deferred seq x
      | _ =>
        if refusedAtIntake k t aborted x then giveAnswer .refused seq { x with entry := none }
        else giveAnswer .deferred seq { x with entry := some (.far seq k t frame false) }

/-- URGENT when either is, DOWN otherwise (R128). -/
def mergeKind (a b : ChangeKind) : ChangeKind := if a = .urgent || b = .urgent then .urgent else .down

/-- The intake of an internal entry (R128). -/
def intakeOwn (maker : Internal) (kind : ChangeKind) (target : Nat) (x : LaneCarrier) : LaneCarrier :=
  match x.entry with
  | none => { x with entry := some (.own maker kind target none) }
  | some (.far seq .up _ _ _) => giveAnswer .refused seq { x with entry := some (.own maker kind target none) }
  | some (.far seq k t _ _) => { x with entry := some (.own maker (mergeKind k kind) (min t target) (some seq)) }
  | some (.own m k t ab) =>
    { x with entry := some (.own (if target < t then maker else m) (mergeKind k kind) (min t target) ab) }

/-- An entry that goes at a re-check or an abort: the seq it is answered with is REFUSED (R128, R129). -/
def refuseEntry (e : Entry) (x : LaneCarrier) : LaneCarrier :=
  match e.answerSeq? with
  | some seq => giveAnswer .refused seq { x with entry := none }
  | none => { x with entry := none }

/-- A re-check of a pending entry against TX active, tx_ceiling and T (R129). -/
def recheckEntry (ceiling T : Nat) (x : LaneCarrier) : LaneCarrier :=
  match x.entry with
  | none => x
  | some (.far seq .up t arrival restored) =>
    if t = x.active + 1 && t ≤ ceiling then x else refuseEntry (.far seq .up t arrival restored) x
  | some (.far seq k t arrival restored) =>
    let clamped := min (min t ceiling) (T - 1)
    if clamped < x.active then { x with entry := some (.far seq k clamped arrival restored) }
    else refuseEntry (.far seq k t arrival restored) x
  | some (.own maker k t ab) =>
    let clamped := min (min t ceiling) (T - 1)
    if clamped < x.active then { x with entry := some (.own maker k clamped ab) }
    else refuseEntry (.own maker k t ab) x

/-- The entry is of kind DOWN or URGENT. -/
def Entry.isDown (e : Entry) : Bool := e.kind ≠ .up

/-- A selected entry is removed and its seq, if any, answered GRANTED (R132, R133). -/
def grantEntry (x : LaneCarrier) : LaneCarrier :=
  match x.entry with
  | some e =>
    match e.answerSeq? with
    | some seq => giveAnswer .granted seq { x with entry := none }
    | none => { x with entry := none }
  | none => x

/-- The entry of a withdrawn UP member (R136). -/
def restoreMember (m : Member) (x : LaneCarrier) : LaneCarrier :=
  match m.origin with
  | .far seq =>
    if x.hold then giveAnswer .refused seq x
    else if x.entry.isSome then x
    else giveAnswer .deferred seq { x with entry := some (.far seq .up m.toP m.arrival true) }
  | .own _ => x

/-- A far-end UP entry is removed and answered REFUSED (R69, R112). -/
def refuseFarUp (x : LaneCarrier) : LaneCarrier :=
  match x.entry with
  | some (.far seq .up t arrival restored) => refuseEntry (.far seq .up t arrival restored) x
  | _ => x

/-- An abort refuses the far side of an entry: a far entry goes, an absorbed seq is removed (R138 step 2). -/
def refuseFarSide (x : LaneCarrier) : LaneCarrier :=
  match x.entry with
  | some e =>
    match e.answerSeq? with
    | some seq => giveAnswer .refused seq { x with entry := dropFarSide x.entry }
    | none => x
  | none => x

/-! ### The announcement -/

/-- The member of an announcement for a carrier. -/
def Announcement.member? (a : Announcement) (c : Carrier) : Option Member := a.members.find? (·.carrier = c)

/-- The carrier's ceiling and the working length, for the clamps. -/
def recheckFor (w : WorkingSet) (c : Carrier) (x : LaneCarrier) : LaneCarrier :=
  recheckEntry (w.carriers.get c).txCeiling w.table.length x

/-- The switch (R130): each member's TX active profile becomes its to profile, and its entry is re-checked. -/
def laneSwitch (w : WorkingSet) (a : Announcement) (l : Lane) : Lane × List Report :=
  ({ announcement := none,
     carriers := .ofFn fun c =>
       match a.member? c with
       | some m => recheckFor w c { l.carriers.get c with active := m.toP }
       | none => l.carriers.get c },
   a.members.map fun m => occurrence .profileChangeTx m.carrier.toNat)

/-- The announcement counts down to 0 at this frame start (R130). -/
def announcementDue (l : Lane) : Bool :=
  match l.announcement with
  | some a => a.count ≤ 1
  | none => false

/-- Step 1 of the lane's work at a frame start (R130). -/
def laneCountdown (w : WorkingSet) (l : Lane) : Lane × List Report :=
  match l.announcement with
  | some a =>
    if announcementDue l then laneSwitch w a l
    else ({ l with announcement := some { a with count := a.count - 1 } }, [])
  | none => (l, [])

/-- The table holds a DOWN or URGENT entry (R132). -/
def hasDown (l : Lane) : Bool :=
  Carrier.all.any fun c => match (l.carriers.get c).entry with
    | some e => e.isDown
    | none => false

/-- The table holds an URGENT entry (R135). -/
def hasUrgent (l : Lane) : Bool :=
  Carrier.all.any fun c => match (l.carriers.get c).entry with
    | some e => e.kind = .urgent
    | none => false

/-- The member an entry makes (R132, R133). -/
def entryMember (c : Carrier) (x : LaneCarrier) (e : Entry) : Member :=
  { carrier := c, fromP := x.active, toP := e.target, origin := e.origin, arrival := e.arrival? }

/-- The members of the downgrade bundle, in carrier order (R132; notes/assumptions/11). -/
def bundleMembers (l : Lane) : List Member :=
  Carrier.all.filterMap fun c => match (l.carriers.get c).entry with
    | some e => if e.isDown then some (entryMember c (l.carriers.get c) e) else none
    | none => none

/-- Some member of the bundle is of kind URGENT or of internal origin (R132). -/
def bundleHurries (l : Lane) : Bool :=
  Carrier.all.any fun c => match (l.carriers.get c).entry with
    | some e => e.isDown && (e.kind = .urgent || e.isOwn)
    | none => false

/-- The downgrade bundle selected and announced at FRAME_START(n) (R132, R134). -/
def startBundle (link : LinkParams) (n : FrameNo) (l : Lane) : Lane :=
  let count := if bundleHurries l then link.urgentCount else link.announceCount
  { announcement := some { kind := .down, members := bundleMembers l, count := count,
                           switchFrame := n + BitVec.ofNat 16 count },
    carriers := .ofFn fun c => match (l.carriers.get c).entry with
      | some e => if e.isDown then grantEntry (l.carriers.get c) else l.carriers.get c
      | none => l.carriers.get c }

/-- The age of an UP entry at FRAME_START(n) (R133); none when the carrier has no UP entry. -/
def upAge (n : FrameNo) (x : LaneCarrier) : Option Nat :=
  match x.entry with
  | some (.far _ .up _ arrival _) => some (match arrival with
      | some f => frameAge n f
      | none => 0)
  | _ => none

/-- The older of the UP entry chosen so far and a carrier's, the one chosen so far when ages are equal (R133). -/
def olderUp (n : FrameNo) (l : Lane) (best : Option (Carrier × Nat)) (c : Carrier) : Option (Carrier × Nat) :=
  match upAge n (l.carriers.get c), best with
  | some age, some (b, bestAge) => if bestAge < age then some (c, age) else some (b, bestAge)
  | some age, none => some (c, age)
  | none, b => b

/-- The carrier whose UP entry is chosen: the largest age, the lower carrier when ages are equal (R133). -/
def chooseUp (n : FrameNo) (l : Lane) : Option Carrier :=
  (Carrier.all.foldl (olderUp n l) none).map (·.1)

/-- The upgrade of a carrier selected and announced at FRAME_START(n) (R133, R134). -/
def startUpgrade (link : LinkParams) (n : FrameNo) (c : Carrier) (l : Lane) : Lane :=
  match (l.carriers.get c).entry with
  | some e =>
    { announcement := some { kind := .up, members := [entryMember c (l.carriers.get c) e],
                             count := link.announceCount,
                             switchFrame := n + BitVec.ofNat 16 link.announceCount },
      carriers := l.carriers.set c (grantEntry (l.carriers.get c)) }
  | none => l

/-- Step 3 of the lane's work (R132, R133): a downgrade bundle, else an upgrade when the link is RUNNING and no APPLY
is pending. -/
def laneSelect (link : LinkParams) (n : FrameNo) (running applyPending : Bool) (l : Lane) : Lane :=
  if hasDown l then startBundle link n l
  else if running && !applyPending then
    match chooseUp n l with
    | some c => startUpgrade link n c l
    | none => l
  else l

/-- The announcement is an UP counting at 2 or more (R135, R138). -/
def withdrawable (l : Lane) : Bool :=
  match l.announcement with
  | some a => a.kind = .up && 2 ≤ a.count
  | none => false

/-- The announcement removed, each member's entry dealt with and re-checked (R135, R138). -/
def laneWithdraw (w : WorkingSet) (deal : Member → LaneCarrier → LaneCarrier) (l : Lane) : Lane :=
  match l.announcement with
  | some a =>
    { announcement := none,
      carriers := .ofFn fun c =>
        match a.member? c with
        | some m => recheckFor w c (deal m (l.carriers.get c))
        | none => l.carriers.get c }
  | none => l

/-- The seq of a withdrawn member is answered REFUSED at an abort (R138 step 1). -/
def refuseMember (m : Member) (x : LaneCarrier) : LaneCarrier :=
  match m.origin with
  | .far seq => giveAnswer .refused seq x
  | .own _ => x

/-! ### The lane's part in commits, aborts and losses -/

/-- A commit's effect on one carrier's items (R131 steps 1 to 4). -/
def laneCommitCarrier (old new : CarrierParams) (T : Nat) (x : LaneCarrier) : LaneCarrier :=
  match old.enable, new.enable with
  | true, false => { x with entry := none, active := 0 }
  | false, true => recheckEntry new.txCeiling T { x with active := 0 }
  | true, true =>
    let y := recheckEntry new.txCeiling T x
    if new.txCeiling < y.active then intakeOwn .ceiling .down new.txCeiling y else y
  | false, false => recheckEntry new.txCeiling T x

/-- The lane's part of a commit (R131). -/
def laneCommit (old new : WorkingSet) (l : Lane) : Lane :=
  { l with carriers := .ofFn fun c =>
      laneCommitCarrier (old.carriers.get c) (new.carriers.get c) new.table.length (l.carriers.get c) }

/-- The lane's part of an abort (R138): the withdrawal, the refusals, the ABORT entries. -/
def laneAbort (w : WorkingSet) (l : Lane) : Lane :=
  let l1 := if withdrawable l then laneWithdraw w refuseMember l else l
  { l1 with carriers := .ofFn fun c =>
      let x := refuseFarSide (l1.carriers.get c)
      if (w.carriers.get c).enable && 0 < l1.txBound c then intakeOwn .abort .urgent 0 x else x }

/-- The lane at frame loss (R140). -/
def laneFrameLoss (l : Lane) : Lane :=
  { announcement := none, carriers := .ofFn fun c => { l.carriers.get c with entry := none } }

/-- The lane at the restoring FRAME_START, before its step 1 (R140). -/
def laneRestore (w : WorkingSet) (l : Lane) : Lane :=
  { l with carriers := .ofFn fun c =>
      if (w.carriers.get c).enable then { l.carriers.get c with active := 0 } else l.carriers.get c }

/-- One carrier's items changed. -/
def Lane.update (l : Lane) (c : Carrier) (f : LaneCarrier → LaneCarrier) : Lane :=
  { l with carriers := l.carriers.set c (f (l.carriers.get c)) }

/-- The TX state the host reads (R141). -/
inductive TxView where
  | disabled | idle | pending | announced
  deriving DecidableEq, Repr

def txView (enabled : Bool) (l : Lane) (c : Carrier) : TxView :=
  if !enabled then .disabled
  else if (l.memberOf c).isSome then .announced
  else if (l.carriers.get c).entry.isSome then .pending
  else .idle

end Sys2Proof.Machine
end

