-- ==== Sys2Proof/Machine/Mapper.lean ====
section
/-!
DEFINITION. The Capacity Mapper (09_capacity_map_and_traffic_classes): placement (R156 to R159), the shadow and its
loading (R160 to R163), conforming at a commit (R164), and frame loss (R165).
-/
namespace Sys2Proof.Machine

/-! ### Placement -/

/-- The carriers in ring order from a home (R157). -/
def ringFrom (home : Carrier) : List Carrier := [home, home.succ, home.succ.succ, home.succ.succ.succ]

/-- The active classes in order of priority and then class number (R157). -/
def visitOrder (classes : Eight ClassRecord) : List Cls :=
  (List.range 8).flatMap fun p => Cls.all.filter fun k => (classes.get k).active && (classes.get k).priority = p

/-- Free counts after segments have been taken (R157, R158). -/
def takeSegments (free : Four Nat) (segs : List (Carrier × Nat)) : Four Nat :=
  segs.foldl (fun f seg => f.set seg.1 (f.get seg.1 - seg.2)) free

/-- What a split class takes round its ring: the tentative segments and the remaining need (R158). -/
def splitTake (free : Four Nat) : List Carrier → Nat → List (Carrier × Nat) × Nat
  | [], remaining => ([], remaining)
  | c :: cs, remaining =>
    let t := min (free.get c) remaining
    let (segs, left) := splitTake free cs (remaining - t)
    (if t = 0 then segs else (c, t) :: segs, left)

/-- The sum of segment counts. -/
def segmentSum (segs : List (Carrier × Nat)) : Nat := (segs.map (·.2)).sum

/-- Placing a class whole (R157). -/
def placeWhole (r : ClassRecord) (free : Four Nat) : ClassEntry :=
  match (ringFrom r.home).find? fun c => r.need ≤ free.get c with
  | some c => { state := .placed, placed := r.need, segments := [(c, r.need)] }
  | none => { state := .shed, placed := 0, segments := [] }

/-- Placing a split class (R158). -/
def placeSplit (r : ClassRecord) (free : Four Nat) : ClassEntry :=
  let (segs, left) := splitTake free (ringFrom r.home) r.need
  if left = 0 then { state := .placed, placed := segmentSum segs, segments := segs }
  else if r.min.getD r.need ≤ segmentSum segs then
    { state := .partly, placed := segmentSum segs, segments := segs }
  else { state := .shed, placed := 0, segments := [] }

/-- Placing one class (R157, R158). -/
def placeClass (r : ClassRecord) (free : Four Nat) : ClassEntry :=
  if r.split then placeSplit r free else placeWhole r free

/-- The pairs of a class's segments joined to the maps (R159). -/
def addPairs (k : Cls) (segs : List (Carrier × Nat)) (maps : Four (List (Cls × Nat))) : Four (List (Cls × Nat)) :=
  segs.foldl (fun m seg => m.set seg.1 (m.get seg.1 ++ [(k, seg.2)])) maps

/-- One visit of a placement (R157 to R159). -/
def visitClass (classes : Eight ClassRecord) (acc : Four Nat × Placement) (k : Cls) : Four Nat × Placement :=
  let entry := placeClass (classes.get k) acc.1
  (takeSegments acc.1 entry.segments,
   { maps := addPairs k entry.segments acc.2.maps, entries := acc.2.entries.set k entry })

/-- A placement over capacities (R156 to R159). -/
def placement (cap : Four Nat) (classes : Eight ClassRecord) : Placement :=
  ((visitOrder classes).foldl (visitClass classes)
    (cap, { maps := .fill [], entries := .fill .inactive })).2

/-- Placement capacities from a profile for each enabled carrier, 0 for a disabled one (R156, R162). -/
def capacities (w : WorkingSet) (profile : Carrier → Nat) : Four Nat :=
  .ofFn fun c => if (w.carriers.get c).enable then capacityOf w.table (profile c) else 0

/-! ### Loading a placement -/

/-- The class is SHED. -/
def isShed (e : ClassEntry) : Bool := e.state = .shed

/-- The CLASS_SHED edges between two sets of entries (R166). -/
def shedEdges (before after : Eight ClassEntry) : List Report :=
  Cls.all.flatMap fun k => conditionEdge .classShed k.toNat (isShed (before.get k)) (isShed (after.get k))

/-- The shadow counts down to 0 at this frame start (R161). -/
def mapShadowDue (x : Mapper) : Bool :=
  match x.shadow with
  | some sh => sh.remaining ≤ 1
  | none => false

/-- The mapper's frame-start work (R161): the shadow counts down, and is loaded at 0. -/
def mapperTick (x : Mapper) : Mapper × List Report :=
  match x.shadow with
  | some sh =>
    if mapShadowDue x then
      ({ active := sh.result, shadow := none }, shedEdges x.active.entries sh.result.entries)
    else ({ x with shadow := some { sh with remaining := sh.remaining - 1 } }, [])
  | none => (x, [])

/-- Record a placement as the shadow, replacing any (R160). -/
def recordShadow (remaining : Nat) (loadFrame : FrameNo) (result : Placement) (x : Mapper) : Mapper :=
  { x with shadow := some { remaining := remaining, loadFrame := loadFrame, result := result } }

/-- The shadow of an announcement's start (R162). -/
def announcementShadow (w : WorkingSet) (l : Lane) (a : Announcement) (x : Mapper) : Mapper :=
  let profile := fun c => match a.member? c with
    | some m => m.toP
    | none => (l.carriers.get c).active
  recordShadow a.count a.switchFrame (placement (capacities w profile) w.classes) x

/-! ### Conforming at a commit (R164) -/

/-- The sum of a slot map. -/
def mapSum (m : List (Cls × Nat)) : Nat := (m.map (·.2)).sum

/-- Step 3 of R164: whole pairs leave from the end until the sum is within the capacity. The argument is the map
reversed. -/
def trimReversed (capacity : Nat) : List (Cls × Nat) → List (Cls × Nat)
  | [] => []
  | pair :: rest => if mapSum (pair :: rest) ≤ capacity then pair :: rest else trimReversed capacity rest

def trimMap (capacity : Nat) (m : List (Cls × Nat)) : List (Cls × Nat) :=
  (trimReversed capacity m.reverse).reverse

/-- Steps 1 to 3 of R164 for one carrier's map. -/
def conformMap (classes : Eight ClassRecord) (disabled : Bool) (capacity : Nat) (m : List (Cls × Nat)) :
    List (Cls × Nat) :=
  if disabled then [] else trimMap capacity (m.filter fun pair => (classes.get pair.1).active)

/-- Counts taken from the last segment backward until the excess is gone; a segment at 0 is removed. The argument is
the segment list reversed. -/
def cutReversed : List (Carrier × Nat) → Nat → List (Carrier × Nat)
  | [], _ => []
  | (c, n) :: rest, excess => if n ≤ excess then cutReversed rest (excess - n) else (c, n - excess) :: rest

def cutSegments (segs : List (Carrier × Nat)) (need : Nat) : List (Carrier × Nat) :=
  if need < segmentSum segs then (cutReversed segs.reverse (segmentSum segs - need)).reverse else segs

/-- The pairs a class still holds, in its former segment order (R164 step 4). -/
def heldSegments (maps : Four (List (Cls × Nat))) (k : Cls) (segs : List (Carrier × Nat)) : List (Carrier × Nat) :=
  segs.filter fun seg => (maps.get seg.1).any fun pair => pair.1 = k

/-- The state of a class that holds segments after a commit (R164 step 4). -/
def judgeHeld (r : ClassRecord) (segs : List (Carrier × Nat)) : PlaceState :=
  if r.split then
    if segmentSum segs = r.need then .placed
    else if r.min.getD r.need ≤ segmentSum segs && segmentSum segs < r.need then .partly
    else .shed
  else if segs.length = 1 && segmentSum segs = r.need then .placed
  else .shed

/-- Step 4 of R164 for one class: its re-derived entry. -/
def conformEntry (maps : Four (List (Cls × Nat))) (r : ClassRecord) (k : Cls) (e : ClassEntry) : ClassEntry :=
  if !r.active then .inactive
  else
    let segs := cutSegments (heldSegments maps k e.segments) r.need
    if segs.isEmpty then
      { state := if e.state = .inactive then .inactive else .shed, placed := 0, segments := [] }
    else
      match judgeHeld r segs with
      | .shed => { state := .shed, placed := 0, segments := [] }
      | st => { state := st, placed := segmentSum segs, segments := segs }

/-- The pairs of a map as the conformed entries leave them: a pair goes when its class gave it up, and shows the
class's segment on the carrier otherwise. -/
def mapFromEntries (entries : Eight ClassEntry) (c : Carrier) (m : List (Cls × Nat)) : List (Cls × Nat) :=
  m.filterMap fun pair =>
    ((entries.get pair.1).segments.find? fun seg => seg.1 = c).map fun seg => (pair.1, seg.2)

/-- The active placement conformed to the new working set (R164); `disabled c` says that the commit disables c, and
`active c` is its TX active profile. -/
def conform (w : WorkingSet) (disabled : Carrier → Bool) (active : Carrier → Nat) (p : Placement) : Placement :=
  let maps : Four (List (Cls × Nat)) := .ofFn fun c =>
    conformMap w.classes (disabled c) (capacityOf w.table (active c)) (p.maps.get c)
  let entries : Eight ClassEntry := .ofFn fun k => conformEntry maps (w.classes.get k) k (p.entries.get k)
  { maps := .ofFn fun c => mapFromEntries entries c (maps.get c), entries := entries }

/-- A commit's work in the mapper (R164, then R163) at FRAME_START(n). -/
def mapperCommit (w : WorkingSet) (disabled : Carrier → Bool) (l : Lane) (n : FrameNo) (x : Mapper) :
    Mapper × List Report :=
  let active := fun c => (l.carriers.get c).active
  let conformed := conform w disabled active x.active
  (recordShadow 1 (n + 1) (placement (capacities w active) w.classes) { x with active := conformed },
   shedEdges x.active.entries conformed.entries)

/-- The placement at P0 recorded at a restoration (R165). -/
def mapperRestore (w : WorkingSet) (n : FrameNo) (x : Mapper) : Mapper :=
  recordShadow 1 (n + 1) (placement (capacities w fun _ => 0) w.classes) x

/-- A class's entry at frame loss (R165). -/
def lossEntry (e : ClassEntry) : ClassEntry :=
  if e.state = .placed || e.state = .partly then { state := .shed, placed := 0, segments := [] } else e

/-- The mapper at frame loss (R165). -/
def mapperFrameLoss (x : Mapper) : Mapper × List Report :=
  let entries : Eight ClassEntry := .ofFn fun k => lossEntry (x.active.entries.get k)
  ({ active := { maps := .fill [], entries := entries }, shadow := none },
   shedEdges x.active.entries entries)

end Sys2Proof.Machine
end

