-- ==== Sys2Proof/Machine/Flags.lean ====
section
/-!
DEFINITION. The conditions, pins and set memberships that are functions of the state: the abort demand (R171), the
power hold (R143), SCAN in the pause set (R49), the TX output state (R16), ALERT (R186), and the checks of a staged
set at APPLY (R58, R59).
-/
namespace Sys2Proof.Machine

/-- LOCAL is an enabled source whose condition stands (R171). -/
def localStands (s : State) : Bool := s.working.link.abortOnLocal && s.fault.faultLevel

/-- FAR is an enabled source whose condition stands on an enabled carrier (R171). -/
def farStands (s : State) (c : Carrier) : Bool :=
  s.working.link.abortOnFar && s.enabled c && s.fault.farFault.get c

/-- The abort demand (R171). -/
def abortDemand (s : State) : Bool := localStands s || Carrier.all.any (farStands s)

/-- A carrier's power control is held (R143). -/
def powerHeld (s : State) (c : Carrier) : Bool :=
  !s.enabled c || !(s.params c).atpcEnable || (s.sig.get c).lost || s.fault.state = .aborted ||
  s.port.link = .frameLost

/-- SCAN is a member of the carrier's pause set (R49). -/
def scanPauses (s : State) (c : Carrier) : Bool := 0 < s.monitor.grace.get c

/-- The TX output state (R16). -/
def txOutput (s : State) (c : Carrier) : TxOutput :=
  if s.enabled c && s.port.link = .running then .live else .muted

/-- The ALERT output (R186). -/
def State.alert (s : State) : Bool := !s.events.entries.isEmpty

/-! ### The checks at APPLY -/

/-- Strictly rising across two optional thresholds; an absent one breaks the check. -/
def thresholdsRise (lower upper : Option Nat) : Bool :=
  match lower, upper with
  | some x, some y => x < y
  | _, _ => false

/-- The hysteresis check up ≥ down + 4 of one record above P0 (R58). -/
def hysteresisOk (r : ProfileRecord) : Bool :=
  match r.down, r.up with
  | some d, some u => d + 4 ≤ u
  | _, _ => false

/-- The checks of R58 on the records from P1 upward: hysteresis, and rising capacities and thresholds. -/
def upperRecordsOk : List ProfileRecord → Bool
  | [] => true
  | [r] => hysteresisOk r
  | r :: q :: rest =>
    hysteresisOk r && r.capacity ≤ q.capacity && thresholdsRise r.down q.down && thresholdsRise r.up q.up &&
    upperRecordsOk (q :: rest)

/-- No two records share a mod_code (R58). -/
def modCodesDistinct : List ProfileRecord → Bool
  | [] => true
  | r :: rest => rest.all (fun q => q.modCode ≠ r.modCode) && modCodesDistinct rest

/-- The checks of R58 on a table of records. -/
def tableOk : List ProfileRecord → Bool
  | [] => true
  | [_] => false
  | p0 :: p1 :: rest =>
    p0.backoffFloor = 0 && p0.capacity ≤ p1.capacity && upperRecordsOk (p1 :: rest) &&
    modCodesDistinct (p0 :: p1 :: rest)

/-- All of a list of slots, when none is empty. -/
def allFilled : List (Option ProfileRecord) → Option (List ProfileRecord)
  | [] => some []
  | none :: _ => none
  | some r :: rest =>
    match allFilled rest with
    | some rs => some (r :: rs)
    | none => none

/-- The staged slots 0 to L − 1 as records; none when one is empty (R58, R61). -/
def stagedTable (x : StagedSet) : Option (List ProfileRecord) := allFilled (x.slots.toList.take x.tableLength)

/-- The table checks of R58 on a staged set. -/
def stagedTableOk (x : StagedSet) : Bool :=
  match stagedTable x with
  | some t => tableOk t
  | none => false

/-- The carrier-limit checks of R59 for one carrier. -/
def carrierLimitsOk (s : State) (c : Carrier) : Bool :=
  let p := s.staged.carriers.get c
  let L := s.staged.tableLength
  !p.enable ||
    (2 ≤ L && p.rxCeiling < L && p.txCeiling < L &&
     (!s.enabled c || ((s.rau.get c).active < L && s.lane.txBound c < L)))

/-- The carrier-limit checks of R59. -/
def limitsOk (s : State) : Bool := Carrier.all.all (carrierLimitsOk s)

end Sys2Proof.Machine
end

