-- ==== Sys2Proof/Machine/Power.lean ====
section
/-!
DEFINITION. The Power Control Unit (08_transmit_power_control): holds and releases, steps from the far end's margin,
the switch shadow, and the effective attenuation.
-/
namespace Sys2Proof.Machine

/-- The period counter reloaded with P (R143, R144). -/
def reloadPeriod (p : CarrierParams) (x : PowerCarrier) : PowerCarrier := { x with period := p.period }

/-- A hold that begins sets atpc_atten to 0; a release reloads the period counter (R143). -/
def settleHold (p : CarrierParams) (before after : Bool) (x : PowerCarrier) : PowerCarrier :=
  match before, after with
  | false, true => { x with atpc := 0 }
  | true, false => reloadPeriod p x
  | _, _ => x

/-- The holds that begin and the releases between the state `before` and the state `s` (R143). -/
def settleHolds (before s : State) : State :=
  s.setPcu (.ofFn fun c => settleHold (s.params c) (powerHeld before c) (powerHeld s c) (s.pcu.get c))

/-- A step from the far end's MARGIN and FADE on a carrier that is not held (R144). -/
def powerStep (p : CarrierParams) (margin : Nat) (fade : Bool) (x : PowerCarrier) : PowerCarrier :=
  if fade then reloadPeriod p { x with atpc := 0 }
  else if margin < p.low then { x with atpc := x.atpc - 2 }
  else if p.high < margin && x.period = 0 then reloadPeriod p { x with atpc := min p.maxAtten (x.atpc + 1) }
  else x

/-- A valid field's MARGIN and FADE handed over (R143, R144). -/
def takeMargin (c : Carrier) (margin : Nat) (fade : Bool) (s : State) : State :=
  if powerHeld s c then s
  else s.setPcu (s.pcu.set c (powerStep (s.params c) margin fade (s.pcu.get c)))

/-- The period counter at a frame start (R145). -/
def periodTick (x : PowerCarrier) : PowerCarrier := { x with period := x.period - 1 }

/-- The shadow counts down to 0 at this frame start (R148). -/
def powerShadowDue (x : PowerCarrier) : Bool :=
  match x.shadow with
  | some sh => sh.remaining ≤ 1
  | none => false

/-- The shadow at a frame start (R148): counted down, and at 0 removed, with its to profile loaded. -/
def powerShadowTick (x : PowerCarrier) : PowerCarrier × Option Nat :=
  match x.shadow with
  | some sh =>
    if powerShadowDue x then ({ x with shadow := none }, some sh.toP)
    else ({ x with shadow := some { sh with remaining := sh.remaining - 1 } }, none)
  | none => (x, none)

/-- The effective attenuation of an enabled carrier on a profile (R147). -/
def effectiveAtten (table : List ProfileRecord) (profile : Nat) (x : PowerCarrier) : Nat :=
  min 40 (max x.atpc (floorOf table profile))

/-- The effective attenuation of every carrier computed for the frame (R147); `loaded` is the to profile of a shadow
loaded at this frame start. -/
def computeAtten (loaded : Four (Option Nat)) (s : State) : State :=
  s.setPcu (.ofFn fun c =>
    let x := s.pcu.get c
    let profile := match loaded.get c with
      | some p => p
      | none => s.txActive c
    { x with eff := if s.enabled c then effectiveAtten s.working.table profile x else 0 })

/-- Record a switch shadow for each member of an announcement (R148). -/
def recordPowerShadows (a : Announcement) (x : Four PowerCarrier) : Four PowerCarrier :=
  .ofFn fun c => match a.member? c with
    | some m => { x.get c with shadow := some { toP := m.toP, remaining := a.count } }
    | none => x.get c

/-- Discard the switch shadows (R148): the lane holds one announcement, so every shadow is of it. -/
def discardPowerShadows (x : Four PowerCarrier) : Four PowerCarrier :=
  .ofFn fun c => { x.get c with shadow := none }

/-- The unit at frame loss (R149). -/
def powerFrameLoss (x : PowerCarrier) : PowerCarrier := { x with atpc := 0, shadow := none }

/-- A commit's effect on a carrier's power record (R150). `otherHold` says that the carrier is SIG_LOST or the link
ABORTED after the commit. -/
def powerCommit (old new : CarrierParams) (otherHold : Bool) (x : PowerCarrier) : PowerCarrier :=
  match old.enable, new.enable with
  | false, true =>
    { x with atpc := 0, shadow := none, period := if new.atpcEnable then new.period else x.period }
  | true, false => { x with atpc := 0, shadow := none, period := 0 }
  | true, true =>
    if !new.atpcEnable then { x with atpc := 0 }
    else if !old.atpcEnable then (if otherHold then x else reloadPeriod new x)
    else { x with atpc := min x.atpc new.maxAtten }
  | false, false => x

end Sys2Proof.Machine
end

