-- ==== Sys2Proof/Machine/Receive.lean ====
section
/-!
DEFINITION. The Receive Adaptation Unit (05_receive_adaptation): the evaluation of a report, the standing request,
the taking of a valid field, the armed switch, the ping-pong guard, and the unit's part in commits, frame loss,
signalling loss, abort and resume. Every operation acts on one carrier's context.
-/
namespace Sys2Proof.Machine

/-- What the unit reads besides the context: the working set, the carrier's RX ceiling, the link adaptation state,
SCAN's membership of the pause set and the current frame number. -/
structure RxEnv where
  carrier : Carrier
  link    : LinkParams
  table   : List ProfileRecord
  ceiling : Nat
  running : Bool
  scan    : Bool
  frame   : Option FrameNo
  deriving DecidableEq, Repr

/-- The environment of a carrier's context in a state. -/
def rxEnv (s : State) (c : Carrier) : RxEnv :=
  { carrier := c, link := s.working.link, table := s.working.table, ceiling := (s.params c).rxCeiling,
    running := s.fault.state = .running, scan := 0 < s.monitor.grace.get c, frame := s.port.current }

/-! ### The hold count and the standing request -/

/-- The hold count reloaded: hold_frames × m (R70). -/
def reloadHold (env : RxEnv) (x : RxContext) : RxContext := { x with hold := env.link.holdFrames * x.m }

/-- The pause set is non-empty (R84). -/
def isPaused (env : RxEnv) (x : RxContext) : Bool := x.hostPause || env.scan

/-- The hold count reloaded unless the pause set is non-empty. -/
def reloadUnlessPaused (env : RxEnv) (x : RxContext) : RxContext :=
  if isPaused env x then x else reloadHold env x

/-- A new seq after s that is not the far-end consumed seq (R83). -/
def nextSeq (s consumed : Seq) : Seq := if s + 1 = consumed then s + 2 else s + 1

/-- The request is open (R71). -/
def isOpen (x : RxContext) : Bool := x.request.kind ≠ .none

/-- The request replaced by NONE with a new seq, and the answer timer stopped (R83, to cancel). -/
def replaceByNone (x : RxContext) : RxContext :=
  { x with request := { seq := nextSeq x.request.seq x.consumed, kind := .none, target := none }, timer := none }

/-- Cancel the request; one that is NONE is not cancelled again (R83). -/
def cancelRequest (x : RxContext) : RxContext := if isOpen x then replaceByNone x else x

/-- Close the request: NONE with its seq kept, and the answer timer stopped (R83). -/
def closeRequest (x : RxContext) : RxContext :=
  { x with request := { x.request with kind := .none, target := none }, timer := none }

/-- Rebase an open request against the RX active profile (R91). -/
def rebaseRequest (x : RxContext) : RxContext :=
  match x.request.kind, x.request.target with
  | .up, some t => if t = x.active + 1 then x else cancelRequest x
  | .down, some t => if t < x.active then x else cancelRequest x
  | .urgent, some t => if t < x.active then x else cancelRequest x
  | _, _ => x

/-! ### Evaluation of a report (R76 to R82) -/

/-- What the estimator hands over (R35). -/
structure Handover where
  pr     : Int
  blind  : Bool
  errors : Nat
  deriving DecidableEq, Repr

/-- Pr < 16 × down[p], for a profile that has a down threshold. -/
def belowDown (table : List ProfileRecord) (p : Nat) (pr : Int) : Bool :=
  match downOf table p with
  | some d => pr < 16 * (d : Int)
  | none => false

/-- Pr ≥ 16 × down[p], for a profile that has a down threshold. -/
def reachesDown (table : List ProfileRecord) (p : Nat) (pr : Int) : Bool :=
  match downOf table p with
  | some d => 16 * (d : Int) ≤ pr
  | none => false

/-- Pr ≥ 16 × up[p], for a profile that has an up threshold. -/
def reachesUp (table : List ProfileRecord) (p : Nat) (pr : Int) : Bool :=
  match upOf table p with
  | some u => 16 * (u : Int) ≤ pr
  | none => false

/-- The highest profile p below a such that p is P0 or Pr ≥ 16 × down[p] (R77, threshold). -/
def highestHeld (table : List ProfileRecord) (pr : Int) : Nat → Nat
  | 0 => 0
  | a + 1 => if a = 0 || reachesDown table a pr then a else highestHeld table pr a

/-- The target of the first downgrade condition that holds, lowered to the ceiling (R77). -/
def downgradeTarget (env : RxEnv) (a : Nat) (h : Handover) : Option Nat :=
  (if h.blind && 0 < a then some 0
   else if 0 < a && belowDown env.table a h.pr then some (highestHeld env.table h.pr a)
   else if 0 < a && env.link.errLimit ≤ h.errors then some (a - 1)
   else if env.ceiling < a then some env.ceiling
   else none).map (min env.ceiling)

/-- The kind of a downgrade to a target (R77). -/
def downgradeKind (env : RxEnv) (a target : Nat) (h : Handover) : ReqKind :=
  if h.blind || env.link.errLimit ≤ h.errors || target + 2 ≤ a then .urgent else .down

/-- The upgrade test in a state other than SWITCHING (R79): the context with its hold count moved, and the decision. -/
def upgradeTest (env : RxEnv) (pr : Int) (x : RxContext) : RxContext × Option (ReqKind × Nat) :=
  if isPaused env x then (x, none)
  else if env.ceiling ≤ x.active then (x, none)
  else if x.request.kind = .down || x.request.kind = .urgent then (x, none)
  else if !reachesUp env.table (x.active + 1) pr then (reloadHold env x, none)
  else ({ x with hold := x.hold - 1 }, if x.hold - 1 = 0 then some (.up, x.active + 1) else none)

/-- The refused-target memory suppresses a target (R81). -/
def suppressed (env : RxEnv) (x : RxContext) (target : Nat) : Bool :=
  match x.refused, env.frame with
  | some r, some n => r.target = target && frameAge n r.frame < env.link.refuseBackoff
  | _, _ => false

/-- The decision after the refused-target memory (R81). -/
def passMemory (env : RxEnv) (x : RxContext) (d : Option (ReqKind × Nat)) : Option (ReqKind × Nat) :=
  match d with
  | some (k, t) => if suppressed env x t then none else some (k, t)
  | none => none

/-- Apply a decision to the standing request (R82). An UP that is open when the memory suppresses its own decision is
cancelled as by any decision of none, and the hold count reloaded, although R81 leaves that count as the upgrade test left
it. DEDUCED, notes/assumptions/32. -/
def applyDecision (env : RxEnv) (d : Option (ReqKind × Nat)) (x : RxContext) : RxContext :=
  match d with
  | some (k, t) =>
    if x.request.kind = k && x.request.target = some t then x
    else { x with request := { seq := nextSeq x.request.seq x.consumed, kind := k, target := some t },
                  timer := some 0 }
  | none =>
    if x.request.kind = .up && x.armed.isNone then reloadUnlessPaused env (cancelRequest x) else x

/-- The decision of R77 to R80 and the context with its hold count moved. In SWITCHING the hold count is left as it
stands (R80; notes/assumptions/13). -/
def decide76 (env : RxEnv) (h : Handover) (x : RxContext) : RxContext × Option (ReqKind × Nat) :=
  match downgradeTarget env x.active h, x.armed with
  | some t, none => (reloadUnlessPaused env x, some (downgradeKind env x.active t h, t))
  | some t, some ar => (x, if t < ar.next then some (downgradeKind env x.active t h, t) else none)
  | none, none => upgradeTest env h.pr x
  | none, some _ => (x, none)

/-- The evaluation of a report in phase WORKING with the link RUNNING (R76). -/
def evaluateReport (env : RxEnv) (h : Handover) (x : RxContext) : RxContext :=
  let (y, d) := decide76 env h x
  applyDecision env (passMemory env y d) y

/-- The pass from ACQUIRE to WORKING (R75). -/
def passToWorking (env : RxEnv) (x : RxContext) : RxContext := reloadHold env { x with phase := .working }

/-- The estimator's hand-over of an accepted report (R75, R76). The record is seeded at every hand-over. The pass of
R75 reloads the hold count in ABORTED too, although R76 leaves it as it stands there. DEDUCED, notes/assumptions/29. -/
def takeHandover (env : RxEnv) (h : Handover) (x : RxContext) : RxContext :=
  match x.phase with
  | .acquire => if x.linked then passToWorking env x else x
  | .working => if env.running then evaluateReport env h x else x
  | .siglost => x
  | .standby => x

/-! ### Switches and the ping-pong guard (R90, R94) -/

/-- The guard's part in a switch from `old` to `new` (R94). -/
def guardSwitch (old new : Nat) (x : RxContext) : RxContext :=
  if old < new then { x with upCounter := 0, guardOpen := true }
  else if new < old && x.guardOpen then { x with m := min 8 (2 * x.m), guardOpen := false }
  else x

/-- A switch to a profile (R90): the armed switch goes; when the profile changes, the guard acts, the hold count is
reloaded and the request rebased. -/
def switchTo (env : RxEnv) (next : Nat) (x : RxContext) : RxContext × List Report :=
  if next = x.active then ({ x with armed := none }, [])
  else
    (rebaseRequest (reloadHold env (guardSwitch x.active next { x with armed := none, active := next })),
     [occurrence .profileChangeRx env.carrier.toNat])

/-- A profile slip to a profile (R93). -/
def slipTo (env : RxEnv) (profile : Nat) (x : RxContext) : RxContext × List Report :=
  (rebaseRequest (reloadHold env { x with active := profile }), [occurrence .profileSlip env.carrier.toNat])

/-! ### Taking a valid field (R85 to R93) -/

/-- Step 1 of R85: the last received answer, and the consumed seq of a consuming answer (R83). -/
def noteAnswer (kind : AnsKind) (seq : Seq) (x : RxContext) : RxContext :=
  let y := { x with lastAnswer := some { kind := kind, seq := seq } }
  match kind with
  | .granted => { y with consumed := seq }
  | .refused => { y with consumed := seq }
  | .cancelled => { y with consumed := seq }
  | .deferred => y
  | .none => y

/-- Arming: the grant of a switch already armed is kept when the same profile is named (R88). -/
def armSwitch (next count : Nat) (x : RxContext) : RxContext :=
  let grant := match x.armed with
    | some ar => if ar.next = next then ar.grant else none
    | none => none
  { x with armed := some { next := next, remaining := count, grant := grant } }

/-- The withdrawal of R92 with the grant that the armed switch carried. -/
def withdrawSwitch (env : RxEnv) (grant : Option Grant) (x : RxContext) : RxContext :=
  let y := { x with armed := none }
  match grant with
  | some g =>
    if g.kind = .up && g.seq = y.request.seq then
      if y.phase = .working && env.running && g.target = y.active + 1 && g.target ≤ env.ceiling then
        { y with request := { seq := g.seq, kind := .up, target := some g.target }, timer := some 0 }
      else replaceByNone y
    else y
  | none => y

/-- Step 2 of R85: the announcement part (R88, R92). -/
def takeAnnouncement (env : RxEnv) (p : FieldParts) (x : RxContext) : RxContext × List Report :=
  if p.next = 15 then
    match x.armed with
    | none => (x, [])
    | some ar => if p.active = ar.next then switchTo env ar.next x else (withdrawSwitch env ar.grant x, [])
  else (armSwitch p.next p.count x, [])

/-- Step 3 of R85: the answer part acts on an open request whose seq it carries (R86). -/
def takeAnswer (env : RxEnv) (kind : AnsKind) (seq : Seq) (x : RxContext) : RxContext :=
  if isOpen x && seq = x.request.seq then
    match kind with
    | .granted =>
      match x.armed, x.request.target with
      | some ar, some t =>
        let grant : Grant := { seq := x.request.seq, kind := x.request.kind, target := t }
        closeRequest { x with armed := some { ar with grant := some grant } }
      | _, _ => x
    | .deferred => { x with timer := some 0 }
    | .refused =>
      let remembered := match x.request.target, env.frame with
        | some t, some n => { x with refused := some { target := t, frame := n } }
        | _, _ => x
      let closed := closeRequest remembered
      if x.request.kind = .up then reloadUnlessPaused env closed else closed
    | .cancelled => x
    | .none => x
  else x

/-- Step 4 of R85: the slip test, in ACQUIRE and WORKING (R93). -/
def slipTest (env : RxEnv) (active : Nat) (x : RxContext) : RxContext × List Report :=
  if (x.phase = .acquire || x.phase = .working) && x.armed.isNone && active ≠ x.active then slipTo env active x
  else (x, [])

/-- Step 5 of R85: the linked flag, and in ACQUIRE the pass of R75. -/
def noteLinked (env : RxEnv) (seeded : Bool) (x : RxContext) : RxContext :=
  if x.phase = .acquire && seeded then passToWorking env { x with linked := true } else { x with linked := true }

/-- A valid field taken in ACQUIRE, WORKING or SIGLOST (R85). `ans` is its answer kind. -/
def takeField (env : RxEnv) (seeded : Bool) (p : FieldParts) (ans : AnsKind) (x : RxContext) :
    RxContext × List Report :=
  if x.phase = .standby then (x, [])
  else
    let x1 := noteAnswer ans p.ansSeq x
    let (x2, r2) := takeAnnouncement env p x1
    let x3 := takeAnswer env ans p.ansSeq x2
    let (x4, r4) := slipTest env p.active x3
    (noteLinked env seeded x4, r2 ++ r4)

/-! ### Frame-start work (R89) -/

/-- The up-switch counter reaches pingpong_window at this frame start with the guard open (R94). -/
def windowExpires (env : RxEnv) (x : RxContext) : Bool :=
  x.guardOpen && env.link.pingpongWindow ≤ min 65535 (x.upCounter + 1)

/-- Step 1 of R89: the counter step of the guard (R94). -/
def guardTick (env : RxEnv) (x : RxContext) : RxContext :=
  if windowExpires env x then
    { x with upCounter := min 65535 (x.upCounter + 1), m := max 1 (x.m / 2), guardOpen := false }
  else { x with upCounter := min 65535 (x.upCounter + 1) }

/-- The armed switch counts down to 0 at this frame start (R89). -/
def switchDue (x : RxContext) : Bool :=
  match x.armed with
  | some ar => ar.remaining ≤ 1
  | none => false

/-- Step 2 of R89: the armed switch counts down, and is made at 0. -/
def armedTick (env : RxEnv) (x : RxContext) : RxContext × List Report :=
  match x.armed with
  | some ar =>
    if switchDue x then switchTo env ar.next x
    else ({ x with armed := some { ar with remaining := ar.remaining - 1 } }, [])
  | none => (x, [])

/-- The answer timer reaches answer_timeout at this frame start (R87). -/
def timeoutDue (env : RxEnv) (x : RxContext) : Bool :=
  match x.timer with
  | some t => env.link.answerTimeout ≤ t + 1
  | none => false

/-- A request that has timed out is cancelled (R87). -/
def timeOut (env : RxEnv) (x : RxContext) : RxContext × List Report :=
  (if x.request.kind = .up then reloadUnlessPaused env (cancelRequest x) else cancelRequest x,
   [occurrence .requestTimeout env.carrier.toNat])

/-- Step 3 of R89: the answer timer step (R87). -/
def timerTick (env : RxEnv) (x : RxContext) : RxContext × List Report :=
  match x.timer with
  | some t => if timeoutDue env x then timeOut env x else ({ x with timer := some (t + 1) }, [])
  | none => (x, [])

/-- The unit's frame-start work for one carrier (R89). -/
def rxFrameWork (env : RxEnv) (x : RxContext) : RxContext × List Report :=
  if x.phase = .standby then (x, [])
  else
    let x1 := guardTick env x
    let (x2, r2) := armedTick env x1
    let (x3, r3) := timerTick env x2
    (x3, r2 ++ r3)

/-! ### Commits, losses, abort and resume -/

/-- What a commit that enables or disables the carrier clears (R72). -/
def clearContext (x : RxContext) : RxContext :=
  { x with active := 0, linked := false, timer := none, armed := none, refused := none, m := 1,
           upCounter := 65535, guardOpen := false }

/-- A commit's effect on the context (R72, R73), with the new working set in the environment. -/
def rxCommit (env : RxEnv) (oldEnable newEnable : Bool) (x : RxContext) : RxContext × List Report :=
  match oldEnable, newEnable with
  | false, true => ({ clearContext x with phase := .acquire }, [])
  | true, false => ({ clearContext (cancelRequest x) with phase := .standby }, [])
  | true, true =>
    let (x1, r1) := if env.table.length ≤ x.active then slipTo env 0 x else (x, [])
    let x2 := match x1.armed with
      | some ar => if env.table.length ≤ ar.next then { x1 with armed := none } else x1
      | none => x1
    let x3 := match x2.request.target with
      | some t => if env.ceiling < t then cancelRequest x2 else x2
      | none => x2
    (reloadHold env x3, r1)
  | false, false => (x, [])

/-- Frame loss on an enabled carrier's context (R74). -/
def rxFrameLoss (x : RxContext) : RxContext :=
  { cancelRequest x with phase := .acquire, armed := none, timer := none, refused := none, linked := false,
                         guardOpen := false }

/-- Signalling loss (R95). -/
def rxSigLoss (x : RxContext) : RxContext :=
  match x.phase with
  | .acquire => { cancelRequest x with phase := .siglost }
  | .working => { cancelRequest x with phase := .siglost }
  | .siglost => x
  | .standby => x

/-- Signalling recovery (R95). -/
def rxSigRecovery (x : RxContext) : RxContext :=
  match x.phase with
  | .siglost => { x with phase := .acquire, linked := false }
  | .acquire => x
  | .working => x
  | .standby => x

/-! ### What the host sees (R71, R97) -/

/-- The receive state the host reads (R71). -/
inductive RxView where
  | standby | acquire | steady | requesting | switching | siglost
  deriving DecidableEq, Repr

def rxView (x : RxContext) : RxView :=
  match x.phase with
  | .standby => .standby
  | .acquire => .acquire
  | .siglost => .siglost
  | .working =>
    if x.armed.isSome then .switching
    else if isOpen x then .requesting
    else .steady

/-- The hold remaining, present while the carrier is counting toward an upgrade (R97). -/
def holdRemaining (env : RxEnv) (x : RxContext) : Option Nat :=
  if (rxView x = .steady || rxView x = .requesting) && env.running && x.active < env.ceiling &&
     !isPaused env x && x.request.kind ≠ .down && x.request.kind ≠ .urgent then some x.hold
  else none

end Sys2Proof.Machine
end

