-- ==== Sys2Proof/Machine/Supervisor.lean ====
section
/-!
DEFINITION. The Fault Supervisor (10_faults_abort_and_resume): the abort as one act, the demand it follows from, the
far-end fault state, and the resume.
-/
namespace Sys2Proof.Machine

/-- A rule applied to the receive context of every enabled carrier. -/
def onEnabledRau (s : State) (f : Carrier → RxContext → RxContext) : State :=
  s.setRau (.ofFn fun c => if s.enabled c then f c (s.rau.get c) else s.rau.get c)

/-- The mapper's shadow discarded (R160). -/
def discardMapShadow (x : Mapper) : Mapper := { x with shadow := none }

/-- An announcement ends without a switch: the shadows prepared for it are discarded (R148, R162). -/
def discardShadows (s : State) : State :=
  (s.setPcu (discardPowerShadows s.pcu)).setMapper (discardMapShadow s.mapper)

/-- The abort handed to the Change Lane (R138); not handed over while FRAME_LOST (R174). -/
def abortLane (s : State) : State :=
  match s.port.link with
  | .frameLost => s
  | .running =>
    let s1 := if withdrawable s.lane then discardShadows s else s
    s1.setLane (laneAbort s.working s.lane)

/-- An abort (R173, R174): the state, the event, then the lane, the receive units and the power control. -/
def linkAbort (cause : AbortCause) (s : State) : State :=
  let s1 := (s.setFault { s.fault with state := .aborted, cause := some cause }).report
    [{ kind := .aborted, index := 0, edge := some .enter }]
  let s2 := onEnabledRau (abortLane s1) fun _ x => cancelRequest x
  settleHolds s s2

/-- The demand derived again after an event (R171): when it passes from clear to holding while RUNNING, the link is
aborted. `heldBefore` is the demand before the event. -/
def rederiveDemand (heldBefore : Bool) (cause : AbortCause) (s : State) : State :=
  if !heldBefore && abortDemand s && s.fault.state = .running then linkAbort cause s else s

/-- A far-end fault state stored. -/
def storeFarFault (c : Carrier) (v : Bool) (s : State) : State :=
  s.setFault { s.fault with farFault := s.fault.farFault.set c v }

/-- A valid field's EQUIP_FAULT handed over (R170). -/
def takeEquipFault (c : Carrier) (v : Bool) (s : State) : State :=
  if v && !s.fault.farFault.get c then
    rederiveDemand (abortDemand s) (.far c) ((storeFarFault c true s).report [occurrence .farFault c.toNat])
  else storeFarFault c v s

/-- A change of the level of the FAULT input (R169); a level that is no change brings nothing. -/
def takeFaultLevel (v : Bool) (s : State) : State :=
  if v = s.fault.faultLevel then s
  else
    let s1 := s.setFault { s.fault with faultLevel := v }
    if v then rederiveDemand (abortDemand s) .localFault (s1.report [occurrence .localFault 0]) else s1

/-- The sources whose condition stands, as causes. -/
def standingCauses (s : State) : List AbortCause :=
  (if localStands s then [.localFault] else []) ++ (Carrier.all.filter (farStands s)).map .far

/-- The cause a commit's abort names (R171): the standing source; a free one of them when several stand
(notes/assumptions/10). -/
def commitCause (s : State) : AbortCause :=
  match standingCauses s with
  | [] => .localFault
  | [cause] => cause
  | cause :: rest => (cause :: rest).getD (Config.freeCause s.freeCount % (rest.length + 1)) cause

/-- The demand derived again after a commit (R171). -/
def rederiveAfterCommit (heldBefore : Bool) (s : State) : State :=
  if !heldBefore && abortDemand s && s.fault.state = .running then
    linkAbort (commitCause s) (s.setFreeCount (s.freeCount + 1))
  else s

/-- RESUME's one act (R175). -/
def linkResume (s : State) : State :=
  let s1 := (s.setFault { s.fault with state := .running }).report
    [{ kind := .aborted, index := 0, edge := some .leave }]
  let s2 := onEnabledRau s1 fun c x => reloadHold (rxEnv s1 c) x
  settleHolds s s2

end Sys2Proof.Machine
end

