-- ==== Sys2Proof/Machine/Signalling.lean ====
section
/-!
DEFINITION. The Signalling Unit (06_the_adaptation_field_and_far_end_signalling): the judging, counting and routing of
a field handed over, signalling loss and recovery, and the composition of the outgoing field.
-/
namespace Sys2Proof.Machine

/-- A carrier's signalling items stored. -/
def storeSig (c : Carrier) (x : SigCarrier) (s : State) : State := s.setSig (s.sig.set c x)

/-- A carrier's receive context changed, with the events it reports. -/
def storeRau (c : Carrier) (x : RxContext × List Report) (s : State) : State :=
  (s.setRau (s.rau.set c x.1)).report x.2

/-- An internal SIGLOSS entry handed to the lane under DROP_TO_BASE (R113). -/
def dropToBase (c : Carrier) (s : State) : State :=
  if 0 < s.lane.txBound c then s.setLane (s.lane.update c (intakeOwn .sigloss .urgent 0)) else s

/-- The loss policy (R113, R114). -/
def applyLossPolicy (c : Carrier) (s : State) : State :=
  match (s.params c).lossPolicy with
  | .dropToBase => dropToBase c s
  | .freeze => s

/-- A carrier enters SIG_LOST (R112): the receive unit, the power control, the lane, then the loss policy. -/
def enterSigLost (c : Carrier) (s : State) : State :=
  let s1 := (storeSig c { s.sig.get c with lost := true, invalidRun := 0, validRun := 0 } s).report
    [{ kind := .sigLost, index := c.toNat, edge := some .enter }]
  let s2 := s1.setRau (s1.rau.set c (rxSigLoss (s1.rau.get c)))
  let s3 := settleHolds s s2
  applyLossPolicy c (s3.setLane (s3.lane.update c refuseFarUp))

/-- The receive unit takes a valid field (R85). -/
def routeToReceive (c : Carrier) (p : FieldParts) (ans : AnsKind) (s : State) : State :=
  storeRau c (takeField (rxEnv s c) (s.est.get c).seeded p ans (s.rau.get c)) s

/-- The lane's intake takes a field's request part (R122 to R126). -/
def routeToLane (c : Carrier) (p : FieldParts) (s : State) : State :=
  s.setLane (s.lane.update c
    (intakeRequest (s.params c).txCeiling s.working.table.length (s.fault.state = .aborted) s.port.current
      p.reqKind p.reqSeq p.reqTarget))

/-- A valid field of a LINKED carrier routed in full (R111). -/
def routeFull (c : Carrier) (p : FieldParts) (ans : AnsKind) (s : State) : State :=
  takeMargin c p.margin p.fade (routeToLane c p (routeToReceive c p ans (takeEquipFault c p.equipFault s)))

/-- A valid field of a SIG_LOST carrier routed in part (R115). -/
def routePart (c : Carrier) (p : FieldParts) (ans : AnsKind) (s : State) : State :=
  routeToReceive c p ans (takeEquipFault c p.equipFault s)

/-- Recovery, steps 1 to 4 of R116. -/
def recoverSig (c : Carrier) (s : State) : State :=
  let s1 := (storeSig c { s.sig.get c with lost := false, invalidRun := 0, validRun := 0 } s).report
    [{ kind := .sigLost, index := c.toNat, edge := some .leave }]
  let s2 := s1.setRau (s1.rau.set c (rxSigRecovery (s1.rau.get c)))
  settleHolds s s2

/-- An invalid field or missing notice handed over (R110, R115). -/
def takeInvalid (c : Carrier) (s : State) : State :=
  let x := s.sig.get c
  if x.lost then storeSig c { x with validRun := 0 } s
  else if s.working.link.sigLoss ≤ x.invalidRun + 1 then enterSigLost c s
  else storeSig c { x with invalidRun := x.invalidRun + 1 } s

/-- A valid field handed over (R110, R111, R115, R116). -/
def takeValid (c : Carrier) (f : RawField) (ans : AnsKind) (s : State) : State :=
  let p := fieldParts f
  let x := { s.sig.get c with lastValid := some { bytes := f, frame := s.port.current } }
  if x.lost then
    if s.working.link.sigRecover ≤ x.validRun + 1 then
      routeFull c p ans (recoverSig c (storeSig c { x with validRun := x.validRun + 1 } s))
    else routePart c p ans (storeSig c { x with validRun := x.validRun + 1 } s)
  else routeFull c p ans (storeSig c { x with invalidRun := 0 } s)

/-- A field or missing notice handed over for a carrier (R101, R102): none is an UNDECODABLE field or a missing
notice. -/
def handField (c : Carrier) (field : Option RawField) (s : State) : State :=
  match field with
  | none => takeInvalid c s
  | some f =>
    if fieldValid s.working.table.length f then
      match (fieldParts f).ansKind with
      | some ans => takeValid c f ans s
      | none => takeInvalid c s
    else takeInvalid c s

/-! ### Composition (R103 to R107) -/

/-- The parts of a carrier's outgoing field, its answer kind apart (R104, R105, R107). -/
def composeParts (s : State) (c : Carrier) : FieldParts :=
  let x := s.lane.carriers.get c
  let r := (s.rau.get c).request
  let announced := match s.lane.announcement with
    | some a => match a.member? c with
      | some m => (m.toP, a.count)
      | none => (15, 0)
    | none => (15, 0)
  { ver := 1, active := x.active, next := announced.1, count := announced.2,
    fade := (s.est.get c).fade, reqKind := r.kind, reqSeq := r.seq, ansSeq := x.answer.seq,
    reqTarget := r.target.getD 15, ansKind := some x.answer.kind, equipFault := s.fault.faultLevel,
    margin := (s.est.get c).margin, aborted := s.fault.state = .aborted }

/-- The carrier's outgoing field (R103): its bytes with the CRC. -/
def composeField (s : State) (c : Carrier) : RawField :=
  writeField (composeParts s c) (s.lane.carriers.get c).answer.kind

end Sys2Proof.Machine
end

