-- ==== Sys2Proof/Machine/CommitWork.lean ====
section
/-!
DEFINITION. The commit (R183): the staged set becomes the working set and every block does its part, as the table of
R183 lists them.
-/
namespace Sys2Proof.Machine

/-- A rule that gives each carrier a new item and reports, over all carriers. -/
def perCarrier {α : Type} (f : Carrier → α × List Report) : Four α × List Report :=
  (.ofFn fun c => (f c).1, Carrier.all.flatMap fun c => (f c).2)

/-- The working set that a staged set becomes (R61, R183): slots 0 to T − 1 are copied. -/
def stagedAsWorking (x : StagedSet) : WorkingSet :=
  { link := x.link, carriers := x.carriers, table := (stagedTable x).getD [], classes := x.classes }

/-- The commit enables or disables the carrier. -/
def enableChanges (old new : WorkingSet) (c : Carrier) : Bool :=
  (old.carriers.get c).enable ≠ (new.carriers.get c).enable

/-- The staged set put in force, the flag cleared, APPLY_DONE (R183). -/
def commitConfiguration (s : State) : State :=
  ((s.setWorking (stagedAsWorking s.staged)).setApplyPending false).report [occurrence .applyDone 0]

/-- The Change Lane's part (R131). -/
def commitLane (old : WorkingSet) (s : State) : State := s.setLane (laneCommit old s.working s.lane)

/-- The Receive Adaptation Unit's part (R72, R73). -/
def commitRau (old : WorkingSet) (s : State) : State :=
  let r := perCarrier fun c =>
    rxCommit (rxEnv s c) (old.carriers.get c).enable (s.enabled c) (s.rau.get c)
  (s.setRau r.1).report r.2

/-- The Margin Estimator's part (R20, R37). -/
def commitEst (old : WorkingSet) (s : State) : State :=
  let r := perCarrier fun c => if enableChanges old s.working c then unseed c (s.est.get c) else (s.est.get c, [])
  (s.setEst r.1).report r.2

/-- One carrier's part of the Branch Monitor's part (R47, R50). -/
def commitMonitorCarrier (old : WorkingSet) (c : Carrier) (s : State) : State :=
  let r := monitorCommit s.working.link c (old.carriers.get c) (s.params c) s.monitor
  (s.setMonitor r.1).report r.2

/-- The Branch Monitor's part (R47, R50, R52). -/
def commitMonitor (old : WorkingSet) (s : State) : State :=
  Carrier.all.foldl (fun t c => commitMonitorCarrier old c t) s

/-- Report Intake's part (R11, R12). -/
def commitIntake (old : WorkingSet) (s : State) : State :=
  s.setIntake (.ofFn fun c => if enableChanges old s.working c then .initial else s.intake.get c)

/-- The Signalling Unit's part (R109). -/
def commitSig (old : WorkingSet) (s : State) : State :=
  let r := perCarrier fun c =>
    if enableChanges old s.working c then
      (SigCarrier.initial, conditionEdge .sigLost c.toNat (s.sig.get c).lost false)
    else (s.sig.get c, [])
  (s.setSig r.1).report r.2

/-- The Power Control Unit's part (R150). -/
def commitPower (old : WorkingSet) (s : State) : State :=
  s.setPcu (.ofFn fun c =>
    powerCommit (old.carriers.get c) (s.params c) ((s.sig.get c).lost || s.fault.state = .aborted) (s.pcu.get c))

/-- The Capacity Mapper's part (R163, R164), after the lane's. -/
def commitMapper (old : WorkingSet) (n : FrameNo) (s : State) : State :=
  let r := mapperCommit s.working
    (fun c => (old.carriers.get c).enable && !s.enabled c) s.lane n s.mapper
  (s.setMapper r.1).report r.2

/-- The Modem Port's part: a carrier that the commit enables or disables is not counted (R8). -/
def commitPort (old : WorkingSet) (s : State) : State :=
  s.setPortCarriers (.ofFn fun c =>
    if enableChanges old s.working c then { s.port.carriers.get c with missed := 0 } else s.port.carriers.get c)

/-- The far-end fault states that the commit clears (R170). -/
def commitFarFault (old : WorkingSet) (s : State) : State :=
  s.setFault { s.fault with
    farFault := .ofFn fun c => if enableChanges old s.working c then false else s.fault.farFault.get c }

/-- The commit made at FRAME_START(n) (R183). The abort that it may raise comes after every block's part (R171). -/
def commitWork (n : FrameNo) (s : State) : State :=
  let old := s.working
  let s1 := commitLane old (commitConfiguration s)
  let s2 := commitMonitor old (commitEst old (commitRau old s1))
  let s3 := commitMapper old n (commitPower old (commitSig old (commitIntake old s2)))
  rederiveAfterCommit (abortDemand s) (commitFarFault old (commitPort old s3))

/-- The commit is made at this frame start: an APPLY pending and the lane idle after its countdown (R131, R183). -/
def commitDue (s : State) : Bool := s.applyPending && (s.lane.isIdle || announcementDue s.lane)

/-- The carrier is enabled once any commit made at this frame start has taken effect. -/
def enabledAfter (s : State) (c : Carrier) : Bool :=
  if commitDue s then (s.staged.carriers.get c).enable else s.enabled c

end Sys2Proof.Machine
end

