-- ==== Sys2Proof/Machine/FrameWork.lean ====
section
/-!
DEFINITION. The work of a frame start, block by block, the deliveries to the modem (R14 to R16), reports accepted and
synthesised (R9, R12), and frame loss (R5).
-/
namespace Sys2Proof.Machine

/-! ### Reports -/

/-- A report, real or synthesised, handed to the estimator and on to the receive unit (R21, R35). -/
def takeReport (c : Carrier) (a b : Option BranchPart) (errors : Nat) (s : State) : State :=
  let mode := (s.params c).mode
  let health := s.monitor.branches.get c
  let combined := combineBranches mode (eligibleSnr mode .a health.a.health a) (eligibleSnr mode .b health.b.health b)
  let r := estimateReport s.working c combined (s.est.get c)
  let s1 := (s.setEst (s.est.set c r.1)).report r.2
  match r.1.est with
  | some x =>
    s1.setRau (s1.rau.set c
      (takeHandover (rxEnv s1 c) { pr := x.pr, blind := combined.isNone, errors := errors } (s1.rau.get c)))
  | none => s1

/-- A blind report is due for a carrier: its missed-report count is at least report_loss (R9), as the working set holds
it when the report is handed over; so a commit at this frame start counts only for a later hand-over. DESIGN CHOICE,
notes/assumptions/27. -/
def blindDue (s : State) (c : Carrier) : Bool :=
  s.working.link.reportLoss ≤ (s.port.carriers.get c).missed

/-- The blind report of a carrier: no branch parts, no errored blocks (R9). -/
def takeBlind (c : Carrier) (s : State) : State := takeReport c none none 0 s

/-- The blind reports of the counted carriers (R9). -/
def takeBlinds (counted : Four Bool) (s : State) : State :=
  Carrier.all.foldl (fun t c => if counted.get c && blindDue t c then takeBlind c t else t) s

/-- The missing notices of carriers (R13). -/
def takeNotices (missing : Four Bool) (s : State) : State :=
  Carrier.all.foldl (fun t c => if missing.get c then handField c none t else t) s

/-! ### The blocks' own work -/

/-- The receive units' frame-start work (R89). -/
def rauWork (s : State) : State :=
  let r := perCarrier fun c => rxFrameWork (rxEnv s c) (s.rau.get c)
  (s.setRau r.1).report r.2

/-- The mapper's frame-start work (R161). -/
def mapperWork (s : State) : State :=
  let r := mapperTick s.mapper
  (s.setMapper r.1).report r.2

/-- The period counters and shadows of the power control (R145, R148). -/
def powerWork (s : State) : State :=
  s.setPcu (.ofFn fun c => (powerShadowTick (periodTick (s.pcu.get c))).1)

/-- The to profiles of the shadows that load at this frame start (R148). -/
def loadedProfiles (s : State) : Four (Option Nat) := .ofFn fun c => (powerShadowTick (s.pcu.get c)).2

/-- The lane's countdown and switch (R130 step 1). -/
def laneStep1 (s : State) : State :=
  let r := laneCountdown s.working s.lane
  (s.setLane r.1).report r.2

/-- The shadows recorded for an announcement that has just started (R134, R148, R162). -/
def handAnnouncement (s : State) : State :=
  match s.lane.announcement with
  | some a =>
    (s.setPcu (recordPowerShadows a s.pcu)).setMapper (announcementShadow s.working s.lane a s.mapper)
  | none => s

/-- The lane's selection, with the hand-over of an announcement it starts (R130 step 3). -/
def laneStep3 (n : FrameNo) (s : State) : State :=
  handAnnouncement
    (s.setLane (laneSelect s.working.link n (s.fault.state = .running) s.applyPending s.lane))

/-- The withdrawal of an upgrade and the bundle that follows it at the same frame start (R135). The bundle, its count and
whether one starts are R132's on the table after the re-check, also where the re-check removed the only URGENT entry (an UP
from P0 to P1 whose own member holds a SIGLOSS entry). DESIGN CHOICE, notes/assumptions/31. -/
def laneStep4 (n : FrameNo) (s : State) : State :=
  let s1 := discardShadows (s.setLane (laneWithdraw s.working restoreMember s.lane))
  handAnnouncement (s1.setLane (laneSelect s1.working.link n false s1.applyPending s1.lane))

/-- The lane's work at FRAME_START(n) (R130), the commit of step 2 included. -/
def laneWork (n : FrameNo) (s : State) : State :=
  let s1 := laneStep1 s
  if s1.lane.isIdle then
    if s1.applyPending then commitWork n s1 else laneStep3 n s1
  else if withdrawable s1.lane && hasUrgent s1.lane then laneStep4 n s1
  else s1

/-- The grace counters (R41 step 1). -/
def graceWork (s : State) : State := s.setMonitor (graceTick s.monitor)

/-- The scan (R41 steps 2 and 3). -/
def scanWork (n : FrameNo) (pass : Carrier → Bool) (s : State) : State :=
  let r := scanBranch s.working n pass s.intake s.monitor
  (s.setMonitor r.1).report r.2

/-- What a restoring FRAME_START puts in force before the blocks' work (R7's table): RX and TX active P0, the hold for
FRAME_LOST released, the placement at P0 asked for. `lost` is the state before the restoration. -/
def restoreBlocks (n : FrameNo) (lost : State) (s : State) : State :=
  let s1 := onEnabledRau s fun _ x => { x with active := 0 }
  let s2 := s1.setLane (laneRestore s1.working s1.lane)
  let s3 := settleHolds lost s2
  s3.setMapper (mapperRestore s3.working n s3.mapper)

/-- The blocks' own work at FRAME_START(n), in the order that their rules give (notes/assumptions/4). `before` is the
state that the frame start found, `pass` the carriers that the scan passes over, `restore` what a restoring frame
start adds. -/
def blockWork (n : FrameNo) (pass : Carrier → Bool) (restore : State → State) (s : State) : State :=
  let loaded := loadedProfiles s
  let s1 := powerWork (mapperWork (graceWork s))
  let s2 := laneWork n (rauWork (restore s1))
  computeAtten loaded (scanWork n (fun c => pass c || enableChanges s.working s2.working c) s2)

/-! ### Deliveries to the modem -/

/-- The settings of a carrier for frame n (R15). -/
def gatherSettings (s : State) (n : FrameNo) (c : Carrier) : CarrierSettings :=
  if s.enabled c then
    { frame := n, rxModCode := modCodeOf s.working.table (s.rau.get c).active,
      txModCode := modCodeOf s.working.table (s.txActive c), atten := (s.pcu.get c).eff,
      output := txOutput s c, slotMap := s.mapper.active.maps.get c }
  else { frame := n, rxModCode := none, txModCode := none, atten := 0, output := .muted, slotMap := [] }

/-- The deliveries of FRAME_START(n): a CARRIER_SETTINGS for each carrier and a FIELD_OUT for each enabled one
(R14, R15). -/
def deliver (n : FrameNo) (s : State) : State :=
  s.setPort { s.port with
    fieldOut := .ofFn fun c => if s.enabled c then some { frame := n, bytes := composeField s c } else none,
    settings := .ofFn fun c => some (gatherSettings s n c) }

/-- The frame watch started at its full duration, from the working set as it stands now (R5). -/
def startWatch (s : State) : State := s.setPort { s.port with watch := some s.working.link.frameWatch }

/-! ### FRAME_START -/

/-- The port's items at a frame start that counts no carrier (R4, R7). -/
def uncountedPort (n : FrameNo) (x : Port) : Port :=
  { x with current := some n, previous := none, link := .running,
           carriers := .fill { missed := 0, arrival := false, fieldTaken := false } }

/-- The first FRAME_START after a reset (R4). -/
def firstFrame (n : FrameNo) (s : State) : State :=
  let s1 := s.setPort (uncountedPort n s.port)
  deliver n (startWatch (blockWork n (fun _ => true) id s1))

/-- The restoring FRAME_START (R7). It counts the grace counters down and uses up one slot of the scan, as R41 says of
it, although R40 says that it leaves both as they stand. DEDUCED, notes/assumptions/28. -/
def restoringFrame (n : FrameNo) (s : State) : State :=
  let s1 := (s.setPort { s.port with link := .running }).report
    [{ kind := .frameLost, index := 0, edge := some .leave }]
  let s2 := (s1.setPort (uncountedPort n s1.port)).setIntake (.fill .initial)
  deliver n (startWatch (blockWork n (fun _ => true) (restoreBlocks n s) s2))

/-- Carriers counted at this frame start: enabled before and after any commit made at it (R8). -/
def countedCarriers (s : State) : Four Bool := .ofFn fun c => s.enabled c && enabledAfter s c

/-- Counted carriers for which no field was taken in the frame just ended (R13). -/
def missingCarriers (s : State) : Four Bool :=
  .ofFn fun c => (countedCarriers s).get c && !(s.port.carriers.get c).fieldTaken

/-- The missed-report count at a frame start (R8). -/
def missedAfter (counted : Bool) (x : PortCarrier) : Nat :=
  if counted then (if x.arrival then 0 else min 255 (x.missed + 1)) else 0

/-- Steps 1, 2, 4 (the counts) and 6 of R3. -/
def adoptFrame (n cur : FrameNo) (s : State) : State :=
  let s1 := if n = cur + 1 then s else s.report [occurrence .frameSlip 0]
  s1.setPort { s1.port with
    current := some n, previous := some cur,
    carriers := .ofFn fun c =>
      { missed := missedAfter ((countedCarriers s).get c) (s.port.carriers.get c), arrival := false,
        fieldTaken := false } }

/-- A FRAME_START in RUNNING with a frame number present (R3), the hand-overs taken when `order` says. -/
def ordinaryFrame (n cur : FrameNo) (order : FrameOrder) (s : State) : State :=
  let counted := countedCarriers s
  let missing := missingCarriers s
  let handovers (time : HandoverTime) (t : State) : State :=
    let t1 := if order.reports = time then takeBlinds counted t else t
    if order.notices = time then takeNotices missing t1 else t1
  let s1 := handovers .beforeBlocks (adoptFrame n cur s)
  let s2 := startWatch (blockWork n (fun _ => false) id s1)
  handovers .last (deliver n (handovers .beforeFields s2))

/-- FRAME_START(n) (R3, R4, R7). -/
def takeFrameStart (n : FrameNo) (order : FrameOrder) (s : State) : State :=
  match s.port.link, s.port.current with
  | .frameLost, _ => restoringFrame n s
  | .running, none => firstFrame n s
  | .running, some cur => ordinaryFrame n cur order s

/-! ### Frame loss -/

/-- The muting delivery to every enabled carrier at a frame loss (R5, R17): MUTED and an empty map, the other values as
last delivered. -/
def muteSettings (s : State) : State :=
  match s.port.current with
  | some n =>
    s.setPort { s.port with
      settings := .ofFn fun c =>
        if s.enabled c then
          some { ((s.port.settings.get c).getD (gatherSettings s n c)) with
                 frame := n, output := .muted, slotMap := [] }
        else s.port.settings.get c }
  | none => s

/-- Every carrier unseeded at a frame loss (R20). -/
def lossEst (s : State) : State :=
  let r := perCarrier fun c => unseed c (s.est.get c)
  (s.setEst r.1).report r.2

/-- Every carrier LINKED at a frame loss (R109). -/
def lossSig (s : State) : State :=
  let r := perCarrier fun c => (SigCarrier.initial, conditionEdge .sigLost c.toNat (s.sig.get c).lost false)
  (s.setSig r.1).report r.2

/-- The mapper at a frame loss (R165). -/
def lossMapper (s : State) : State :=
  let r := mapperFrameLoss s.mapper
  (s.setMapper r.1).report r.2

/-- Frame loss: the expiry of the frame watch in RUNNING (R5 and the table of R7). -/
def takeFrameLoss (s : State) : State :=
  let s1 := (s.setPort { s.port with link := .frameLost, watch := none }).report
    [{ kind := .frameLost, index := 0, edge := some .enter }]
  let s2 := lossEst (muteSettings s1)
  let s3 := onEnabledRau s2 fun _ x => rxFrameLoss x
  let s4 := s3.setLane (laneFrameLoss s3.lane)
  let s5 := s4.setPcu (.ofFn fun c => powerFrameLoss (s4.pcu.get c))
  let s6 := lossSig (lossMapper s5)
  s6.setFault { s6.fault with farFault := .fill false }

end Sys2Proof.Machine
end

