-- ==== Sys2Proof/Machine/FrameSteps.lean ====
section
/-!
DEFINITION. The pieces of the frame-start work that the opcode table lists as steps of their own, each taken alone:
the operation that FRAME_START uses, on its occasion. FRAME_START carries all of them out itself; where a step's
occasion does not stand, nothing happens (notes/assumptions/2).
-/
namespace Sys2Proof.Machine

/-- A rule applied on its occasion. -/
def onOccasion (due : Bool) (f : State → State) (s : State) : State := if due then f s else s

/-- BLIND_REPORT (R9): the missed-report count has reached report_loss. -/
def execBlindReport (c : Carrier) (s : State) : Host.Outcome State Fault Refusal :=
  .next (onOccasion (s.frameRunning && s.enabled c && blindDue s c) (takeBlind c) s)

/-- A carrier's grace counter goes from 1 to 0, and SCAN leaves its pause set (R49). -/
def expireGrace (c : Carrier) (s : State) : State :=
  s.setMonitor { s.monitor with grace := s.monitor.grace.set c 0 }

/-- GRACE_EXPIRY (R49). -/
def execGraceExpiry (c : Carrier) (s : State) : Host.Outcome State Fault Refusal :=
  .next (onOccasion (s.frameRunning && s.monitor.grace.get c = 1) (expireGrace c) s)

/-- The carrier's receive context is in service (R89). -/
def inService (s : State) (c : Carrier) : Bool := s.frameRunning && (s.rau.get c).phase ≠ .standby

/-- PINGPONG_WINDOW_EXPIRY (R94): the up-switch counter of an open guard reaches pingpong_window. -/
def execPingpongWindowExpiry (c : Carrier) (s : State) : Host.Outcome State Fault Refusal :=
  .next (onOccasion (inService s c && windowExpires (rxEnv s c) (s.rau.get c))
    (fun t => storeRau c (guardTick (rxEnv t c) (t.rau.get c), []) t) s)

/-- RX_SWITCH (R89, R90): an armed switch counts down to 0. -/
def execRxSwitch (c : Carrier) (s : State) : Host.Outcome State Fault Refusal :=
  .next (onOccasion (inService s c && switchDue (s.rau.get c))
    (fun t => storeRau c (armedTick (rxEnv t c) (t.rau.get c)) t) s)

/-- REQUEST_TIMEOUT (R87): a running answer timer reaches answer_timeout. -/
def execRequestTimeout (c : Carrier) (s : State) : Host.Outcome State Fault Refusal :=
  .next (onOccasion (inService s c && timeoutDue (rxEnv s c) (s.rau.get c))
    (fun t => storeRau c (timerTick (rxEnv t c) (t.rau.get c)) t) s)

/-- ANNOUNCEMENT_SWITCH (R130): the announcement's count reaches 0. -/
def execAnnouncementSwitch (s : State) : Host.Outcome State Fault Refusal :=
  .next (onOccasion (s.frameRunning && announcementDue s.lane) laneStep1 s)

/-- A carrier's switch shadow is loaded: removed, and its to profile sets the floor of the effective attenuation of
this frame (R147, R148). -/
def loadPowerShadow (c : Carrier) (s : State) : State :=
  match (powerShadowTick (s.pcu.get c)).2 with
  | some toP =>
    s.setPcu (s.pcu.set c { (powerShadowTick (s.pcu.get c)).1 with
      eff := if s.enabled c then effectiveAtten s.working.table toP (s.pcu.get c) else 0 })
  | none => s

/-- PCU_SHADOW_LOAD (R148). -/
def execPcuShadowLoad (c : Carrier) (s : State) : Host.Outcome State Fault Refusal :=
  .next (onOccasion (s.frameRunning && powerShadowDue (s.pcu.get c)) (loadPowerShadow c) s)

/-- MAP_SHADOW_LOAD (R161): the mapper's shadow counts down to 0. -/
def execMapShadowLoad (s : State) : Host.Outcome State Fault Refusal :=
  .next (onOccasion (s.frameRunning && mapShadowDue s.mapper) mapperWork s)

/-- The commit at the frame start of the current frame, with the attenuation, the watch and the deliveries that
follow it (R183, R147, R5, R14, R15). -/
def commitStep (s : State) : State :=
  match s.port.current with
  | some n => deliver n (startWatch (computeAtten (.fill none) (commitWork n s)))
  | none => s

/-- COMMIT (R183): an APPLY pending at a lane-idle frame start. -/
def execCommit (s : State) : Host.Outcome State Fault Refusal :=
  .next (onOccasion (s.frameRunning && s.applyPending && s.lane.isIdle) commitStep s)

end Sys2Proof.Machine
end

