-- ==== Sys2Proof/Machine/Formats.lean ====
section
/-!
DEFINITION. The payloads of the replies to the READ messages (11.6), byte by byte.
-/
namespace Sys2Proof.Machine

/-- A byte from its bits, bit 0 first. -/
def bitsByte (bits : List Bool) : Byte := byteOf (bits.foldr (fun b n => (if b then 1 else 0) + 2 * n) 0)

/-- A list of bytes brought to a length with zero bytes ("every byte of an unused slot, is sent as 0", 11.6). -/
def padTo (n : Nat) (bytes : List Byte) : List Byte := (bytes ++ List.replicate n 0).take n

/-! ### READ_BRANCHES (R53) -/

def BranchHealth.byte : BranchHealth → Byte
  | .healthy => 0 | .suspect => 1 | .faulted => 2 | .excluded => 3

/-- A branch record: flags, snr as reported, level, frame number. -/
def recordBytes : Option BranchRecord → List Byte
  | none => [0, 0, 0, 0, 0]
  | some r =>
    match r.part with
    | none => [bitsByte [true, false, false], 0, 0] ++ frameBytes r.frame
    | some p => [bitsByte [true, true, p.lock], p.snr, BitVec.ofInt 8 p.level] ++ frameBytes r.frame

def branchBytes (b : BranchState) (record : Option BranchRecord) : List Byte :=
  [b.health.byte, byteOf b.badRun, byteOf b.goodRun] ++ recordBytes record

/-- The scan position as a slot, 0 to 7. -/
def scanSlot (x : Monitor) : Nat :=
  match x.scanSide with
  | .a => 2 * x.scanCarrier.toNat
  | .b => 2 * x.scanCarrier.toNat + 1

def branchesPayload (s : State) : List Byte :=
  [Status.ok.code] ++
  (Carrier.all.flatMap fun c =>
    branchBytes (s.monitor.branches.get c).a (s.intake.get c).records.a ++
    branchBytes (s.monitor.branches.get c).b (s.intake.get c).records.b) ++
  (Carrier.all.flatMap fun c =>
    [(s.params c).mode.code, byteOf (s.monitor.grace.get c), flagByte (scanPauses s c)]) ++
  [byteOf (scanSlot s.monitor)]

/-! ### READ_LANE (R141) -/

/-- An origin: its code, and the seq of a FAR origin or 0. -/
def Origin.bytes : Origin → List Byte
  | .far seq => [0, seq.setWidth 8]
  | .own .sigloss => [1, 0]
  | .own .ceiling => [2, 0]
  | .own .abort => [3, 0]

def ChangeKind.byte : ChangeKind → Byte
  | .up => 1 | .down => 2 | .urgent => 3

def memberBytes (m : Member) : List Byte :=
  [byteOf m.carrier.toNat, byteOf m.fromP, byteOf m.toP] ++ m.origin.bytes

/-- The announcement: kind, count, switch frame, number of members, four member slots. -/
def announcementBytes : Option Announcement → List Byte
  | none => [0xFF, 0, 0, 0, 0] ++ padTo 20 []
  | some a =>
    [(match a.kind with
      | .up => 0
      | .down => 1), byteOf a.count] ++ frameBytes a.switchFrame ++ [byteOf a.members.length] ++
    padTo 20 (a.members.flatMap memberBytes)

/-- A pending-entry slot. -/
def entryBytes : Option Entry → List Byte
  | none => [0, 0, 0, 0, 0, 0, 0, 0]
  | some (.far seq kind target arrival restored) =>
    [bitsByte [true, arrival.isSome, kind = .up, kind = .up && restored, false]] ++ (Origin.far seq).bytes ++
    [kind.byte, byteOf target] ++ frameBytes (arrival.getD 0) ++ [0]
  | some (.own maker kind target absorbed) =>
    [bitsByte [true, false, false, false, absorbed.isSome]] ++ (Origin.own maker).bytes ++
    [kind.byte, byteOf target, 0, 0, (absorbed.getD 0).setWidth 8]

def laneCarrierBytes (x : LaneCarrier) : List Byte :=
  [byteOf x.active, flagByte x.hold, x.lastAnswered.setWidth 8, x.answer.kind.code.setWidth 8,
   x.answer.seq.setWidth 8]

def lanePayload (s : State) : List Byte :=
  [Status.ok.code, flagByte s.lane.announcement.isSome] ++ announcementBytes s.lane.announcement ++
  (Carrier.all.flatMap fun c => entryBytes (s.lane.carriers.get c).entry) ++
  (Carrier.all.flatMap fun c => laneCarrierBytes (s.lane.carriers.get c))

/-! ### READ_MAP (R167) -/

def PlaceState.byte : PlaceState → Byte
  | .inactive => 0 | .placed => 1 | .partly => 2 | .shed => 3

/-- A slot map: the number of pairs and eight pair slots. -/
def mapBytes (m : List (Cls × Nat)) : List Byte :=
  byteOf m.length :: padTo 16 (m.flatMap fun pair => [byteOf pair.1.toNat, byteOf pair.2])

/-- A derived entry: state, placed, the number of segments, four segment slots. -/
def classEntryBytes (e : ClassEntry) : List Byte :=
  [e.state.byte, byteOf e.placed, byteOf e.segments.length] ++
  padTo 8 (e.segments.flatMap fun seg => [byteOf seg.1.toNat, byteOf seg.2])

def mapPayload0 (s : State) : List Byte :=
  [Status.ok.code, 0] ++
  (Carrier.all.flatMap fun c =>
    [flagByte (s.enabled c), byteOf (if s.enabled c then capacityOf s.working.table (s.txActive c) else 0)] ++
    mapBytes (s.mapper.active.maps.get c)) ++
  (Cls.all.flatMap fun k => classBytes (s.working.classes.get k) ++ classEntryBytes (s.mapper.active.entries.get k))

def mapPayload1 (s : State) : List Byte :=
  match s.mapper.shadow with
  | none => [Status.ok.code, 1] ++ padTo 160 []
  | some sh =>
    [Status.ok.code, 1, 1, byteOf sh.remaining] ++ frameBytes sh.loadFrame ++
    (Carrier.all.flatMap fun c => mapBytes (sh.result.maps.get c)) ++
    (Cls.all.flatMap fun k => classEntryBytes (sh.result.entries.get k))

/-! ### READ_CARRIER (R97, R118, R141, R152, R176) -/

def RxView.byte : RxView → Byte
  | .standby => 0 | .acquire => 1 | .steady => 2 | .requesting => 3 | .switching => 4 | .siglost => 5

def TxView.byte : TxView → Byte
  | .disabled => 0 | .idle => 1 | .pending => 2 | .announced => 3

/-- A signed value in two bytes, two's complement, high byte first (R188). -/
def signed16 (x : Int) : List Byte := frameBytes (BitVec.ofInt 16 x)

/-- E, R and Pr. -/
def estimateBytes : Option Estimate → List Byte
  | some x => bytes16 x.e.toNat ++ signed16 x.r ++ bytes16 x.pr.toNat
  | none => [0xFF, 0xFF, 0x80, 0x00, 0xFF, 0xFF]

/-- The abort cause, and the carrier of a FAR cause or 0xFF. -/
def causeBytes : Option AbortCause → List Byte
  | none => [0, 0xFF]
  | some .localFault => [1, 0xFF]
  | some (.far c) => [2, byteOf c.toNat]
  | some .host => [3, 0xFF]

/-- The last received answer; the seq byte of an absent one is free (notes/assumptions/24). -/
def lastAnswerBytes (free : Nat → Byte) : Option Answer → List Byte
  | some a => [a.kind.code.setWidth 8, a.seq.setWidth 8]
  | none => [0xFF, free 20]

/-- The switch shadow; the count byte of an absent one is free (notes/assumptions/24). -/
def shadowBytes (free : Nat → Byte) : Option PowerShadow → List Byte
  | some sh => [byteOf sh.toP, byteOf sh.remaining]
  | none => [0xFF, free 25]

/-- The last valid field and its frame number; the bytes of an absent one are free (notes/assumptions/24). -/
def lastValidBytes (free : Nat → Byte) : Option TakenField → List Byte
  | some x =>
    [1, x.bytes.b0, x.bytes.b1, x.bytes.b2, x.bytes.b3, x.bytes.b4] ++
    (match x.frame with
      | some f => frameBytes f
      | none => [free 34, free 35])
  | none => [0, free 29, free 30, free 31, free 32, free 33, free 34, free 35]

def carrierPayload (s : State) (c : Carrier) : List Byte :=
  let x := s.rau.get c
  let est := s.est.get c
  let sig := s.sig.get c
  let power := s.pcu.get c
  let free := Config.freeReplyByte s.freeCount
  [Status.ok.code, byteOf c.toNat, (rxView x).byte, (txView (s.enabled c) s.lane c).byte, byteOf x.active,
   byteOf (s.txActive c)] ++
  estimateBytes est.est ++ [byteOf est.margin] ++
  [bitsByte [est.seeded, est.fade, x.hostPause, scanPauses s c, sig.lost, s.fault.farFault.get c,
             s.fault.faultLevel, s.fault.state = .aborted]] ++
  (match holdRemaining (rxEnv s c) x with
    | some h => bytes16 h
    | none => [0xFF, 0xFF]) ++
  [byteOf x.m, x.request.kind.code ++ x.request.seq ++ 0#3,
   (match x.request.target with
    | some t => byteOf t
    | none => 0xFF)] ++
  lastAnswerBytes free x.lastAnswer ++
  [byteOf power.atpc, byteOf power.period, byteOf power.eff] ++ shadowBytes free power.shadow ++
  [byteOf sig.invalidRun, byteOf sig.validRun] ++ lastValidBytes free sig.lastValid ++
  causeBytes s.fault.cause ++
  [abortSources s.working.link, flagByte (s.port.link = .frameLost)]

/-! ### READ_EVENTS (R185) -/

/-- Entry i: kind code; index, LEAVE edge in bit 6, absence of the frame number in bit 7; first frame number. The layout
states no code for the two bytes of an absent one, and they are free: DESIGN CHOICE, notes/assumptions/30. -/
def eventBytes (free : Nat → Byte) (i : Nat) (x : EventEntry) : List Byte :=
  [byteOf x.kind.code.val,
   flagBit x.frame.isNone ++ flagBit (x.edge = some .leave) ++ 0#2 ++ BitVec.ofNat 4 x.index] ++
  match x.frame with
  | some f => frameBytes f
  | none => [free (4 * i + 4), free (4 * i + 5)]

def eventsPayload (s : State) : List Byte :=
  [Status.ok.code, byteOf s.events.entries.length] ++
  s.events.entries.zipIdx.flatMap fun y => eventBytes (Config.freeReplyByte s.freeCount) y.2 y.1

/-! ### IDENTIFY, READ_STAGED and READ_WORKING (R180) -/

def LineRate.code : LineRate → Byte
  | .r115200 => 0 | .r460800 => 1 | .r921600 => 2

def identifyPayload (s : State) : List Byte :=
  [Status.ok.code, Config.identityCode, Config.revision, s.hml.rate.code, flagByte s.applyPending,
   byteOf s.working.length]

/-- A record of a set by selector and index, in the layout of its staging message; none when the selector or index is
out of range (R180). -/
def recordPayload (link : LinkParams) (carriers : Four CarrierParams) (slot : Nat → Option ProfileRecord)
    (length : Nat) (classes : Eight ClassRecord) (selector index : Nat) : Option (List Byte) :=
  match selector with
  | 0 => if index = 0 then some (linkBytes link) else none
  | 1 => (Carrier.ofNat? index).map fun c => carrierBytes (carriers.get c)
  | 2 => if index ≤ 11 then some (profileBytes (slot index)) else none
  | 3 => if index = 0 then some [byteOf length] else none
  | 4 => (Cls.ofNat? index).map fun k => classBytes (classes.get k)
  | _ => none

/-- A record of the staged set. -/
def stagedRecord (s : State) (selector index : Nat) : Option (List Byte) :=
  recordPayload s.staged.link s.staged.carriers (fun i => s.staged.slots[i]?.getD none) s.staged.tableLength
    s.staged.classes selector index

/-- A record of the working set. -/
def workingRecord (s : State) (selector index : Nat) : Option (List Byte) :=
  recordPayload s.working.link s.working.carriers (fun i => s.working.table[i]?) s.working.length
    s.working.classes selector index

end Sys2Proof.Machine
end

