-- ==== Sys2Proof/Machine/Messages.lean ====
section
/-!
DEFINITION. The host messages (R179, 11.2): what each does to the state and what its reply's payload is, and the
taking of a good frame with its one reply.
-/
namespace Sys2Proof.Machine

/-- A refused message: nothing changes, and the reply carries the status alone (R179). -/
def refuse (status : Status) (s : State) : State × List Byte := (s, [status.code])

/-- An accepted message whose reply carries the status alone. -/
def accept (s : State) : State × List Byte := (s, [Status.ok.code])

/-! ### Reading -/

/-- A message without a payload that changes nothing and is answered with a payload. -/
def readOnly (payload : List Byte) (reply : List Byte) (s : State) : State × List Byte :=
  match payload with
  | [] => (s, reply)
  | _ => refuse .badLength s

/-- READ_STAGED and READ_WORKING (R180). -/
def readRecord (record : Nat → Nat → Option (List Byte)) (payload : List Byte) (s : State) : State × List Byte :=
  match payload with
  | [selector, index] =>
    match record selector.toNat index.toNat with
    | some bytes => (s, [Status.ok.code, selector, index] ++ bytes)
    | none => refuse .badValue s
  | _ => refuse .badLength s

/-- READ_CARRIER; the model's counter of free values moves on. -/
def readCarrierMessage (payload : List Byte) (s : State) : State × List Byte :=
  match payload with
  | [c] =>
    match Carrier.ofNat? c.toNat with
    | some c => (s.setFreeCount (s.freeCount + 1), carrierPayload s c)
    | none => refuse .badValue s
  | _ => refuse .badLength s

/-- READ_EVENTS (R185); the model's counter of free values moves on. -/
def readEventsMessage (payload : List Byte) (s : State) : State × List Byte :=
  match payload with
  | [] => (s.setFreeCount (s.freeCount + 1), eventsPayload s)
  | _ => refuse .badLength s

/-- READ_MAP (R167). -/
def readMapMessage (payload : List Byte) (s : State) : State × List Byte :=
  match payload with
  | [part] => if part = 0 then (s, mapPayload0 s) else if part = 1 then (s, mapPayload1 s) else refuse .badValue s
  | _ => refuse .badLength s

/-! ### Staging and commit -/

/-- STAGE_LINK (R181). -/
def stageLinkMessage (payload : List Byte) (s : State) : State × List Byte :=
  if payload.length ≠ 24 then refuse .badLength s
  else match readLink payload with
    | some l => accept (s.setStaged { s.staged with link := l })
    | none => refuse .badValue s

/-- The staged carrier record would change enable, rx_ceiling or tx_ceiling (R57). -/
def changesLimits (old new : CarrierParams) : Bool :=
  old.enable ≠ new.enable || old.rxCeiling ≠ new.rxCeiling || old.txCeiling ≠ new.txCeiling

/-- STAGE_CARRIER (R57, R151, R181). -/
def stageCarrierMessage (payload : List Byte) (s : State) : State × List Byte :=
  if payload.length ≠ 13 then refuse .badLength s
  else match Carrier.ofNat? (payload.headD 0).toNat, readCarrierParams payload.tail with
    | some c, some p =>
      if s.applyPending && changesLimits (s.staged.carriers.get c) p then refuse .busy s
      else accept (s.setStaged { s.staged with carriers := s.staged.carriers.set c p })
    | _, _ => refuse .badValue s

/-- STAGE_PROFILE (R55, R57). -/
def stageProfileMessage (payload : List Byte) (s : State) : State × List Byte :=
  if payload.length ≠ 6 then refuse .badLength s
  else match readProfile (payload.headD 0).toNat payload.tail with
    | some r =>
      if s.applyPending then refuse .busy s
      else accept (s.setStaged { s.staged with slots := s.staged.slots.setIfInBounds (payload.headD 0).toNat (some r) })
    | none => refuse .badValue s

/-- STAGE_TABLE_LENGTH (R56, R57). -/
def stageTableLengthMessage (payload : List Byte) (s : State) : State × List Byte :=
  match payload with
  | [length] =>
    if 12 < length.toNat then refuse .badValue s
    else if s.applyPending then refuse .busy s
    else accept (s.setStaged { s.staged with tableLength := length.toNat })
  | _ => refuse .badLength s

/-- STAGE_CLASS (R153). -/
def stageClassMessage (payload : List Byte) (s : State) : State × List Byte :=
  if payload.length ≠ 7 then refuse .badLength s
  else match Cls.ofNat? (payload.headD 0).toNat, readClass payload.tail with
    | some k, some r => accept (s.setStaged { s.staged with classes := s.staged.classes.set k r })
    | _, _ => refuse .badValue s

/-- APPLY (R182). -/
def applyMessage (payload : List Byte) (s : State) : State × List Byte :=
  match payload with
  | [] =>
    if s.applyPending then refuse .busy s
    else if !stagedTableOk s.staged then refuse .badTable s
    else if !limitsOk s then refuse .badState s
    else accept (s.setApplyPending true)
  | _ => refuse .badLength s

/-! ### Direct commands -/

/-- A message that names a carrier and a set-or-clear byte (R68, R84). -/
def carrierFlagMessage (act : Carrier → Bool → State → State) (payload : List Byte) (s : State) :
    State × List Byte :=
  match payload with
  | [c, v] =>
    match Carrier.ofNat? c.toNat with
    | some c => if isFlag v then accept (act c (isSet v) s) else refuse .badValue s
    | none => refuse .badValue s
  | _ => refuse .badLength s

/-- HOST added to or removed from a carrier's pause set (R84). -/
def setHostPause (c : Carrier) (v : Bool) (s : State) : State :=
  s.setRau (s.rau.set c { s.rau.get c with hostPause := v })

/-- A carrier's TX hold flag (R68, R69). -/
def setTxHoldFlag (c : Carrier) (v : Bool) (s : State) : State :=
  s.setLane (s.lane.update c fun x =>
    if v then refuseFarUp { x with hold := true } else { x with hold := false })

/-- A carrier's combining mode written into both sets, with the grace of a change (R51). -/
def setCombineMode (c : Carrier) (m : CombiningMode) (s : State) : State :=
  let w := { s.working with carriers := s.working.carriers.set c { s.params c with mode := m } }
  let st := { s.staged with carriers := s.staged.carriers.set c { s.staged.carriers.get c with mode := m } }
  let s1 := (s.setWorking w).setStaged st
  if (s.params c).mode ≠ m && s.enabled c then s1.setMonitor (startGrace s.working.link c s.monitor) else s1

/-- SET_COMBINE (R51). -/
def setCombineMessage (payload : List Byte) (s : State) : State × List Byte :=
  match payload with
  | [c, m] =>
    match Carrier.ofNat? c.toNat, CombiningMode.ofByte? m with
    | some c, some m => accept (setCombineMode c m s)
    | _, _ => refuse .badValue s
  | _ => refuse .badLength s

/-- ABORT (R172). -/
def abortMessage (payload : List Byte) (s : State) : State × List Byte :=
  match payload with
  | [] => accept (if s.fault.state = .running then linkAbort .host s else s)
  | _ => refuse .badLength s

/-- RESUME (R175). -/
def resumeMessage (payload : List Byte) (s : State) : State × List Byte :=
  match payload with
  | [] => if s.fault.state = .running || abortDemand s then refuse .badState s else accept (linkResume s)
  | _ => refuse .badLength s

/-! ### Events -/

/-- A list of (kind, index) pairs; none when a kind or index is out of range (R185). -/
def readPairs : List Byte → Option (List (EventKind × Nat))
  | [] => some []
  | [_] => none
  | k :: i :: rest =>
    match EventKind.ofNat? k.toNat, readPairs rest with
    | some kind, some pairs => if i.toNat < kind.indices then some ((kind, i.toNat) :: pairs) else none
    | _, _ => none

/-- CLEAR_EVENTS (R185). -/
def clearEventsMessage (payload : List Byte) (s : State) : State × List Byte :=
  if payload.length % 2 = 1 || 116 < payload.length then refuse .badLength s
  else match readPairs payload with
    | none => refuse .badValue s
    | some [] => accept (s.setEvents { s.events with entries := [] })
    | some pairs =>
      accept (s.setEvents { s.events with
        entries := s.events.entries.filter fun x => !pairs.contains (x.kind, x.index) })

/-- The edge mode of a code. -/
def EdgeMode.ofByte? (b : Byte) : Option EdgeMode :=
  if b = 0 then some .enter else if b = 1 then some .leave else if b = 2 then some .both else none

/-- A kind's mode set; turning a kind off removes its entries (R184). -/
def setKindMode (k : EventKind) (mode : KindMode) (t : EventTable) : EventTable :=
  { modes := t.modes.set k.code mode,
    entries := if mode.on then t.entries else t.entries.filter fun x => x.kind ≠ k }

/-- SET_EVENT_MODE (R185). -/
def setEventModeMessage (payload : List Byte) (s : State) : State × List Byte :=
  match payload with
  | [k, on, edge] =>
    match EventKind.ofNat? k.toNat with
    | none => refuse .badValue s
    | some kind =>
      if !isFlag on then refuse .badValue s
      else if kind.isCondition then
        match EdgeMode.ofByte? edge with
        | none => refuse .badValue s
        | some e => accept (s.setEvents (setKindMode kind { on := isSet on, edge := e } s.events))
      else
        accept (s.setEvents
          (setKindMode kind { on := isSet on, edge := (s.events.mode kind).edge } s.events))
  | _ => refuse .badLength s

/-- RESET takes no payload; the reset itself acts once the reply has been sent (R187). -/
def resetMessage (payload : List Byte) (s : State) : State × List Byte :=
  match payload with
  | [] => accept s
  | _ => refuse .badLength s

/-! ### Taking a good frame (R179) -/

/-- What a message does to the state, and its reply's payload. -/
def messageAct (m : Message) (payload : List Byte) (s : State) : State × List Byte :=
  match m with
  | .identify => readOnly payload (identifyPayload s) s
  | .stageLink => stageLinkMessage payload s
  | .stageCarrier => stageCarrierMessage payload s
  | .stageProfile => stageProfileMessage payload s
  | .stageTableLength => stageTableLengthMessage payload s
  | .stageClass => stageClassMessage payload s
  | .apply => applyMessage payload s
  | .readStaged => readRecord (stagedRecord s) payload s
  | .readWorking => readRecord (workingRecord s) payload s
  | .readCarrier => readCarrierMessage payload s
  | .readBranches => readOnly payload (branchesPayload s) s
  | .readLane => readOnly payload (lanePayload s) s
  | .readMap => readMapMessage payload s
  | .setPause => carrierFlagMessage setHostPause payload s
  | .setCombine => setCombineMessage payload s
  | .setTxHold => carrierFlagMessage setTxHoldFlag payload s
  | .abort => abortMessage payload s
  | .resume => resumeMessage payload s
  | .readEvents => readEventsMessage payload s
  | .clearEvents => clearEventsMessage payload s
  | .setEventMode => setEventModeMessage payload s
  | .reset => resetMessage payload s

/-- HML_ERROR's causes (R177). -/
inductive HmlCause where
  | timeout | crc | clear | overrun | length
  deriving DecidableEq, Repr

def HmlCause.index : HmlCause → Nat
  | .timeout => 0 | .crc => 1 | .clear => 2 | .overrun => 3 | .length => 4

/-- HML_ERROR latched with a cause (R177). -/
def hmlError (cause : HmlCause) (s : State) : State := s.report [occurrence .hmlError cause.index]

/-- A reply handed to the transmitter (R179): KIND + 0x80, the request's TAG, the payload. -/
def sendReply (kind tag : Byte) (payload : List Byte) (resets : Bool) (s : State) : State :=
  s.setHml { s.hml with
    transmitter := .sending { kind := kind + 0x80, tag := tag, payload := payload } resets }

/-- A good frame that completes (R179): an overrun while a reply is being sent, else acted on and answered. While the
line is held low after a line clear no frame can complete (R177; notes/assumptions/21). -/
def takeGoodFrame (kind tag : Byte) (act : State → State × List Byte) (resets : List Byte → Bool) (s : State) :
    State :=
  if s.hml.lineLow then s
  else
    match s.hml.transmitter with
    | .sending _ _ => hmlError .overrun s
    | .idle => sendReply kind tag (act s).2 (resets (act s).2) (act s).1

/-- Whether the reset of R187 acts when the reply has been sent. -/
def resetsAfter (m : Message) (reply : List Byte) : Bool := m = .reset && reply = [Status.ok.code]

/-- A good frame that carries a message. -/
def takeMessage (m : Message) (tag : Byte) (payload : List Byte) (s : State) : State :=
  takeGoodFrame m.kind tag (messageAct m payload) (resetsAfter m) s

/-- A good frame of any KIND (R179): one that names no message is answered BAD_KIND. -/
def takeFrame (kind tag : Byte) (payload : List Byte) (s : State) : State :=
  match Message.ofKind? kind with
  | some m => takeMessage m tag payload s
  | none => takeGoodFrame kind tag (refuse .badKind) (fun _ => false) s

end Sys2Proof.Machine
end

