-- ==== Sys2Proof/Machine/Line.lean ====
section
/-!
DEFINITION. The host line (R177, R178): the receiver byte by byte, rejected frames, line clears, the end of a reply;
and the resets (R187).
-/
namespace Sys2Proof.Machine

/-! ### Resets -/

/-- Every block at its reset values, the staged set, the entries' enables and edge modes, the Host Message Link and
the FAULT input's level kept (R187, R168). -/
def resetBlocks (s : State) : State :=
  { State.reset with
    staged := s.staged
    fault := { State.reset.fault with faultLevel := s.fault.faultLevel }
    events := { s.events with entries := [] }
    hml := s.hml
    freeCount := s.freeCount
    pending := s.pending }

/-- The line rate that the straps select (11.1). -/
def rateOfStraps (straps : BitVec 2) : LineRate :=
  if straps = 1 then .r460800 else if straps = 2 then .r921600 else .r115200

/-- Power-on reset with the straps and the level of the FAULT input as they stand when it ends (R187, R168). -/
def powerOn (straps : BitVec 2) (fault : Bool) (s : State) : State :=
  { State.reset with
    fault := { State.reset.fault with faultLevel := fault }
    hml := { State.reset.hml with rate := rateOfStraps straps }
    freeCount := s.freeCount
    pending := s.pending }

/-! ### The receiver -/

def setReceiver (r : Receiver) (s : State) : State := s.setHml { s.hml with receiver := r }

/-- A frame in progress, or just complete, is given up: the receiver is IDLE and HML_ERROR names the cause. -/
def rejectFrame (cause : HmlCause) (s : State) : State := hmlError cause (setReceiver .idle s)

/-- A frame of which the last byte has arrived (R178, R179). `bytes` are LEN, KIND, TAG, payload and the two check
bytes. A frame that completes while a reply is sent is an overrun, whatever its check (notes/assumptions/7). -/
def completeFrame (bytes : List Byte) (s : State) : State :=
  match bytes with
  | len :: kind :: tag :: rest =>
    let payload := rest.take (len.toNat - 2)
    match s.hml.transmitter with
    | .sending _ _ => rejectFrame .overrun s
    | .idle =>
      if rest.drop (len.toNat - 2) = frameBytes (crc16 (len :: kind :: tag :: payload)) then
        takeFrame kind tag payload (setReceiver .idle s)
      else rejectFrame .crc s
  | _ => setReceiver .idle s

/-- A byte stored in RECEIVING (R177): the byte after SYNC is LEN, and the frame is complete when LEN + 4 bytes have
arrived, SYNC among them. -/
def storeByte (bytes : List Byte) (b : Byte) (s : State) : State :=
  match bytes with
  | [] => if within 2 250 b.toNat then setReceiver (.receiving [b]) s else rejectFrame .length s
  | len :: _ =>
    if (bytes ++ [b]).length = len.toNat + 3 then completeFrame (bytes ++ [b]) s
    else setReceiver (.receiving (bytes ++ [b])) s

/-- A byte taken from the line (R177). -/
def takeByte (b : Byte) (stopHigh : Bool) (s : State) : State :=
  if s.hml.lineLow then s
  else
    match s.hml.receiver with
    | .idle => if stopHigh && b = sync then setReceiver (.receiving []) s else s
    | .receiving bytes => if stopHigh then storeByte bytes b s else rejectFrame .crc s

/-- The receive timer expires (R177): it runs in RECEIVING only. -/
def receiveTimeout (s : State) : State :=
  match s.hml.receiver with
  | .idle => s
  | .receiving _ => rejectFrame .timeout s

/-- A line clear (R177): taken in either receiver state; no byte is taken until the line has returned high. -/
def takeLineClear (s : State) : State :=
  hmlError .clear (s.setHml { s.hml with receiver := .idle, lineLow := true })

/-- A frame rejected whole (R177 to R179). A frame that completes during a reply is an overrun, and none is an
overrun otherwise. -/
def takeRejected (reason : RejectReason) (s : State) : State :=
  if s.hml.lineLow then s
  else
    match reason, s.hml.transmitter with
    | .length, _ => rejectFrame .length s
    | .lowStop, _ => rejectFrame .crc s
    | .badCheck, .idle => rejectFrame .crc s
    | .badCheck, .sending _ _ => rejectFrame .overrun s
    | .duringReply, .sending _ _ => rejectFrame .overrun s
    | .duringReply, .idle => s

/-- The last byte of a reply is sent (R179); the reset of R187 acts then when the reply was a RESET's. -/
def takeReplySent (s : State) : State :=
  match s.hml.transmitter with
  | .idle => s
  | .sending _ resets =>
    let s1 := s.setHml { s.hml with transmitter := .idle }
    if resets then resetBlocks s1 else s1

end Sys2Proof.Machine
end

