-- ==== Sys2Proof/Machine/HostCommands.lean ====
section
/-!
DEFINITION. The meanings of the host messages, each one whole good frame with its TAG and payload (R179), and of the
events of the host line (R177, R178).
-/
namespace Sys2Proof.Machine

/-- IDENTIFY (R180). -/
def execIdentify (tag : Byte) (payload : List Byte) (s : State) : Host.Outcome State Fault Refusal :=
  .next (takeMessage .identify tag payload s)

/-- READ_STAGED (R180). -/
def execReadStaged (tag : Byte) (payload : List Byte) (s : State) : Host.Outcome State Fault Refusal :=
  .next (takeMessage .readStaged tag payload s)

/-- READ_WORKING (R180). -/
def execReadWorking (tag : Byte) (payload : List Byte) (s : State) : Host.Outcome State Fault Refusal :=
  .next (takeMessage .readWorking tag payload s)

/-- STAGE_LINK (R181). -/
def execStageLink (tag : Byte) (payload : List Byte) (s : State) : Host.Outcome State Fault Refusal :=
  .next (takeMessage .stageLink tag payload s)

/-- STAGE_CARRIER (R57, R151, R181). -/
def execStageCarrier (tag : Byte) (payload : List Byte) (s : State) : Host.Outcome State Fault Refusal :=
  .next (takeMessage .stageCarrier tag payload s)

/-- STAGE_PROFILE (R55, R57). -/
def execStageProfile (tag : Byte) (payload : List Byte) (s : State) : Host.Outcome State Fault Refusal :=
  .next (takeMessage .stageProfile tag payload s)

/-- STAGE_TABLE_LENGTH (R56, R57). -/
def execStageTableLength (tag : Byte) (payload : List Byte) (s : State) : Host.Outcome State Fault Refusal :=
  .next (takeMessage .stageTableLength tag payload s)

/-- STAGE_CLASS (R153). -/
def execStageClass (tag : Byte) (payload : List Byte) (s : State) : Host.Outcome State Fault Refusal :=
  .next (takeMessage .stageClass tag payload s)

/-- APPLY (R58, R59, R182). -/
def execApply (tag : Byte) (payload : List Byte) (s : State) : Host.Outcome State Fault Refusal :=
  .next (takeMessage .apply tag payload s)

/-- READ_CARRIER (R97, R118, R141, R152, R176). -/
def execReadCarrier (tag : Byte) (payload : List Byte) (s : State) : Host.Outcome State Fault Refusal :=
  .next (takeMessage .readCarrier tag payload s)

/-- READ_BRANCHES (R53). -/
def execReadBranches (tag : Byte) (payload : List Byte) (s : State) : Host.Outcome State Fault Refusal :=
  .next (takeMessage .readBranches tag payload s)

/-- READ_LANE (R141). -/
def execReadLane (tag : Byte) (payload : List Byte) (s : State) : Host.Outcome State Fault Refusal :=
  .next (takeMessage .readLane tag payload s)

/-- READ_MAP (R167). -/
def execReadMap (tag : Byte) (payload : List Byte) (s : State) : Host.Outcome State Fault Refusal :=
  .next (takeMessage .readMap tag payload s)

/-- SET_PAUSE (R84). -/
def execSetPause (tag : Byte) (payload : List Byte) (s : State) : Host.Outcome State Fault Refusal :=
  .next (takeMessage .setPause tag payload s)

/-- SET_COMBINE (R51). -/
def execSetCombine (tag : Byte) (payload : List Byte) (s : State) : Host.Outcome State Fault Refusal :=
  .next (takeMessage .setCombine tag payload s)

/-- SET_TX_HOLD (R68, R69). -/
def execSetTxHold (tag : Byte) (payload : List Byte) (s : State) : Host.Outcome State Fault Refusal :=
  .next (takeMessage .setTxHold tag payload s)

/-- ABORT (R172). -/
def execAbort (tag : Byte) (payload : List Byte) (s : State) : Host.Outcome State Fault Refusal :=
  .next (takeMessage .abort tag payload s)

/-- RESUME (R175). -/
def execResume (tag : Byte) (payload : List Byte) (s : State) : Host.Outcome State Fault Refusal :=
  .next (takeMessage .resume tag payload s)

/-- READ_EVENTS (R185). -/
def execReadEvents (tag : Byte) (payload : List Byte) (s : State) : Host.Outcome State Fault Refusal :=
  .next (takeMessage .readEvents tag payload s)

/-- CLEAR_EVENTS (R185). -/
def execClearEvents (tag : Byte) (payload : List Byte) (s : State) : Host.Outcome State Fault Refusal :=
  .next (takeMessage .clearEvents tag payload s)

/-- SET_EVENT_MODE (R184, R185). -/
def execSetEventMode (tag : Byte) (payload : List Byte) (s : State) : Host.Outcome State Fault Refusal :=
  .next (takeMessage .setEventMode tag payload s)

/-- RESET (R187). -/
def execReset (tag : Byte) (payload : List Byte) (s : State) : Host.Outcome State Fault Refusal :=
  .next (takeMessage .reset tag payload s)

/-- BAD_KIND_MESSAGE (R179): a good frame whose KIND names no message. -/
def execBadKindMessage (kind tag : Byte) (payload : List Byte) (s : State) : Host.Outcome State Fault Refusal :=
  .next (takeFrame kind tag payload s)

/-- HML_RECEIVE_TIMEOUT (R177). -/
def execHmlReceiveTimeout (s : State) : Host.Outcome State Fault Refusal := .next (receiveTimeout s)

/-- LINE_CLEAR (R177). -/
def execLineClear (s : State) : Host.Outcome State Fault Refusal := .next (takeLineClear s)

/-- LINE_RETURNS_HIGH (R177): the receiver may take bytes again. -/
def execLineReturnsHigh (s : State) : Host.Outcome State Fault Refusal :=
  .next (s.setHml { s.hml with lineLow := false })

/-- HML_FRAME_REJECTED (R177 to R179). -/
def execHmlFrameRejected (reason : RejectReason) (s : State) : Host.Outcome State Fault Refusal :=
  .next (takeRejected reason s)

/-- REPLY_SENT (R179, R187). -/
def execReplySent (s : State) : Host.Outcome State Fault Refusal := .next (takeReplySent s)

/-- HML_BYTE (R177). -/
def execHmlByte (byte : Byte) (stopHigh : Bool) (s : State) : Host.Outcome State Fault Refusal :=
  .next (takeByte byte stopHigh s)

end Sys2Proof.Machine
end

