-- ==== Sys2Proof/Machine/ModemCommands.lean ====
section
/-!
DEFINITION. The meanings of the commands from the modem, the FAULT input and power-on: FRAME_START, CARRIER_REPORT,
FIELD_IN, FRAME_LOSS, FAULT_INPUT_CHANGE, POWER_ON_RESET.
-/
namespace Sys2Proof.Machine

/-- FRAME_START (R3, R4, R7): the frame number is adopted, the watch restarted, and every block does its frame-start
work. -/
def execFrameStart (n : FrameNo) (order : FrameOrder) (s : State) : Host.Outcome State Fault Refusal :=
  .next (takeFrameStart n order s)

/-- FRAME_LOSS (R5): the frame watch expires in RUNNING; a stopped watch cannot expire (R2). -/
def execFrameLoss (s : State) : Host.Outcome State Fault Refusal :=
  .next (if s.port.link = .running && s.port.watch.isSome then takeFrameLoss s else s)

/-- A branch part as Report Intake stores it: the level taken at the nearer limit, the snr as reported (R1, R12). -/
def takenPart (p : BranchPart) : BranchPart := { p with level := clampInt (-120) (-10) p.level }

/-- An accepted report stored (R12, steps 1 to 3). -/
def storeReport (c : Carrier) (f : FrameNo) (a b : Option BranchPart) (s : State) : State :=
  let s1 := s.setIntake (s.intake.set c
    { lastAccepted := some f,
      records := { a := some { frame := f, part := a.map takenPart },
                   b := some { frame := f, part := b.map takenPart } } })
  s1.setPortCarriers (s1.port.carriers.set c { s1.port.carriers.get c with missed := 0, arrival := true })

/-- A report tagged f is stale, a duplicate, or goes behind one already accepted (R11). -/
def isStale (port : Port) (lastAccepted : Option FrameNo) (f : FrameNo) : Bool :=
  (port.current ≠ some f && port.previous ≠ some f) || lastAccepted = some f ||
  (port.previous = some f && lastAccepted.isSome && lastAccepted = port.current)

/-- A CARRIER_REPORT screened and, when accepted, stored and handed on (R10 to R12). -/
def takeCarrierReport (c : Carrier) (f : FrameNo) (a b : Option BranchPart) (errors : Nat) (s : State) : State :=
  if !s.frameRunning || !s.enabled c then s
  else if isStale s.port (s.intake.get c).lastAccepted f then s.report [occurrence .staleReport c.toNat]
  else takeReport c a b errors (storeReport c f a b s)

/-- CARRIER_REPORT (R10 to R12, R21, R35). -/
def execCarrierReport (c : Carrier) (f : FrameNo) (a b : Option BranchPart) (errors : BitVec 8) (s : State) :
    Host.Outcome State Fault Refusal :=
  .next (takeCarrierReport c f a b errors.toNat s)

/-- A FIELD_IN is taken once per carrier per frame (R6, R13). -/
def takeFieldIn (c : Carrier) (field : Option RawField) (s : State) : State :=
  if !s.frameRunning || !s.enabled c || (s.port.carriers.get c).fieldTaken then s
  else
    handField c field
      (s.setPortCarriers (s.port.carriers.set c { s.port.carriers.get c with fieldTaken := true }))

/-- FIELD_IN (R13, R101, R110 to R116). -/
def execFieldIn (c : Carrier) (field : Option RawField) (s : State) : Host.Outcome State Fault Refusal :=
  .next (takeFieldIn c field s)

/-- FAULT_INPUT_CHANGE (R169). -/
def execFaultInputChange (asserted : Bool) (s : State) : Host.Outcome State Fault Refusal :=
  .next (takeFaultLevel asserted s)

/-- POWER_ON_RESET (R187, 11.1). -/
def execPowerOnReset (straps : BitVec 2) (fault : Bool) (s : State) : Host.Outcome State Fault Refusal :=
  .next (powerOn straps fault s)

end Sys2Proof.Machine
end

