-- ==== Sys2Proof/Machine/Dispatch.lean ====
section
/-! DEFINITION. The meaning of every command: one arm per constructor of Instr. -/

namespace Sys2Proof.Machine

/-- A command's effect on everything but the queue. -/
def exec (i : Instr) (s : State) : Host.Outcome State Fault Refusal :=
  match i with
  | .frameStart n order => Sys2Proof.Machine.execFrameStart n order s
  | .blindReport c => Sys2Proof.Machine.execBlindReport c s
  | .graceExpiry c => Sys2Proof.Machine.execGraceExpiry c s
  | .pingpongWindowExpiry c => Sys2Proof.Machine.execPingpongWindowExpiry c s
  | .rxSwitch c => Sys2Proof.Machine.execRxSwitch c s
  | .requestTimeout c => Sys2Proof.Machine.execRequestTimeout c s
  | .announcementSwitch => Sys2Proof.Machine.execAnnouncementSwitch s
  | .pcuShadowLoad c => Sys2Proof.Machine.execPcuShadowLoad c s
  | .mapShadowLoad => Sys2Proof.Machine.execMapShadowLoad s
  | .commit => Sys2Proof.Machine.execCommit s
  | .frameLoss => Sys2Proof.Machine.execFrameLoss s
  | .carrierReport c f a b errors => Sys2Proof.Machine.execCarrierReport c f a b errors s
  | .fieldIn c field => Sys2Proof.Machine.execFieldIn c field s
  | .faultInputChange asserted => Sys2Proof.Machine.execFaultInputChange asserted s
  | .powerOnReset straps fault => Sys2Proof.Machine.execPowerOnReset straps fault s
  | .hmlReceiveTimeout => Sys2Proof.Machine.execHmlReceiveTimeout s
  | .lineClear => Sys2Proof.Machine.execLineClear s
  | .hmlFrameRejected reason => Sys2Proof.Machine.execHmlFrameRejected reason s
  | .replySent => Sys2Proof.Machine.execReplySent s
  | .badKindMessage kind tag payload => Sys2Proof.Machine.execBadKindMessage kind tag payload s
  | .identify tag payload => Sys2Proof.Machine.execIdentify tag payload s
  | .readStaged tag payload => Sys2Proof.Machine.execReadStaged tag payload s
  | .readWorking tag payload => Sys2Proof.Machine.execReadWorking tag payload s
  | .stageLink tag payload => Sys2Proof.Machine.execStageLink tag payload s
  | .stageCarrier tag payload => Sys2Proof.Machine.execStageCarrier tag payload s
  | .stageProfile tag payload => Sys2Proof.Machine.execStageProfile tag payload s
  | .stageTableLength tag payload => Sys2Proof.Machine.execStageTableLength tag payload s
  | .stageClass tag payload => Sys2Proof.Machine.execStageClass tag payload s
  | .apply tag payload => Sys2Proof.Machine.execApply tag payload s
  | .readCarrier tag payload => Sys2Proof.Machine.execReadCarrier tag payload s
  | .readBranches tag payload => Sys2Proof.Machine.execReadBranches tag payload s
  | .readLane tag payload => Sys2Proof.Machine.execReadLane tag payload s
  | .readMap tag payload => Sys2Proof.Machine.execReadMap tag payload s
  | .setPause tag payload => Sys2Proof.Machine.execSetPause tag payload s
  | .setCombine tag payload => Sys2Proof.Machine.execSetCombine tag payload s
  | .setTxHold tag payload => Sys2Proof.Machine.execSetTxHold tag payload s
  | .abort tag payload => Sys2Proof.Machine.execAbort tag payload s
  | .resume tag payload => Sys2Proof.Machine.execResume tag payload s
  | .readEvents tag payload => Sys2Proof.Machine.execReadEvents tag payload s
  | .clearEvents tag payload => Sys2Proof.Machine.execClearEvents tag payload s
  | .setEventMode tag payload => Sys2Proof.Machine.execSetEventMode tag payload s
  | .reset tag payload => Sys2Proof.Machine.execReset tag payload s
  | .hmlByte byte stopHigh => Sys2Proof.Machine.execHmlByte byte stopHigh s
  | .lineReturnsHigh => Sys2Proof.Machine.execLineReturnsHigh s

end Sys2Proof.Machine
end

