-- ==== Sys2Proof/Safety.lean ====
section
/-!
DEFINITION. What counts as a safe step of the CZ418, and the properties of a state that the spec promises at every
moment: the ranges of every register, the checks that the working set passes, the shape of the pending table, the
announcement, the standing requests and the slot maps. The last are the invariants of the model, one for each block.
-/
namespace Sys2Proof

open Sys2Proof.Machine

/-- The outcome is a next state. -/
def isNext : Host.Outcome State Fault Refusal → Bool
  | .next _ => true
  | .fault _ => false
  | .refused _ => false

/-- A step from a state is safe. -/
def SafeStep (s : State) : Prop := isNext (step s) = true

/-! ### Margin Estimator -/

/-- The ranges of an estimate record (R18). -/
def EstimateInRange (x : EstRecord) : Prop :=
  match x.est with
  | some v =>
    (0 ≤ v.e ∧ v.e ≤ 2560) ∧ (0 ≤ v.pr ∧ v.pr ≤ v.e) ∧ (-320 ≤ v.r ∧ v.r ≤ 320) ∧
    (1 ≤ v.history.length ∧ v.history.length ≤ 8) ∧ (∀ h ∈ v.history, 0 ≤ h ∧ h ≤ 2560) ∧ x.margin ≤ 63
  | none => x.margin = 0 ∧ x.fade = false

/-- Every estimate record is in range (R18). -/
def EstimatesInRange (s : State) : Prop := ∀ c, EstimateInRange (s.est.get c)

/-! ### Event Latch Table -/

/-- The table holds each (kind, index) at most once, in the order of R185, and every entry is of an enabled kind, has
an index of its kind, and an edge exactly for a condition kind (R184). -/
def EventTableSound (t : EventTable) : Prop :=
  t.entries.Pairwise (fun x y => x.precedes y = true) ∧
  ∀ x ∈ t.entries, (t.mode x.kind).on = true ∧ x.index < x.kind.indices ∧ x.edge.isSome = x.kind.isCondition

/-! ### Configuration Store -/

/-- The ranges of the link-parameter table (11.6). -/
def LinkInRange (l : LinkParams) : Prop :=
  l.filterShift ≤ 6 ∧ l.lookahead ≤ 15 ∧ (4 ≤ l.fastDrop ∧ l.fastDrop ≤ 80) ∧ l.fadeAlarmLevel ≤ 160 ∧
  (1 ≤ l.reportLoss ∧ l.reportLoss ≤ 15) ∧ (200 ≤ l.frameWatch ∧ l.frameWatch ≤ 5000) ∧
  (2 ≤ l.faultScans ∧ l.faultScans ≤ 15) ∧ (2 ≤ l.recoverScans ∧ l.recoverScans ≤ 31) ∧
  (-110 ≤ l.levelFloor ∧ l.levelFloor ≤ -40) ∧ l.pauseGrace ≤ 255 ∧ (1 ≤ l.holdFrames ∧ l.holdFrames ≤ 4095) ∧
  (1 ≤ l.errLimit ∧ l.errLimit ≤ 255) ∧ (1 ≤ l.refuseBackoff ∧ l.refuseBackoff ≤ 4095) ∧
  (4 ≤ l.answerTimeout ∧ l.answerTimeout ≤ 255) ∧ (1 ≤ l.pingpongWindow ∧ l.pingpongWindow ≤ 4095) ∧
  (2 ≤ l.sigLoss ∧ l.sigLoss ≤ 255) ∧ (1 ≤ l.sigRecover ∧ l.sigRecover ≤ 255) ∧
  (2 ≤ l.announceCount ∧ l.announceCount ≤ 7) ∧ (1 ≤ l.urgentCount ∧ l.urgentCount ≤ 7)

/-- The ranges of the carrier-parameter table (11.6), with the window check of R151. -/
def CarrierInRange (p : CarrierParams) : Prop :=
  p.rxCeiling ≤ 11 ∧ p.txCeiling ≤ 11 ∧ p.low ≤ 62 ∧ (1 ≤ p.high ∧ p.high ≤ 63) ∧ p.low < p.high ∧
  (1 ≤ p.period ∧ p.period ≤ 255) ∧ p.maxAtten ≤ 40

/-- The ranges of a profile record (R54); thresholds are absent for P0 and present above it. -/
def ProfileInRange (p : Nat) (r : ProfileRecord) : Prop :=
  r.modCode ≤ 15 ∧ (1 ≤ r.capacity ∧ r.capacity ≤ 64) ∧ r.backoffFloor ≤ 16 ∧
  (∀ d ∈ r.down, d ≤ 160) ∧ (∀ u ∈ r.up, u ≤ 160) ∧ (r.down.isSome ↔ 0 < p) ∧ (r.up.isSome ↔ 0 < p)

/-- The ranges of a class record (R153). -/
def ClassInRange (r : ClassRecord) : Prop :=
  r.priority ≤ 7 ∧ (1 ≤ r.need ∧ r.need ≤ 64) ∧ (r.min.isSome ↔ r.split = true) ∧
  (∀ m ∈ r.min, 1 ≤ m ∧ m ≤ r.need)

/-- Every parameter of the staged set lies in its range (R55, R56, R153, R181). -/
def StagedInRange (x : StagedSet) : Prop :=
  LinkInRange x.link ∧ (∀ c, CarrierInRange (x.carriers.get c)) ∧ (∀ k, ClassInRange (x.classes.get k)) ∧
  x.tableLength ≤ 12 ∧ ∀ p r, x.slots[p]? = some (some r) → ProfileInRange p r

/-- Every parameter of the working set lies in its range (R61, R181). -/
def WorkingInRange (w : WorkingSet) : Prop :=
  LinkInRange w.link ∧ (∀ c, CarrierInRange (w.carriers.get c)) ∧ (∀ k, ClassInRange (w.classes.get k)) ∧
  w.length ≤ 12 ∧ ∀ p r, w.table[p]? = some r → ProfileInRange p r

/-- The checks of R59 on a carrier's record against a table length. -/
def LimitsFit (T : Nat) (p : CarrierParams) : Prop :=
  p.enable = true → 2 ≤ T ∧ p.rxCeiling < T ∧ p.txCeiling < T

/-- Both sets in range, the working set passing the table checks of R58 and the limits of R59, and the staged set
passing them while an APPLY is pending (R57, R183). -/
def ConfigSound (s : State) : Prop :=
  StagedInRange s.staged ∧ WorkingInRange s.working ∧ tableOk s.working.table = true ∧
  (∀ c, LimitsFit s.working.length (s.params c)) ∧
  (s.applyPending = true →
    stagedTableOk s.staged = true ∧ ∀ c, LimitsFit s.staged.tableLength (s.staged.carriers.get c))

/-! ### Receive Adaptation Unit -/

/-- A carrier's request keeps the step rules (R91): an UP names the profile one above the RX active profile, a
downgrade one below it; a target stands exactly for an open request (R70), and the answer timer exactly while the
request is open (R87). -/
def RequestSound (x : RxContext) : Prop :=
  (match x.request.kind, x.request.target with
   | .none, none => True
   | .up, some t => t = x.active + 1
   | .down, some t => t < x.active
   | .urgent, some t => t < x.active
   | _, _ => False) ∧
  (x.timer.isSome = true ↔ x.request.kind ≠ .none) ∧ (∀ t ∈ x.timer, t ≤ 255)

/-- A carrier's receive context keeps the ranges of R70, the bounds of R62, and the shape that its phase gives it. A
request names no profile above rx_ceiling and no absent one (R61, R91). -/
def RxContextSound (T ceiling : Nat) (enabled lost : Bool) (x : RxContext) : Prop :=
  RequestSound x ∧ (∀ t ∈ x.request.target, t ≤ ceiling ∧ t < T) ∧ (x.active < T ∨ x.active = 0) ∧
  (∀ a ∈ x.armed, a.next < T ∧ 1 ≤ a.remaining ∧ a.remaining ≤ 7) ∧
  x.hold ≤ 32760 ∧ (x.m = 1 ∨ x.m = 2 ∨ x.m = 4 ∨ x.m = 8) ∧ x.upCounter ≤ 65535 ∧
  (x.phase ≠ .working → x.request.kind = .none) ∧ (x.phase = .standby ↔ enabled = false) ∧
  (enabled = false → x.active = 0 ∧ x.armed = none) ∧ (lost = true → x.phase ≠ .working ∧ x.armed = none)

/-- Every receive context is sound. -/
def ReceiveSound (s : State) : Prop :=
  ∀ c, RxContextSound s.working.length (s.params c).rxCeiling (s.enabled c) (s.port.link = .frameLost) (s.rau.get c)

/-! ### Change Lane -/

/-- A pending entry keeps the step rules (R129): an UP names the profile one above TX active, a downgrade one below
TX active, or, for an internal entry of a member of an UP announcement, below the profile announced. -/
def EntrySound (T active bound : Nat) : Entry → Prop
  | .far _ .up t _ _ => t = active + 1 ∧ t < T
  | .far _ _ t _ _ => t < active
  | .own _ .up _ _ => False
  | .own _ _ t _ => t < bound

/-- A member of an announcement of a kind (R134). -/
def MemberSound (T : Nat) (kind : AnnKind) (l : Lane) (m : Member) : Prop :=
  m.fromP = (l.carriers.get m.carrier).active ∧ m.toP < T ∧
  (match kind with
   | .up => m.toP = m.fromP + 1
   | .down => m.toP < m.fromP)

/-- The announcement record: 1 to 4 members on distinct carriers, an UP with one, and a count of 1 to 7 (R134). -/
def AnnouncementSound (T : Nat) (enabled : Carrier → Bool) (l : Lane) (a : Announcement) : Prop :=
  a.members ≠ [] ∧ (a.members.map (·.carrier)).Nodup ∧ (∀ m ∈ a.members, enabled m.carrier = true) ∧
  (∀ m ∈ a.members, MemberSound T a.kind l m) ∧ (a.kind = .up → a.members.length = 1) ∧
  1 ≤ a.count ∧ a.count ≤ 7

/-- A carrier's lane items: the bound of R62, an entry within the step rules, nothing on a disabled carrier or during
a frame loss (R131, R140), no UP entry while the link is ABORTED (R138). -/
def LaneCarrierSound (s : State) (c : Carrier) : Prop :=
  ((s.lane.carriers.get c).active < s.working.length ∨ (s.lane.carriers.get c).active = 0) ∧
  (∀ e ∈ (s.lane.carriers.get c).entry,
    EntrySound s.working.length (s.lane.carriers.get c).active (s.lane.txBound c) e ∧ s.enabled c = true ∧
    s.port.link = .running ∧ (s.fault.state = .aborted → e.kind ≠ .up)) ∧
  (s.enabled c = false → (s.lane.carriers.get c).active = 0) ∧
  (s.applyPending = true → s.enabled c = true → (s.staged.carriers.get c).enable = true →
    s.lane.txBound c < s.staged.tableLength)

/-- The Change Lane is sound (R62, R121, R129, R134); an UP that runs on through an abort counts at 1 (R138). -/
def LaneSound (s : State) : Prop :=
  (∀ c, LaneCarrierSound s c) ∧
  ∀ a ∈ s.lane.announcement, AnnouncementSound s.working.length s.enabled s.lane a ∧ s.port.link = .running ∧
    (s.fault.state = .aborted → a.kind = .up → a.count = 1)

/-! ### Power Control Unit -/

/-- A carrier's power record: atpc_atten within max_atten and 0 under a hold, the attenuation in force within 40 and
0 on a disabled carrier, and no shadow during a frame loss (R142, R147, R149). -/
def PowerRecordSound (s : State) (c : Carrier) : Prop :=
  (s.pcu.get c).atpc ≤ (s.params c).maxAtten ∧ (powerHeld s c = true → (s.pcu.get c).atpc = 0) ∧
  (s.pcu.get c).eff ≤ 40 ∧ (s.enabled c = false → (s.pcu.get c).eff = 0) ∧
  (s.port.link = .frameLost → (s.pcu.get c).shadow = none)

/-- Every power record is sound. -/
def PowerSound (s : State) : Prop := ∀ c, PowerRecordSound s c

/-! ### Branch Monitor and Signalling Unit -/

/-- A branch's run counts belong to its state, and it is EXCLUDED exactly while its exclude flag is yes (R40, R47). -/
def BranchSound (excluded : Bool) (b : BranchState) : Prop :=
  (b.health = .excluded ↔ excluded = true) ∧
  (match b.health with
   | .healthy => b.badRun = 0 ∧ b.goodRun = 0
   | .suspect => 1 ≤ b.badRun ∧ b.badRun ≤ 15 ∧ b.goodRun = 0
   | .faulted => b.badRun = 0 ∧ b.goodRun ≤ 31
   | .excluded => b.badRun = 0 ∧ b.goodRun = 0)

/-- The Branch Monitor is sound (R40, R49). -/
def MonitorSound (s : State) : Prop :=
  (∀ c side, BranchSound ((s.params c).excludes side) ((s.monitor.branches.get c).get side)) ∧
  ∀ c, s.monitor.grace.get c ≤ 255

/-- The run that does not belong to a carrier's SIG state is 0, and no run passes 255 (R108). -/
def SignallingSound (s : State) : Prop :=
  ∀ c, ((s.sig.get c).lost = true → (s.sig.get c).invalidRun = 0) ∧
    ((s.sig.get c).lost = false → (s.sig.get c).validRun = 0) ∧
    (s.sig.get c).invalidRun ≤ 255 ∧ (s.sig.get c).validRun ≤ 255

/-! ### Capacity Mapper -/

/-- A class's entry and the maps show the same segments: placed is their sum, they name each carrier at most once,
every count is at least 1, and a segment stands exactly where the carrier's map has the pair (R154). -/
def ClassEntrySound (maps : Four (List (Cls × Nat))) (k : Cls) (e : ClassEntry) : Prop :=
  e.placed = segmentSum e.segments ∧ (e.segments.map (·.1)).Nodup ∧ (∀ seg ∈ e.segments, 1 ≤ seg.2) ∧
  (∀ c n, (c, n) ∈ e.segments ↔ (k, n) ∈ maps.get c) ∧
  (e.segments = [] ↔ e.state = .inactive ∨ e.state = .shed)

/-- Every map names each class at most once (R155), and the entries and the maps agree (R154). -/
def PlacementSound (p : Placement) : Prop :=
  (∀ c, ((p.maps.get c).map (·.1)).Nodup) ∧ ∀ k, ClassEntrySound p.maps k (p.entries.get k)

/-- The placement in force, and the one that waits in the shadow, are sound; during a frame loss the maps are empty
and no shadow is held (R155, R165). -/
def MapperSound (s : State) : Prop :=
  PlacementSound s.mapper.active ∧ (∀ sh ∈ s.mapper.shadow, PlacementSound sh.result) ∧
  (s.port.link = .frameLost → (∀ c, s.mapper.active.maps.get c = []) ∧ s.mapper.shadow = none)

/-- Every active map fits the capacity of its carrier's TX active profile, 0 on a disabled carrier (R15, R155). So that
it stays so when a shadow is loaded (R161), the shadow fits too: in an announcement it counts down with it and fits the
profiles that its switch brings, and with the lane idle it is due at the next frame start and fits those in force. -/
def MapsFit (s : State) : Prop :=
  (∀ c, mapSum (s.mapper.active.maps.get c) ≤ (capacities s.working s.txActive).get c) ∧
  match s.lane.announcement with
  | none => ∀ sh ∈ s.mapper.shadow, sh.remaining ≤ 1 ∧
      ∀ c, mapSum (sh.result.maps.get c) ≤ (capacities s.working s.txActive).get c
  | some a => ∃ sh, s.mapper.shadow = some sh ∧ sh.remaining = a.count ∧
      ∀ c, mapSum (sh.result.maps.get c) ≤ (capacities s.working fun d => match a.member? d with
        | some m => m.toP
        | none => s.txActive d).get c

/-! ### Words that the statements use -/

/-- A good frame is taken now: the line is not held low and no reply is being sent (R177, R179). -/
def Answering (s : State) : Prop := s.hml.lineLow = false ∧ s.hml.transmitter = .idle

/-- The command that is a good frame carrying a message. -/
def messageCommand : Message → Byte → List Byte → Instr
  | .identify => .identify
  | .stageLink => .stageLink
  | .stageCarrier => .stageCarrier
  | .stageProfile => .stageProfile
  | .stageTableLength => .stageTableLength
  | .stageClass => .stageClass
  | .apply => .apply
  | .readStaged => .readStaged
  | .readWorking => .readWorking
  | .readCarrier => .readCarrier
  | .readBranches => .readBranches
  | .readLane => .readLane
  | .readMap => .readMap
  | .setPause => .setPause
  | .setCombine => .setCombine
  | .setTxHold => .setTxHold
  | .abort => .abort
  | .resume => .resume
  | .readEvents => .readEvents
  | .clearEvents => .clearEvents
  | .setEventMode => .setEventMode
  | .reset => .reset

/-- The payload length that a message takes (11.6, Message payloads). -/
def takesLength : Message → Nat → Prop
  | .identify, n => n = 0
  | .stageLink, n => n = 24
  | .stageCarrier, n => n = 13
  | .stageProfile, n => n = 6
  | .stageTableLength, n => n = 1
  | .stageClass, n => n = 7
  | .apply, n => n = 0
  | .readStaged, n => n = 2
  | .readWorking, n => n = 2
  | .readCarrier, n => n = 1
  | .readBranches, n => n = 0
  | .readLane, n => n = 0
  | .readMap, n => n = 1
  | .setPause, n => n = 2
  | .setCombine, n => n = 2
  | .setTxHold, n => n = 2
  | .abort, n => n = 0
  | .resume, n => n = 0
  | .readEvents, n => n = 0
  | .clearEvents, n => n % 2 = 0 ∧ n ≤ 116
  | .setEventMode, n => n = 3
  | .reset, n => n = 0

/-- A report stands in the table after it has been made, when its kind is on and its edge selected (R184). -/
def LatchedAfter (before after : EventTable) (k : EventKind) (i : Nat) (edge : Option Edge) : Prop :=
  (before.mode k).on = true → (before.mode k).edge.selects edge = true → after.latched k i = true

/-- A good frame of a KIND is answered with a payload (R179), from the state that its message leaves. -/
def answered (kind tag : Byte) (reply : List Byte) (s : State) : Host.Outcome State Fault Refusal :=
  .next (s.setHml { s.hml with transmitter := .sending { kind := kind + 0x80, tag := tag, payload := reply } false })

/-- A message is refused: the reply carries the status alone, and nothing else changes (R179). -/
def refusedWith (status : Status) (kind tag : Byte) (s : State) : Host.Outcome State Fault Refusal :=
  answered kind tag [status.code] s

/-- A seq is answered REFUSED and becomes the last answered one (R127). -/
def refusedSeq (seq : Seq) (x : LaneCarrier) : LaneCarrier :=
  { x with answer := { kind := .refused, seq := seq }, lastAnswered := seq }

/-- An internal entry handed to the intake, the four cases of R128: none stands, a far UP is refused, the seq of a far
DOWN or URGENT is absorbed, and an internal entry is merged. -/
def InternalIntake (maker : Internal) (kind : ChangeKind) (target : Nat) (x y : LaneCarrier) : Prop :=
  let merged (k : ChangeKind) : ChangeKind := if k = .urgent ∨ kind = .urgent then .urgent else .down
  (x.entry = none → y = { x with entry := some (.own maker kind target none) }) ∧
  (∀ seq t arrival restored, x.entry = some (.far seq .up t arrival restored) →
    y = refusedSeq seq { x with entry := some (.own maker kind target none) }) ∧
  (∀ seq k t arrival restored, x.entry = some (.far seq k t arrival restored) → k ≠ .up →
    y = { x with entry := some (.own maker (merged k) (min t target) (some seq)) }) ∧
  ∀ m k t absorbed, x.entry = some (.own m k t absorbed) →
    y = { x with entry := some (.own (if target < t then maker else m) (merged k) (min t target) absorbed) }

/-- A carrier's pending entry re-checked against its TX active profile, a ceiling and a table length (R129). -/
def EntryRechecked (ceiling T : Nat) (x y : LaneCarrier) : Prop :=
  let lowered (t : Nat) := min (min t ceiling) (T - 1)
  (x.entry = none → y = x) ∧
  (∀ seq t arrival restored, x.entry = some (.far seq .up t arrival restored) →
    y = if t = x.active + 1 ∧ t ≤ ceiling then x else refusedSeq seq { x with entry := none }) ∧
  (∀ seq k t arrival restored, x.entry = some (.far seq k t arrival restored) → k ≠ .up →
    y = if lowered t < x.active then { x with entry := some (.far seq k (lowered t) arrival restored) }
      else refusedSeq seq { x with entry := none }) ∧
  ∀ m k t absorbed, x.entry = some (.own m k t absorbed) →
    y = if lowered t < x.active then { x with entry := some (.own m k (lowered t) absorbed) }
      else match absorbed with
        | some seq => refusedSeq seq { x with entry := none }
        | none => { x with entry := none }

/-- Step 2 of R138: a far entry is refused and goes, and an absorbed seq is refused and leaves its entry. -/
def farSideRefused (x : LaneCarrier) : LaneCarrier :=
  match x.entry with
  | some (.far seq _ _ _ _) => refusedSeq seq { x with entry := none }
  | some (.own m k t (some seq)) => refusedSeq seq { x with entry := some (.own m k t none) }
  | some (.own _ _ _ none) => x
  | none => x

/-- What an abort leaves on the lane in RUNNING (R138): no far entry, an URGENT entry to P0 for every enabled carrier
whose TX bound is above P0, an UP announcement that counted at 2 or more withdrawn with its shadows. Each carrier's
items are those of the three steps: `z` is what the withdrawal leaves of them, its member's seq refused and its entry
re-checked, and every other carrier's as they were. -/
def AbortedLane (s t : State) : Prop :=
  (∀ c, t.txActive c = s.txActive c ∧ (t.lane.carriers.get c).hold = (s.lane.carriers.get c).hold) ∧
  (∀ c, ∀ e ∈ (t.lane.carriers.get c).entry, e.isOwn = true) ∧
  (∀ c, s.enabled c = true → 0 < t.lane.txBound c →
    ∃ maker, (t.lane.carriers.get c).entry = some (.own maker .urgent 0 none)) ∧
  (∀ c seq kind target arrival restored,
    (s.lane.carriers.get c).entry = some (.far seq kind target arrival restored) →
    (t.lane.carriers.get c).answer = { kind := .refused, seq := seq } ∧ (t.lane.carriers.get c).lastAnswered = seq) ∧
  (∀ a, s.lane.announcement = some a → a.kind = .up → 2 ≤ a.count →
    t.lane.announcement = none ∧ t.mapper = { s.mapper with shadow := none } ∧
    ∀ c, (t.pcu.get c).shadow = none) ∧
  ((∀ a, s.lane.announcement = some a → a.kind = .down ∨ a.count ≤ 1) →
    t.lane.announcement = s.lane.announcement ∧ t.mapper = s.mapper ∧
    ∀ c, (t.pcu.get c).shadow = (s.pcu.get c).shadow) ∧
  ∀ c, ∃ z,
    (∀ a m, s.lane.announcement = some a → a.kind = .up → 2 ≤ a.count → a.member? c = some m →
      EntryRechecked (s.params c).txCeiling s.working.length (match m.origin with
        | .far seq => refusedSeq seq (s.lane.carriers.get c)
        | .own _ => s.lane.carriers.get c) z) ∧
    ((∀ a, s.lane.announcement = some a → a.kind = .up → 2 ≤ a.count → a.member? c = none) →
      z = s.lane.carriers.get c) ∧
    (if s.enabled c = true ∧ 0 < t.lane.txBound c
      then InternalIntake .abort .urgent 0 (farSideRefused z) (t.lane.carriers.get c)
      else t.lane.carriers.get c = farSideRefused z)

/-- What an abort does (R173, R174): the state and the cause, the event, the requests of enabled carriers cancelled,
the power control held, and the lane's part unless the link is FRAME_LOST. -/
def AbortEffect (cause : AbortCause) (s t : State) : Prop :=
  t = { s with fault := t.fault, events := t.events, lane := t.lane, rau := t.rau, pcu := t.pcu,
               mapper := t.mapper } ∧
  t.fault = { s.fault with state := .aborted, cause := some cause } ∧
  LatchedAfter s.events t.events .aborted 0 (some .enter) ∧
  (∀ c, s.enabled c = true → (s.rau.get c).request.kind ≠ .none →
    t.rau.get c = { s.rau.get c with
      timer := none
      request := { seq := nextSeq (s.rau.get c).request.seq (s.rau.get c).consumed, kind := .none,
                   target := none } }) ∧
  (∀ c, s.enabled c = false ∨ (s.rau.get c).request.kind = .none → t.rau.get c = s.rau.get c) ∧
  (∀ c, (t.pcu.get c).atpc = (if powerHeld s c then (s.pcu.get c).atpc else 0) ∧
    (t.pcu.get c).period = (s.pcu.get c).period ∧ (t.pcu.get c).eff = (s.pcu.get c).eff) ∧
  (s.port.link = .frameLost →
    t.lane = s.lane ∧ t.mapper = s.mapper ∧ ∀ c, (t.pcu.get c).shadow = (s.pcu.get c).shadow) ∧
  (s.port.link = .running → AbortedLane s t)

/-- The supervisor takes a valid field's EQUIP_FAULT for a carrier (R170, R171): the far-end fault state takes its
value, a rise is reported as FAR_FAULT, and a rise that raises the abort demand while RUNNING aborts the link. -/
def FarFaultTaken (c : Carrier) (equipFault : Bool) (s u : State) : Prop :=
  let stored := s.setFault { s.fault with farFault := s.fault.farFault.set c equipFault }
  let rises := equipFault = true ∧ s.fault.farFault.get c = false
  let aborts := s.working.link.abortOnFar = true ∧ s.enabled c = true ∧ s.fault.state = .running ∧ abortDemand s = false
  (¬ rises → u = stored) ∧
  (rises → LatchedAfter s.events u.events .farFault c.toNat none ∧
    (aborts → AbortEffect (.far c) stored u) ∧ (¬ aborts → u = { stored with events := u.events }))

/-- No commit is made at the next frame start: no APPLY is pending, or the announcement counts on (R131). -/
def NoCommitDue (s : State) : Prop :=
  s.applyPending = false ∨ ∃ a, s.lane.announcement = some a ∧ 2 ≤ a.count

/-- The next frame start hands over no missing notice (R13): it is the first, or every enabled carrier's field was
taken. -/
def FieldsTaken (s : State) : Prop :=
  s.port.current = none ∨ ∀ c, s.enabled c = true → (s.port.carriers.get c).fieldTaken = true

/-- The missed-report count of a carrier counted at the next frame start (R8). -/
def nextMissed (s : State) (c : Carrier) : Nat :=
  if (s.port.carriers.get c).arrival = true then 0 else min 255 ((s.port.carriers.get c).missed + 1)

/-- The next frame start hands over neither a blind report (R9) nor a missing notice (R13) for a carrier. -/
def NoHandover (s : State) (c : Carrier) : Prop :=
  s.port.current = none ∨ s.enabled c = false ∨
    ((s.port.carriers.get c).fieldTaken = true ∧ nextMissed s c < s.working.link.reportLoss)

/-- The shadows recorded for an announcement that has just started stand (R148, R162): one for each member in the power
control, and in the mapper the placement with each member at its to profile. -/
def ShadowsPrepared (a : Announcement) (t : State) : Prop :=
  (∀ m ∈ a.members, (t.pcu.get m.carrier).shadow = some { toP := m.toP, remaining := a.count }) ∧
  ∃ cap : Four Nat,
    (∀ c, cap.get c = if t.enabled c = true
      then capacityOf t.working.table (match a.member? c with
        | some m => m.toP
        | none => t.txActive c)
      else 0) ∧
    t.mapper.shadow = some { remaining := a.count, loadFrame := a.switchFrame,
                             result := placement cap t.working.classes }

/-- FADE_ALARM and SIG_LOST are left by a carrier whose records are made afresh (R19, R109): the LEAVE edge is reported
where the condition held, and nothing where it did not. -/
def ConditionsLeft (c : Carrier) (s t : State) : Prop :=
  ((s.est.get c).fade = true → LatchedAfter s.events t.events .fadeAlarm c.toNat (some .leave)) ∧
  ((s.est.get c).fade = false → t.events.latched .fadeAlarm c.toNat = s.events.latched .fadeAlarm c.toNat) ∧
  ((s.sig.get c).lost = true → LatchedAfter s.events t.events .sigLost c.toNat (some .leave)) ∧
  ((s.sig.get c).lost = false → t.events.latched .sigLost c.toNat = s.events.latched .sigLost c.toNat)

/-- A branch after a commit that finds and leaves its exclude flag so (R47). -/
def exclusionTaken (was now : Bool) (b : BranchState) : BranchState :=
  if was = now then b
  else { health := if now then .excluded else .healthy, badRun := 0, goodRun := 0 }

/-- The Branch Monitor's part of a commit (R47, R50): `judged` are the branch states after the exclusion and any scan of
the same frame start, `ticked` the grace counters that the commit leaves alone. -/
def MonitorCommitted (s t : State) (judged : Carrier → Side → BranchState → BranchState) (ticked : Carrier → Nat) :
    Prop :=
  (∀ c side, (t.monitor.branches.get c).get side = judged c side
    (exclusionTaken ((s.params c).excludes side) ((t.params c).excludes side)
      ((s.monitor.branches.get c).get side))) ∧
  (∀ c side, (s.params c).excludes side = false → (t.params c).excludes side = true →
    ((s.monitor.branches.get c).get side).health = .faulted →
    LatchedAfter s.events t.events .branchFault (branchIndex c side) (some .leave)) ∧
  ∀ c, t.monitor.grace.get c =
    if s.enabled c = true ∧ t.enabled c = true ∧ ((s.params c).mode ≠ (t.params c).mode ∨
        (s.params c).excludes .a ≠ (t.params c).excludes .a ∨ (s.params c).excludes .b ≠ (t.params c).excludes .b) then t.working.link.pauseGrace
    else if s.enabled c = true ∧ t.enabled c = false then 0
    else ticked c

/-- The commit of FRAME_START(n) has been made (R183): the staged set is in force with its table, and a carrier that it
enables or disables has started afresh (R8, R11, R20, R61, R63, R72, R109, R131, R150, R163, R164, R170). -/
def CommitTaken (n : FrameNo) (table : List ProfileRecord) (s t : State) : Prop :=
  t.working = { link := s.staged.link, carriers := s.staged.carriers, table := table, classes := s.staged.classes } ∧
  t.applyPending = false ∧ t.staged = s.staged ∧ t.port.watch = some s.staged.link.frameWatch ∧
  LatchedAfter s.events t.events .applyDone 0 none ∧
  t.mapper.shadow = some { remaining := 1, loadFrame := n + 1,
                           result := placement (capacities t.working t.txActive) t.working.classes } ∧
  (∀ c, s.enabled c ≠ t.enabled c →
    t.est.get c = { est := none, margin := 0, fade := false } ∧
    t.intake.get c = { lastAccepted := none, records := { a := none, b := none } } ∧
    t.sig.get c = { lost := false, invalidRun := 0, validRun := 0, lastValid := none } ∧
    t.txActive c = 0 ∧ (t.rau.get c).active = 0 ∧ (t.rau.get c).linked = false ∧ (t.rau.get c).armed = none ∧
    (t.rau.get c).refused = none ∧ (t.rau.get c).timer = none ∧ (t.rau.get c).m = 1 ∧
    (t.rau.get c).upCounter = 65535 ∧ (t.rau.get c).guardOpen = false ∧
    (t.pcu.get c).atpc = 0 ∧ (t.pcu.get c).shadow = none ∧ t.fault.farFault.get c = false ∧
    (t.port.carriers.get c).missed = 0 ∧ ConditionsLeft c s t) ∧
  (∀ c, s.enabled c = true → t.enabled c = false →
    (t.rau.get c).phase = .standby ∧ (t.rau.get c).request.kind = .none ∧
    (t.lane.carriers.get c).entry = none ∧ t.mapper.active.maps.get c = [] ∧ (t.pcu.get c).period = 0 ∧
    (t.pcu.get c).eff = 0 ∧ t.monitor.grace.get c = 0 ∧ t.port.fieldOut.get c = none) ∧
  ∀ c, s.enabled c = false → t.enabled c = true → (t.rau.get c).phase = .acquire

/-- A class's entry re-derived at a commit (R164 steps 2 and 4): `held` are the segments of the entry before that the
kept maps still show. Counts are taken from the last segment backward until need is left, so a segment keeps the smaller
of its count and what need leaves after those before it. -/
def ClassConformed (r : ClassRecord) (held : List (Carrier × Nat)) (before after : ClassEntry) : Prop :=
  (r.active = false → after = { state := .inactive, placed := 0, segments := [] }) ∧
  (r.active = true → ∃ cut : List (Carrier × Nat),
    (cut.map (·.1)).Sublist (held.map (·.1)) ∧ (∀ seg ∈ cut, 1 ≤ seg.2) ∧
    (∀ i c n, held[i]? = some (c, n) →
      segmentSum (cut.filter fun seg => seg.1 = c) = min n (r.need - segmentSum (held.take i))) ∧
    (cut = [] → after =
      { state := if before.state = .inactive then .inactive else .shed, placed := 0, segments := [] }) ∧
    (cut ≠ [] →
      let total := segmentSum cut
      let state : PlaceState :=
        if r.split then (if total = r.need then .placed else if r.min.getD r.need ≤ total then .partly else .shed)
        else if cut.length = 1 ∧ total = r.need then .placed else .shed
      after = if state = .shed then { state := .shed, placed := 0, segments := [] }
        else { state := state, placed := total, segments := cut }))

/-- The active maps and entries conformed at a commit (R164, R166), from the placement p that stood before it. `kept` is
each map after steps 1 to 3: empty on a carrier that the commit disables, and else the longest beginning of its pairs of
active classes that fits the capacity of the TX active profile. -/
def MapsConformed (s t : State) (p : Placement) : Prop :=
  PlacementSound p → ∃ kept : Carrier → List (Cls × Nat),
    (∀ c, s.enabled c = true → t.enabled c = false → kept c = []) ∧
    (∀ c, s.enabled c = false ∨ t.enabled c = true →
      let pairs := (p.maps.get c).filter fun pair => (t.working.classes.get pair.1).active
      let cap := capacityOf t.working.table (t.txActive c)
      kept c <+: pairs ∧ mapSum (kept c) ≤ cap ∧
      ∀ longer, longer <+: pairs → mapSum longer ≤ cap → longer.length ≤ (kept c).length) ∧
    (∀ c, ((t.mapper.active.maps.get c).map (·.1)).Sublist ((kept c).map (·.1)) ∧
      ∀ k n, (k, n) ∈ t.mapper.active.maps.get c ↔ (c, n) ∈ (t.mapper.active.entries.get k).segments) ∧
    ∀ k, ClassConformed (t.working.classes.get k)
        ((p.entries.get k).segments.filter fun seg => (kept seg.1).any fun pair => pair.1 = k)
        (p.entries.get k) (t.mapper.active.entries.get k) ∧
      ((p.entries.get k).state ≠ .shed → (t.mapper.active.entries.get k).state = .shed →
        LatchedAfter s.events t.events .classShed k.toNat (some .enter)) ∧
      ((p.entries.get k).state = .shed → (t.mapper.active.entries.get k).state ≠ .shed →
        LatchedAfter s.events t.events .classShed k.toNat (some .leave))

/-- The placement in force once a frame start has loaded a due shadow (R161). -/
def loadedPlacement (s : State) : Placement :=
  match s.mapper.shadow with
  | some sh => if sh.remaining ≤ 1 then sh.result else s.mapper.active
  | none => s.mapper.active

/-- What a commit does to the receive context of a carrier enabled before and after it (R73); `raised` says that it
raised the abort, which cancels an open request as well (R174). -/
def RxCarriedOver (s t : State) (raised : Prop) (c : Carrier) : Prop :=
  let T := t.working.length
  let x := s.rau.get c
  let y := t.rau.get c
  (T ≤ x.active → y.active = 0 ∧ LatchedAfter s.events t.events .profileSlip c.toNat none) ∧
  (x.active < T → y.active = x.active) ∧
  (x.armed = none → y.armed = none) ∧
  (∀ armed, x.armed = some armed → y.armed = if armed.next < T then some armed else none) ∧
  (∀ target, x.request.kind ≠ .none → x.request.target = some target → (t.params c).rxCeiling < target →
    y.request = { seq := nextSeq x.request.seq x.consumed, kind := .none, target := none } ∧ y.timer = none) ∧
  (¬ raised → x.active < T → (∀ target ∈ x.request.target, target ≤ (t.params c).rxCeiling) →
    y.request = x.request ∧ y.timer = x.timer) ∧
  y.hold = t.working.link.holdFrames * x.m ∧ y.m = x.m ∧ y.phase = x.phase ∧ y.refused = x.refused ∧
  y.guardOpen = x.guardOpen ∧ y.upCounter = x.upCounter

/-- What a commit does to the lane items of a carrier enabled before and after it (R129, R131): the re-check of its
entry against the new ceiling and length, and the CEILING entry handed to the intake; `raised` says that the abort
follows. -/
def TxCarriedOver (s t : State) (raised : Prop) (c : Carrier) : Prop :=
  let ceiling := (t.params c).txCeiling
  let x := s.lane.carriers.get c
  let y := t.lane.carriers.get c
  y.active = x.active ∧
  (¬ raised → ∃ z, EntryRechecked ceiling t.working.length x z ∧ (x.active ≤ ceiling → y = z) ∧
    (ceiling < x.active → InternalIntake .ceiling .down ceiling z y))

/-- What a commit does to the power record of a carrier enabled before and after it (R150); `raised` says that the
abort, which holds the record as well, follows. -/
def PowerCarriedOver (s t : State) (raised : Prop) (c : Carrier) : Prop :=
  let x := s.pcu.get c
  let y := t.pcu.get c
  ((t.params c).atpcEnable = false → y.atpc = 0 ∧ y.period = x.period) ∧
  ((t.params c).atpcEnable = true → (s.params c).atpcEnable = true → y.period = x.period ∧
    (¬ raised → y.atpc = min x.atpc (t.params c).maxAtten)) ∧
  ((t.params c).atpcEnable = true → (s.params c).atpcEnable = false → (s.sig.get c).lost = false →
    s.fault.state = .running → y.period = (t.params c).period) ∧
  y.shadow = x.shadow

/-- The slots that a class entry holds on a carrier (R154). -/
def slotsOn (e : ClassEntry) (c : Carrier) : Nat := segmentSum (e.segments.filter fun seg => seg.1 = c)

/-- The free count of a carrier when the visit reaches a class (R157): its capacity less what the classes visited
before hold on it. -/
def freeBefore (cap : Four Nat) (classes : Eight ClassRecord) (p : Placement) (k : Cls) (c : Carrier) : Nat :=
  cap.get c - (((visitOrder classes).takeWhile (· ≠ k)).map fun j => slotsOn (p.entries.get j) c).sum

/-- The estimate after a list of samples, from an unseeded record (R27 to R32). -/
def estimateAfter (link : LinkParams) (samples : List Int) : Option Estimate :=
  samples.foldl (fun before sample => some (nextEstimate link before sample)) none

/-- A request keeps the step rules against a profile (R91): an UP names the profile one above it, a downgrade one below
it. -/
def KeepsStepRules (a : Nat) (r : Request) : Prop :=
  (r.kind = .up → r.target = some (a + 1)) ∧ (r.kind = .down ∨ r.kind = .urgent → ∃ t, r.target = some t ∧ t < a)

/-- The request of x is rebased against a profile (R91): one that keeps the step rules stands with its seq and its timer,
and an open one that does not is cancelled with a new seq, chosen past the consumed one (R83). -/
def RequestRebased (a : Nat) (x y : RxContext) : Prop :=
  (KeepsStepRules a x.request → y.request = x.request ∧ y.timer = x.timer) ∧
  (¬ KeepsStepRules a x.request → x.request.target.isSome = true →
    y.request = { seq := nextSeq x.request.seq y.consumed, kind := .none, target := none } ∧ y.timer = none)

/-- A carrier for which the FRAME_START that makes a commit hands over neither a blind report (R9) nor a missing notice
(R13), whichever working set is in force when it would. -/
def CommitQuiet (s : State) (c : Carrier) : Prop :=
  s.port.current = none ∨ ((s.port.carriers.get c).fieldTaken = true ∧
    nextMissed s c < s.working.link.reportLoss ∧ nextMissed s c < s.staged.link.reportLoss)

/-- What FRAME_START has done in RUNNING before it makes the commit, on the items that a commit carries over: the receive
units' work (R89, as ReceiveTimersExpire and DueReceiveSwitchIsMade state it; SCAN read after this frame start's count of
the grace, [4]), the due switch with its re-check (R130), and the period counters and shadows (R145, R148). -/
def FrameWorked (s u : State) : Prop :=
  u = { s with rau := u.rau, lane := u.lane, pcu := u.pcu } ∧ u.lane.announcement = none ∧
  (∀ c, u.rau.get c =
    (rxFrameWork { rxEnv s c with scan := decide (1 < s.monitor.grace.get c) } (s.rau.get c)).1) ∧
  (∀ c, u.pcu.get c = { s.pcu.get c with
    period := (s.pcu.get c).period - 1
    shadow := (s.pcu.get c).shadow.bind fun sh =>
      if sh.remaining ≤ 1 then none else some { sh with remaining := sh.remaining - 1 } }) ∧
  ∀ c,
    (∀ a m, s.lane.announcement = some a → a.member? c = some m → EntryRechecked (s.params c).txCeiling
      s.working.length { s.lane.carriers.get c with active := m.toP } (u.lane.carriers.get c)) ∧
    ((∀ a, s.lane.announcement = some a → a.member? c = none) → u.lane.carriers.get c = s.lane.carriers.get c)

/-- A decision for a request acts on the standing one (R82): an equal open request stands, another one is replaced. -/
def asked (kind : ReqKind) (target : Nat) (x : RxContext) : RxContext :=
  if x.request.kind = kind ∧ x.request.target = some target then x
  else { x with request := { seq := nextSeq x.request.seq x.consumed, kind := kind, target := some target },
                timer := some 0 }

/-- A decision of none outside SWITCHING acts on the standing request (R82): an open UP is cancelled and the hold count
reloaded unless paused; another request stands. -/
def undecided (holdFrames : Nat) (paused : Bool) (x : RxContext) : RxContext :=
  if x.request.kind = .up then
    { x with request := { seq := nextSeq x.request.seq x.consumed, kind := .none, target := none }, timer := none,
             hold := if paused then x.hold else holdFrames * x.m }
  else x

/-- The bytes of a reply from byte i on. -/
def BytesAt (reply : List Byte) (i : Nat) (bytes : List Byte) : Prop := (reply.drop i).take bytes.length = bytes

/-- A flag as a byte (R188). -/
def flagCode (flag : Bool) : Byte := if flag then 1 else 0

/-- A slot map from byte i of a reply on: the number of pairs and eight pair slots (11.6). -/
def MapAt (reply : List Byte) (i : Nat) (m : List (Cls × Nat)) : Prop :=
  BytesAt reply i [byteOf m.length] ∧
  ∀ j, j < 8 → BytesAt reply (i + 1 + 2 * j) (match m[j]? with
    | some pair => [byteOf pair.1.toNat, byteOf pair.2]
    | none => [0, 0])

/-- A class's derived entry from byte i of a reply on: state, placed, number of segments and four segment slots (11.6). -/
def ClassEntryAt (reply : List Byte) (i : Nat) (e : ClassEntry) : Prop :=
  BytesAt reply i
    [(match e.state with
      | .inactive => 0
      | .placed => 1
      | .partly => 2
      | .shed => 3), byteOf e.placed, byteOf e.segments.length] ∧
  ∀ j, j < 4 → BytesAt reply (i + 3 + 2 * j) (match e.segments[j]? with
    | some seg => [byteOf seg.1.toNat, byteOf seg.2]
    | none => [0, 0])

/-- The codes of 11.6 for request kinds, change kinds, answer kinds and makers of internal entries. -/
def reqKindCode : ReqKind → Nat
  | .none => 0 | .up => 1 | .down => 2 | .urgent => 3

def changeKindCode : ChangeKind → Byte
  | .up => 1 | .down => 2 | .urgent => 3

def ansKindCode : AnsKind → Byte
  | .none => 0 | .granted => 1 | .deferred => 2 | .refused => 3 | .cancelled => 4

def makerCode : Internal → Byte
  | .sigloss => 1 | .ceiling => 2 | .abort => 3

/-- The eight bytes of a branch in READ_BRANCHES (R53, 11.6). -/
def branchReply (b : BranchState) (record : Option BranchRecord) : List Byte :=
  [(match b.health with
    | .healthy => 0
    | .suspect => 1
    | .faulted => 2
    | .excluded => 3), byteOf b.badRun, byteOf b.goodRun] ++
  match record with
  | none => [0, 0, 0, 0, 0]
  | some r => (match r.part with
    | none => [1, 0, 0]
    | some p => [(if p.lock then 7 else 3), p.snr, BitVec.ofInt 8 p.level]) ++ frameBytes r.frame

/-- The eight bytes of a carrier's pending entry in READ_LANE (R141, 11.6). -/
def entryReply : Option Entry → List Byte
  | none => [0, 0, 0, 0, 0, 0, 0, 0]
  | some (.far seq kind target arrival restored) =>
    [byteOf (1 + (if arrival.isSome then 2 else 0) + (if kind = .up then 4 else 0) +
      if kind = .up ∧ restored = true then 8 else 0), 0, byteOf seq.toNat, changeKindCode kind, byteOf target] ++
    frameBytes (arrival.getD 0) ++ [0]
  | some (.own maker kind target absorbed) =>
    [byteOf (1 + if absorbed.isSome then 16 else 0), makerCode maker, 0, changeKindCode kind, byteOf target, 0, 0,
     byteOf (absorbed.getD 0).toNat]

/-- The five bytes of a member slot in READ_LANE (R141, 11.6). -/
def memberReply : Option Member → List Byte
  | none => [0, 0, 0, 0, 0]
  | some m => [byteOf m.carrier.toNat, byteOf m.fromP, byteOf m.toP] ++ match m.origin with
    | .far seq => [0, byteOf seq.toNat]
    | .own maker => [makerCode maker, 0]

/-- The bytes of a line frame, SYNC first (11.6, Envelope). -/
def lineFrame (kind tag : Byte) (payload : List Byte) : List Byte :=
  Reply.frame { kind := kind, tag := tag, payload := payload }

/-- Bytes taken from the line one after the other, each with a high stop bit. -/
def takeBytes (bytes : List Byte) (s : State) : Host.Outcome State Fault Refusal :=
  bytes.foldl (fun o b => match o with
    | .next t => exec (.hmlByte b true) t
    | .fault r => .fault r
    | .refused r => .refused r) (.next s)

end Sys2Proof
end

