-- ==== Sys2Proof/Certificates/Slice0/Obligations.lean ====
section
/-!
DEFINITION. The statements for the provers, each about the CZ418 as the spec gives it. "The spec" below is the numbered
rules R1 to R188; `[n]` is entry n of the assumption log. Throughout, a host message's command is its whole good frame [6],
and the port holds the latest delivery to each carrier [17]: both are the model's way of holding what the rules say.
-/

open Sys2Proof Sys2Proof.Machine

/-! ## The machine -/

/-- A step runs the command at the front of the queue with the queue's rest; on an empty queue the block idles. The
queue and the idling are the model's choice [1]. -/
def Obligations.StepTakesTheFrontCommand : Prop :=
  (∀ (s : State) (i : Instr) (rest : List Instr), s.pending = i :: rest → step s = exec i (s.setPending rest)) ∧
  ∀ s : State, s.pending = [] → step s = .next s

/-- Every command, in every state, answers a next state and leaves the queue alone: no command stops the part (R1: it
"never pushes back on the modem"; R179: a refused message is answered). The queue is the model's [1]. -/
def Obligations.EveryCommandAnswersNext : Prop :=
  ∀ (i : Instr) (s : State), ∃ t, exec i s = .next t ∧ t.pending = s.pending

/-! ## Invariants -/

/-- Every invariant below holds at State.reset. The straps and the FAULT level of State.reset are the model's choice
[9], and nothing here rests on them. -/
def Obligations.ResetStateIsSound : Prop :=
  EstimatesInRange State.reset ∧ EventTableSound State.reset.events ∧ ConfigSound State.reset ∧
  ReceiveSound State.reset ∧ LaneSound State.reset ∧ PowerSound State.reset ∧ MonitorSound State.reset ∧
  SignallingSound State.reset ∧ MapperSound State.reset ∧ MapsFit State.reset

/-- The ranges of R18 are kept by every step: E, Pr and R of a seeded record in range, 1 to 8 estimates in its history,
M at most 63; an unseeded record with M 0 and the alarm clear. -/
def Obligations.EstimatesStayInRange : Prop :=
  ∀ s t : State, EstimatesInRange s → step s = .next t → EstimatesInRange t

/-- The Event Latch Table's form is kept by every step (R184): each (kind, index) at most once, in the order of R185,
every entry of an enabled kind and with an index of that kind; so it holds at most 58 entries. -/
def Obligations.EventTableStaysSound : Prop :=
  ∀ s t : State, EventTableSound s.events → step s = .next t →
    EventTableSound t.events ∧ t.events.entries.length ≤ 58

/-- The working set passes the checks of R58 and the ceilings of R59 after every step, and so does the staged set while
an APPLY is pending (R57, R183); every parameter of both sets stays in its range (R181). -/
def Obligations.ConfigurationStaysChecked : Prop :=
  ∀ s t : State, ConfigSound s → step s = .next t → ConfigSound t

/-- Every receive context keeps its ranges (R70), the bound of R62, the step rules of R91 and the timer of R87, after
every step; an open request names no profile above rx_ceiling and no absent one (R61). -/
def Obligations.ReceiveContextsStaySound : Prop :=
  ∀ s t : State, ConfigSound s → ReceiveSound s → step s = .next t → ReceiveSound t

/-- The Change Lane keeps, after every step: TX active below T (R62), one-step UP entries and members (R129, R134),
downgrades that go down, no UP entry in ABORTED (R138), and the TX bound that a pending APPLY was checked against
(R59, R60). -/
def Obligations.LaneStaysSound : Prop :=
  ∀ s t : State, ConfigSound s → LaneSound s → step s = .next t → LaneSound t

/-- atpc_atten never exceeds max_atten and is 0 under every hold (R142, R143), and the attenuation in force never
exceeds 40 (R147), after every step. -/
def Obligations.PowerStaysSound : Prop :=
  ∀ s t : State, PowerSound s → step s = .next t → PowerSound t

/-- The run counts of branches (R40) and of signalling (R108) belong to their states after every step, and a branch is
EXCLUDED exactly while its flag is yes (R47). -/
def Obligations.BranchAndSignallingRunsStaySound : Prop :=
  ∀ s t : State, ConfigSound s → MonitorSound s → SignallingSound s → step s = .next t →
    MonitorSound t ∧ SignallingSound t

/-- The slot maps and the class entries show the same segments after every step (R154, R155), and the maps stay empty
during a frame loss. Each active map fits the capacity of its carrier's TX active profile after every step (R15, R155)
but one that runs ANNOUNCEMENT_SWITCH or MAP_SHADOW_LOAD alone: each row makes half of a switch, which the part makes at
one frame start, and that the rows stand alone is the model's choice [2]. -/
def Obligations.SlotMapsStaySound : Prop :=
  (∀ s t : State, ConfigSound s → MapperSound s → step s = .next t → MapperSound t) ∧
  ∀ s t : State, ConfigSound s → LaneSound s → MapperSound s → MapsFit s →
    s.pending.head? ≠ some .announcementSwitch → s.pending.head? ≠ some .mapShadowLoad →
    step s = .next t → MapsFit t

/-! ## Frame starts and frame loss -/

/-- R4: the first FRAME_START after a reset. With no APPLY pending no carrier's estimate, signalling or report items
move at it. -/
def Obligations.FirstFrameStartTakesItsNumber : Prop :=
  ∀ (n : FrameNo) (order : FrameOrder) (s : State), s.port.link = .running → s.port.current = none →
    ∃ t, exec (.frameStart n order) s = .next t ∧
      t.port.current = some n ∧ t.port.previous = none ∧ t.port.link = .running ∧
      t.port.watch = some t.working.link.frameWatch ∧
      (∀ c, t.port.carriers.get c = { missed := 0, arrival := false, fieldTaken := false }) ∧
      t.events.latched .frameSlip 0 = s.events.latched .frameSlip 0 ∧
      (s.applyPending = false → t.est = s.est ∧ t.sig = s.sig ∧ t.intake = s.intake) ∧
      t.staged = s.staged ∧ t.hml = s.hml

/-- R3 and R8: an ordinary FRAME_START adopts its number, latches FRAME_SLIP exactly on a number that was not expected,
restarts the watch with the working set's value after any commit, and counts missed reports of the carriers enabled
both before and after any commit. -/
def Obligations.FrameStartAdoptsItsNumber : Prop :=
  ∀ (n cur : FrameNo) (order : FrameOrder) (s : State), s.port.link = .running → s.port.current = some cur →
    ∃ t, exec (.frameStart n order) s = .next t ∧
      t.port.current = some n ∧ t.port.previous = some cur ∧ t.port.link = .running ∧
      t.port.watch = some t.working.link.frameWatch ∧
      (∀ c, t.port.carriers.get c =
        { missed :=
            if s.enabled c = true ∧ t.enabled c = true then
              (if (s.port.carriers.get c).arrival then 0 else min 255 ((s.port.carriers.get c).missed + 1))
            else 0
          arrival := false, fieldTaken := false }) ∧
      (n = cur + 1 → t.events.latched .frameSlip 0 = s.events.latched .frameSlip 0) ∧
      (n ≠ cur + 1 → LatchedAfter s.events t.events .frameSlip 0 none) ∧
      t.staged = s.staged ∧ t.hml = s.hml

/-- R7 and the last case of R17: the restoring FRAME_START. R149: it releases the hold for FRAME_LOST, and the period
counter of a carrier under no other hold is reloaded; R165: the mapper's shadow is the placement at P0, also when this
frame start makes a commit. -/
def Obligations.RestoringFrameStartPutsBaseInForce : Prop :=
  ∀ (n : FrameNo) (order : FrameOrder) (s : State), s.port.link = .frameLost →
    ConfigSound s → ReceiveSound s → LaneSound s → PowerSound s → MapperSound s →
    ∃ t, exec (.frameStart n order) s = .next t ∧
      t.port.current = some n ∧ t.port.previous = none ∧ t.port.link = .running ∧
      t.port.watch = some t.working.link.frameWatch ∧
      (∀ c, t.port.carriers.get c = { missed := 0, arrival := false, fieldTaken := false }) ∧
      (∀ c, t.intake.get c = { lastAccepted := none, records := { a := none, b := none } }) ∧
      LatchedAfter s.events t.events .frameLost 0 (some .leave) ∧
      t.events.latched .frameSlip 0 = s.events.latched .frameSlip 0 ∧
      (∀ c, (t.rau.get c).active = 0 ∧ t.txActive c = 0) ∧
      (∀ c, t.enabled c = true → t.port.settings.get c =
        some { frame := n, rxModCode := modCodeOf t.working.table 0, txModCode := modCodeOf t.working.table 0,
               atten := 0, output := .live, slotMap := [] }) ∧
      (∀ c,
        (s.enabled c = true → t.enabled c = true → (s.params c).atpcEnable = true → (t.params c).atpcEnable = true →
          (s.sig.get c).lost = false → s.fault.state = .running → (t.pcu.get c).period = (s.params c).period) ∧
        (s.applyPending = false →
          s.enabled c = false ∨ (s.params c).atpcEnable = false ∨ (s.sig.get c).lost = true ∨ s.fault.state = .aborted →
          (t.pcu.get c).period = (s.pcu.get c).period - 1)) ∧
      (∃ cap : Four Nat, (∀ c, cap.get c = if t.enabled c = true then capacityOf t.working.table 0 else 0) ∧
        t.mapper.shadow = some { remaining := 1, loadFrame := n + 1, result := placement cap t.working.classes }) ∧
      t.staged = s.staged ∧ t.hml = s.hml

/-- R14, R15, R16: every FRAME_START delivers a CARRIER_SETTINGS for each carrier, gathered from the blocks' values for
the frame, and a FIELD_OUT for each enabled carrier, composed from the state when both hand-overs came before the
composition, and else from the state u that the later hand-overs found: with the same TX active profiles, announcement,
faults and working set, from which the blind reports (R9) and the missing notices (R13) that were left to the last make
the state after the step. The order operand [3] and the held deliveries [17] are the model's. -/
def Obligations.FrameStartDeliversSettingsAndFields : Prop :=
  ∀ (n : FrameNo) (order : FrameOrder) (s : State),
    ∃ t, exec (.frameStart n order) s = .next t ∧
      (∀ c, t.port.settings.get c = some
        (if t.enabled c = true then
          { frame := n, rxModCode := modCodeOf t.working.table (t.rau.get c).active,
            txModCode := modCodeOf t.working.table (t.txActive c), atten := (t.pcu.get c).eff,
            output := .live, slotMap := t.mapper.active.maps.get c }
        else
          { frame := n, rxModCode := none, txModCode := none, atten := 0, output := .muted, slotMap := [] })) ∧
      (∀ c, (t.port.fieldOut.get c).isSome = t.enabled c) ∧
      (∀ c, ∀ out ∈ t.port.fieldOut.get c, out.frame = n) ∧
      (order.reports ≠ .last → order.notices ≠ .last →
        ∀ c, ∀ out ∈ t.port.fieldOut.get c, out.bytes = composeField t c) ∧
      ∃ u, (∀ c, ∀ out ∈ t.port.fieldOut.get c, out.bytes = composeField u c) ∧
        (∀ c, u.txActive c = t.txActive c) ∧ u.lane.announcement = t.lane.announcement ∧ u.fault = t.fault ∧
        u.working = t.working ∧
        (s.port.link = .frameLost ∨ s.port.current = none → t = u) ∧
        (s.port.link = .running → s.port.current.isSome = true → ∃ counted missing : Four Bool,
          (∀ c, counted.get c = (s.enabled c && t.enabled c)) ∧
          (∀ c, missing.get c = (s.enabled c && t.enabled c && !(s.port.carriers.get c).fieldTaken)) ∧
          (let v := if order.reports = .last then takeBlinds counted u else u
           t = if order.notices = .last then takeNotices missing v else v))

/-- R5 with the loss column of the table after R7: the frame watch expires in RUNNING. The muting settings keep the other
values of the last delivery, FADE_ALARM and SIG_LOST are left where they held (R19, R109), and classes that hold slots
become SHED (R165). That the row does nothing in FRAME_LOST or
with the watch stopped, where the watch cannot expire, is the model's choice [2]. -/
def Obligations.FrameLossMutesAndClears : Prop :=
  (∀ (n : FrameNo) (s : State), s.port.link = .running → s.port.watch.isSome = true → s.port.current = some n →
    ∃ t, exec .frameLoss s = .next t ∧
      t.port.link = .frameLost ∧ t.port.watch = none ∧ t.port.current = some n ∧
      t.port.previous = s.port.previous ∧ t.port.carriers = s.port.carriers ∧ t.port.fieldOut = s.port.fieldOut ∧
      (∀ c, s.enabled c = true → ∃ out, t.port.settings.get c = some out ∧ out.frame = n ∧ out.output = .muted ∧
        out.slotMap = []) ∧
      (∀ c old, s.enabled c = true → s.port.settings.get c = some old →
        t.port.settings.get c = some { old with frame := n, output := .muted, slotMap := [] }) ∧
      LatchedAfter s.events t.events .frameLost 0 (some .enter) ∧
      (∀ c, t.est.get c = { est := none, margin := 0, fade := false }) ∧
      (∀ c, s.enabled c = true →
        (t.rau.get c).phase = .acquire ∧ (t.rau.get c).request.kind = .none ∧ (t.rau.get c).armed = none ∧
        (t.rau.get c).timer = none ∧ (t.rau.get c).refused = none ∧ (t.rau.get c).linked = false ∧
        (t.rau.get c).guardOpen = false ∧ (t.rau.get c).m = (s.rau.get c).m ∧
        (t.rau.get c).upCounter = (s.rau.get c).upCounter) ∧
      (∀ c, s.enabled c = false → t.rau.get c = s.rau.get c) ∧
      t.lane.announcement = none ∧
      (∀ c, t.lane.carriers.get c = { s.lane.carriers.get c with entry := none }) ∧
      (∀ c, t.pcu.get c = { s.pcu.get c with atpc := 0, shadow := none }) ∧
      (∀ c, t.sig.get c = { lost := false, invalidRun := 0, validRun := 0, lastValid := none }) ∧
      (∀ c, ConditionsLeft c s t) ∧
      (∀ c, t.mapper.active.maps.get c = []) ∧ t.mapper.shadow = none ∧
      (∀ k, let held := s.mapper.active.entries.get k
        (held.state = .placed ∨ held.state = .partly →
          t.mapper.active.entries.get k = { state := .shed, placed := 0, segments := [] } ∧
          LatchedAfter s.events t.events .classShed k.toNat (some .enter)) ∧
        (held.state = .shed ∨ held.state = .inactive → t.mapper.active.entries.get k = held)) ∧
      (∀ c, t.fault.farFault.get c = false) ∧ t.fault.state = s.fault.state ∧ t.fault.cause = s.fault.cause ∧
      t.fault.faultLevel = s.fault.faultLevel ∧
      t.monitor = s.monitor ∧ t.intake = s.intake ∧ t.staged = s.staged ∧ t.working = s.working ∧
      t.applyPending = s.applyPending ∧ t.hml = s.hml) ∧
  ∀ s : State, s.port.link = .frameLost ∨ s.port.watch = none → exec .frameLoss s = .next s

/-! ## Reports and the Margin Estimator -/

/-- R6, R10, R11: the reports that are not accepted. Those of a lost, unstarted or disabled carrier are discarded without
any event; stale, duplicate and behind ones are discarded with STALE_REPORT, and nothing else changes. -/
def Obligations.UnusableReportIsDiscarded : Prop :=
  ∀ (c : Carrier) (f : FrameNo) (a b : Option BranchPart) (errors : BitVec 8) (s : State),
    (s.port.link = .frameLost ∨ s.port.current = none ∨ s.enabled c = false →
      exec (.carrierReport c f a b errors) s = .next s) ∧
    ∀ n, s.port.link = .running → s.port.current = some n → s.enabled c = true →
      ((f ≠ n ∧ s.port.previous ≠ some f) ∨ (s.intake.get c).lastAccepted = some f ∨
        (s.port.previous = some f ∧ (s.intake.get c).lastAccepted = some n)) →
      exec (.carrierReport c f a b errors) s =
        .next (s.report [{ kind := .staleReport, index := c.toNat, edge := none }])

/-- R1, R12, R21, R26 to R35: an accepted report is stored, with each level taken at the nearer limit, sets the arrival
flag, and passes through the estimator to the receive unit as one act: the sample is 16 × combined, E is seeded with it
or filtered toward it, and the slope, the prediction, the margin and the fade alarm with its edges follow. Nothing else
changes but the events it reports. R75 to R82, R96: what the receive unit does with the hand-over, clause by clause; the
target and the kind of a downgrade are those of DowngradeNamesTheHighestHeldProfile. The pass to WORKING reloads the hold
count in ABORTED too [29], SWITCHING leaves it as it stands [13], and the memory's suppression of an UP that is open
cancels it with the reload of R82 [32]. -/
def Obligations.AcceptedReportIsStoredAndHandedOn : Prop :=
  (∀ (c : Carrier) (f n : FrameNo) (a b : Option BranchPart) (errors : BitVec 8) (s : State),
    s.port.link = .running → s.port.current = some n → s.enabled c = true → (f = n ∨ s.port.previous = some f) →
    (s.intake.get c).lastAccepted ≠ some f →
    ¬ (s.port.previous = some f ∧ (s.intake.get c).lastAccepted = some n) →
    ∃ t record,
      exec (.carrierReport c f a b errors) s = .next t ∧
      t = { s with port := t.port, intake := t.intake, est := t.est, rau := t.rau, events := t.events } ∧
      t.port.carriers = s.port.carriers.set c
        { missed := 0, arrival := true, fieldTaken := (s.port.carriers.get c).fieldTaken } ∧
      t.port = { s.port with carriers := t.port.carriers } ∧
      (∀ d, d ≠ c → t.intake.get d = s.intake.get d ∧ t.est.get d = s.est.get d ∧ t.rau.get d = s.rau.get d) ∧
      (t.intake.get c).lastAccepted = some f ∧
      (∀ side part, (side = .a → part = a) → (side = .b → part = b) →
        (t.intake.get c).records.get side = some { frame := f, part := part.map fun p =>
          { p with level := if p.level < -120 then -120 else if -10 < p.level then -10 else p.level } }) ∧
      (let health := s.monitor.branches.get c
       let mode := (s.params c).mode
       let combined := combineBranches mode (eligibleSnr mode .a health.a.health a)
         (eligibleSnr mode .b health.b.health b)
       let link := s.working.link
       let sample : Int := match combined with
         | some v => 16 * (v : Int)
         | none => 0
       t.est.get c = (estimateReport s.working c combined (s.est.get c)).1 ∧
       (t.est.get c).est = some record ∧
       ((s.est.get c).est = none → record.e = sample ∧ record.r = 0 ∧ record.history = [sample]) ∧
       (∀ before, (s.est.get c).est = some before →
         record.e = filterEstimate link.filterShift link.fastDrop before.e sample ∧
         (before.history.length ≠ 8 → record.r = 0 ∧ record.history = before.history ++ [record.e]) ∧
         (∀ oldest rest, before.history = oldest :: rest → rest.length = 7 →
           record.r = (record.e - oldest).fdiv 8 ∧ record.history = rest ++ [record.e])) ∧
       record.pr = predict link.lookahead record.e record.r ∧
       (t.est.get c).margin = marginOf (marginBase s.working.table (s.params c).rxCeiling) record.pr ∧
       ((t.est.get c).fade = true ↔ record.pr < 16 * (link.fadeAlarmLevel : Int)) ∧
       ((s.est.get c).fade = false → (t.est.get c).fade = true →
         LatchedAfter s.events t.events .fadeAlarm c.toNat (some .enter)) ∧
       ((s.est.get c).fade = true → (t.est.get c).fade = false →
         LatchedAfter s.events t.events .fadeAlarm c.toNat (some .leave)) ∧
       ((s.est.get c).fade = (t.est.get c).fade → t.events.latched .fadeAlarm c.toNat =
         s.events.latched .fadeAlarm c.toNat) ∧
       t.rau.get c = takeHandover (rxEnv s c)
         { pr := record.pr, blind := combined.isNone, errors := errors.toNat } (s.rau.get c))) ∧
  ∀ (env : RxEnv) (h : Handover) (x : RxContext),
    let y := takeHandover env h x
    let reloaded := { x with hold := env.link.holdFrames * x.m }
    -- R75, R76, R96: no evaluation
    (x.phase = .acquire → y = if x.linked then { reloaded with phase := .working } else x) ∧
    (x.phase = .siglost ∨ x.phase = .standby ∨ (x.phase = .working ∧ env.running = false) → y = x) ∧
    (x.phase = .working → env.running = true →
      let paused := x.hostPause || env.scan
      let down := downgradeTarget env x.active h
      let suppressed (target : Nat) := ∃ r n, x.refused = some r ∧ env.frame = some n ∧ r.target = target ∧
        frameAge n r.frame < env.link.refuseBackoff
      let counts := paused = false ∧ x.active < env.ceiling ∧ x.request.kind ≠ .down ∧ x.request.kind ≠ .urgent
      -- R78, R81, R82: a downgrade outside SWITCHING
      (∀ target, down = some target → x.armed = none →
        let z := if paused then x else reloaded
        (¬ suppressed target → y = asked (downgradeKind env x.active target h) target z) ∧
        (suppressed target → y = undecided env.link.holdFrames paused z)) ∧
      -- R80: SWITCHING
      (∀ armed, x.armed = some armed →
        (∀ target, down = some target → target < armed.next → ¬ suppressed target →
          y = asked (downgradeKind env x.active target h) target x) ∧
        (∀ target, down = some target → armed.next ≤ target ∨ suppressed target → y = x) ∧
        (down = none → y = x)) ∧
      -- R79, R81, R82: the upgrade test
      (down = none → x.armed = none →
        (¬ counts → y = undecided env.link.holdFrames paused x) ∧
        ∀ r u, counts → env.table[x.active + 1]? = some r → r.up = some u →
          (h.pr < 16 * (u : Int) → y = undecided env.link.holdFrames paused reloaded) ∧
          (16 * (u : Int) ≤ h.pr →
            (2 ≤ x.hold → y = undecided env.link.holdFrames paused { x with hold := x.hold - 1 }) ∧
            (x.hold ≤ 1 → ¬ suppressed (x.active + 1) → y = asked .up (x.active + 1) { x with hold := 0 }) ∧
            (x.hold ≤ 1 → suppressed (x.active + 1) → y = undecided env.link.holdFrames paused { x with hold := 0 }))))

/-- R23, R24, R25: the combined value of a report, with the bonus table of R25. A branch counts exactly when it is
present, locked, HEALTHY or SUSPECT, and admitted by the mode. -/
def Obligations.BranchesCombine : Prop :=
  (∀ (mode : CombiningMode) (side : Side) (health : BranchHealth) (part : Option BranchPart),
    eligibleSnr mode side health part =
      match part with
      | some p =>
        if p.lock = true ∧ (health = .healthy ∨ health = .suspect) ∧
           ¬ (mode = .forceA ∧ side = .b) ∧ ¬ (mode = .forceB ∧ side = .a)
        then some (min p.snr.toNat 160) else none
      | none => none) ∧
  (∀ mode, combineBranches mode none none = none) ∧
  (∀ mode x, combineBranches mode (some x) none = some x ∧ combineBranches mode none (some x) = some x) ∧
  (∀ x y, combineBranches .select (some x) (some y) = some (max x y)) ∧
  ∀ x y, x ≤ 160 → y ≤ 160 → ∃ bonus, combineBranches .combine (some x) (some y) = some (min (max x y + bonus) 160) ∧
    (let d := max x y - min x y
     (d ≤ 7 → bonus = 12) ∧ (8 ≤ d ∧ d ≤ 15 → bonus = 8) ∧ (16 ≤ d ∧ d ≤ 23 → bonus = 6) ∧
     (24 ≤ d ∧ d ≤ 31 → bonus = 4) ∧ (32 ≤ d ∧ d ≤ 39 → bonus = 3) ∧ (40 ≤ d ∧ d ≤ 47 → bonus = 2) ∧
     (48 ≤ d ∧ d ≤ 63 → bonus = 1) ∧ (64 ≤ d → bonus = 0))

/-- R28, R29: fast attack takes the sample; otherwise the estimate moves by floor((S − E) / 2^k), so that it never rises
above the sample from below, stops short by less than 2^k, and reaches it from above in finitely many reports. -/
def Obligations.FilterSettlesOnTheSample : Prop :=
  (∀ (k drop : Nat) (e sample : Int), sample < e - 16 * (drop : Int) → filterEstimate k drop e sample = sample) ∧
  (∀ (k drop : Nat) (e sample : Int), ¬ sample < e - 16 * (drop : Int) →
    filterEstimate k drop e sample = e + (sample - e).fdiv (2 ^ k) ∧
    (k = 0 → filterEstimate k drop e sample = sample) ∧
    (1 ≤ k → sample < e → filterEstimate k drop e sample ≤ e - 1 ∧ sample ≤ filterEstimate k drop e sample) ∧
    (e ≤ sample → e ≤ filterEstimate k drop e sample ∧ filterEstimate k drop e sample ≤ sample) ∧
    (e < sample → sample - e < 2 ^ k → filterEstimate k drop e sample = e)) ∧
  (∀ (drop : Nat) (e sample : Int), 0 ≤ sample → e ≤ 16 * (drop : Int) → ¬ sample < e - 16 * (drop : Int)) ∧
  (∀ (k drop : Nat) (e sample : Int), sample ≤ e →
    ∃ n, (fun x => filterEstimate k drop x sample)^[n] e = sample) ∧
  ∀ (k drop : Nat) (e sample : Int), e ≤ sample →
    ∃ n, let settled := (fun x => filterEstimate k drop x sample)^[n] e
      settled ≤ sample ∧ sample - settled < 2 ^ k ∧ filterEstimate k drop settled sample = settled

/-- R27 to R32: after a run of reports from an unseeded record, the first estimate is the first sample and each later one
is filtered from the one before; the history holds the last eight estimates, oldest first; the slope is 0 up to the
eighth report, and from the ninth is floor((E − the estimate eight reports earlier) / 8); the prediction is taken from
both. -/
def Obligations.HistoryHoldsTheLastEightEstimates : Prop :=
  ∀ (link : LinkParams) (samples : List Int) (last : Int), ∃ (y : Estimate) (es : List Int),
    estimateAfter link (samples ++ [last]) = some y ∧
    es.length = samples.length + 1 ∧
    (∀ i, i < es.length → ∃ z, estimateAfter link ((samples ++ [last]).take (i + 1)) = some z ∧ es[i]? = some z.e) ∧
    es[0]? = (samples ++ [last])[0]? ∧
    (∀ i e sample, es[i]? = some e → (samples ++ [last])[i + 1]? = some sample →
      es[i + 1]? = some (filterEstimate link.filterShift link.fastDrop e sample)) ∧
    y.pr = predict link.lookahead y.e y.r ∧
    y.history = es.drop (es.length - 8) ∧
    (es.length ≤ 8 → y.r = 0) ∧
    (8 < es.length → ∃ oldest, es[es.length - 9]? = some oldest ∧ y.r = (y.e - oldest).fdiv 8)

/-- R32, R33: the prediction looks ahead along a falling slope only, and the margin report is the floor of its excess
over the base in half-dB steps, clamped to 0 to 63. -/
def Obligations.PredictionAndMarginFollowTheRules : Prop :=
  (∀ (L : Nat) (e r : Int), r < 0 → predict L e r = max 0 (e + r * L)) ∧
  (∀ (L : Nat) (e r : Int), 0 ≤ r → predict L e r = e) ∧
  (∀ (e r : Int), 0 ≤ e → predict 0 e r = e) ∧
  (∀ (table : List ProfileRecord) (ceiling : Nat) (r : ProfileRecord), table[ceiling]? = some r →
    marginBase table ceiling = match r.down with
      | some d => 16 * (d : Int)
      | none => 0) ∧
  ∀ base pr : Int, marginOf base pr ≤ 63 ∧ (pr ≤ base → marginOf base pr = 0) ∧
    (base + 2016 ≤ pr → marginOf base pr = 63) ∧
    (base ≤ pr → pr < base + 2016 →
      32 * (marginOf base pr : Int) ≤ pr - base ∧ pr - base < 32 * (marginOf base pr : Int) + 32)

/-- R9, R38, R77: a blind report that is due runs with sample 0, moves no port or intake item, and in WORKING with the
link RUNNING drives the receive direction to P0 by an URGENT request unless the refused-target memory holds P0; one that
is not due does nothing. That the row alone is this piece of a FRAME_START is the model's reading [2]. Every FRAME_START
of R3 hands a blind report over for exactly the counted carriers whose missed-report count comes to report_loss, which
is the one in force when it is handed over, the model's choice [27]. -/
def Obligations.BlindReportDrivesToBase : Prop :=
  ∀ (c : Carrier) (s : State),
    (s.port.link = .running → s.port.current.isSome = true → s.enabled c = true →
      s.working.link.reportLoss ≤ (s.port.carriers.get c).missed →
      ∃ t, exec (.blindReport c) s = .next t ∧
        t = { s with est := t.est, rau := t.rau, events := t.events } ∧
        (∀ d, d ≠ c → t.est.get d = s.est.get d ∧ t.rau.get d = s.rau.get d) ∧
        (∀ before, (s.est.get c).est = some before → 16 * (s.working.link.fastDrop : Int) < before.e →
          ∃ after, (t.est.get c).est = some after ∧ after.e = 0) ∧
        ((s.rau.get c).phase = .working → s.fault.state = .running → 0 < (s.rau.get c).active →
          (s.rau.get c).armed = none → (∀ r ∈ (s.rau.get c).refused, r.target ≠ 0) →
          (t.rau.get c).request.kind = .urgent ∧ (t.rau.get c).request.target = some 0)) ∧
    ((s.port.link = .frameLost ∨ s.port.current = none ∨ s.enabled c = false ∨
        (s.port.carriers.get c).missed < s.working.link.reportLoss) →
      exec (.blindReport c) s = .next s) ∧
    ∀ (n cur : FrameNo) (order : FrameOrder), s.port.link = .running → s.port.current = some cur →
      ∃ t, exec (.frameStart n order) s = .next t ∧
        (let w := if order.reports = .beforeBlocks then s.working else t.working
         let due := s.enabled c = true ∧ t.enabled c = true ∧ w.link.reportLoss ≤ nextMissed s c
         (due → t.est.get c = (estimateReport w c none (s.est.get c)).1) ∧
         (¬ due → s.enabled c = t.enabled c → t.est.get c = s.est.get c) ∧
         (s.applyPending = false → t.intake = s.intake) ∧
         (due → s.applyPending = false → 2 ≤ s.working.link.answerTimeout →
           (s.port.carriers.get c).fieldTaken = true → (s.rau.get c).phase = .working → s.fault.state = .running →
           0 < (s.rau.get c).active → (s.rau.get c).armed = none → (s.rau.get c).request.kind = .none →
           (s.rau.get c).timer = none → (∀ r ∈ (s.rau.get c).refused, r.target ≠ 0) →
           (t.rau.get c).request.kind = .urgent ∧ (t.rau.get c).request.target = some 0))

/-! ## Branch Monitor -/

/-- R41 to R46, R49: at an ordinary FRAME_START that makes no commit, every grace counter above 0 goes down by 1, the
branch of the current slot is judged (unless EXCLUDED or its carrier disabled), a fault transition starts the carrier's
grace, every other branch is left as it is, and the scan position moves on by one slot. At every FRAME_START, a commit's, the
first and the restoring one too, the scan position moves on by one slot (the restoring one by R41 and not by R40, the
model's reading [28]); the branch of the slot is passed over at the first and at the restoring FRAME_START and where a
commit enables or disables its carrier (R42), and no other branch changes but by a commit's exclusion. -/
def Obligations.FrameStartScansOneBranch : Prop :=
  (∀ (n : FrameNo) (order : FrameOrder) (s : State), ∃ t, exec (.frameStart n order) s = .next t ∧
    (let c := s.monitor.scanCarrier
     let side := s.monitor.scanSide
     let passed := s.port.link = .frameLost ∨ s.port.current = none ∨ s.enabled c ≠ t.enabled c
     (side = .a → t.monitor.scanCarrier = c ∧ t.monitor.scanSide = .b) ∧
     (side = .b → t.monitor.scanCarrier = c.succ ∧ t.monitor.scanSide = .a) ∧
     (∀ d other, (passed ∨ ¬ (d = c ∧ other = side)) →
       (s.params d).excludes other = (t.params d).excludes other →
       (t.monitor.branches.get d).get other = (s.monitor.branches.get d).get other) ∧
     (passed → NoCommitDue s → ∀ d, t.monitor.grace.get d = s.monitor.grace.get d - 1))) ∧
  ∀ (n cur : FrameNo) (order : FrameOrder) (s : State), s.port.link = .running → s.port.current = some cur →
    NoCommitDue s →
    ∃ t, exec (.frameStart n order) s = .next t ∧
      (let c := s.monitor.scanCarrier
       let side := s.monitor.scanSide
       let b := (s.monitor.branches.get c).get side
       let record := (s.intake.get c).records.get side
       let judged := s.enabled c && b.health ≠ .excluded
       let sample := sampleBranch s.working.link (badSample s.working.link n record) b
       (judged = true → (t.monitor.branches.get c).get side = sample.1) ∧
       (judged = false → (t.monitor.branches.get c).get side = b) ∧
       (∀ d other, ¬ (d = c ∧ other = side) →
         (t.monitor.branches.get d).get other = (s.monitor.branches.get d).get other) ∧
       (∀ d, t.monitor.grace.get d =
         if d = c ∧ judged = true ∧ sample.2.isSome = true then s.working.link.pauseGrace else s.monitor.grace.get d - 1) ∧
       (side = .a → t.monitor.scanCarrier = c ∧ t.monitor.scanSide = .b) ∧
       (side = .b → t.monitor.scanCarrier = c.succ ∧ t.monitor.scanSide = .a) ∧
       (∀ edge, judged = true → sample.2 = some edge →
         LatchedAfter s.events t.events .branchFault (branchIndex c side) (some edge)))

/-- R43, R44, R45, R46: what makes a sample bad, and the eight rows of the transition table. -/
def Obligations.SampleMovesBranchState : Prop :=
  (∀ (link : LinkParams) (n : FrameNo) (record : Option BranchRecord),
    badSample link n record = true ↔
      ∀ r ∈ record, ∀ p ∈ r.part, p.lock = false ∨ p.level < link.levelFloor ∨ 8 < frameAge n r.frame) ∧
  ∀ (link : LinkParams) (bad good : Nat),
    sampleBranch link false ⟨.healthy, 0, 0⟩ = (⟨.healthy, 0, 0⟩, none) ∧
    sampleBranch link true ⟨.healthy, 0, 0⟩ = (⟨.suspect, 1, 0⟩, none) ∧
    sampleBranch link false ⟨.suspect, bad, 0⟩ = (⟨.healthy, 0, 0⟩, none) ∧
    (bad + 1 < link.faultScans → sampleBranch link true ⟨.suspect, bad, 0⟩ = (⟨.suspect, bad + 1, 0⟩, none)) ∧
    (link.faultScans ≤ bad + 1 → sampleBranch link true ⟨.suspect, bad, 0⟩ = (⟨.faulted, 0, 0⟩, some .enter)) ∧
    sampleBranch link true ⟨.faulted, 0, good⟩ = (⟨.faulted, 0, 0⟩, none) ∧
    (good + 1 < link.recoverScans → sampleBranch link false ⟨.faulted, 0, good⟩ = (⟨.faulted, 0, good + 1⟩, none)) ∧
    (link.recoverScans ≤ good + 1 → sampleBranch link false ⟨.faulted, 0, good⟩ = (⟨.healthy, 0, 0⟩, some .leave))

/-- R49, GRACE_EXPIRY: a counter at 1 becomes 0 and SCAN leaves the pause set; nothing else changes. At any other count
the row does nothing [2]. -/
def Obligations.GraceExpiryEndsTheScanPause : Prop :=
  ∀ (c : Carrier) (s : State),
    (s.port.link = .running → s.port.current.isSome = true → s.monitor.grace.get c = 1 →
      exec (.graceExpiry c) s = .next (s.setMonitor { s.monitor with grace := s.monitor.grace.set c 0 }) ∧
      scanPauses (s.setMonitor { s.monitor with grace := s.monitor.grace.set c 0 }) c = false) ∧
    ((s.port.link = .frameLost ∨ s.port.current = none ∨ s.monitor.grace.get c ≠ 1) →
      exec (.graceExpiry c) s = .next s)

/-! ## Receive Adaptation Unit -/

/-- R77: the target and kind of a downgrade, with the thresholds 16 × down[p] written out; that a profile without a record
or a threshold is neither below nor reached is the model's reading [16]. The threshold case gives the
highest profile below a that the prediction holds; every target lies below a and at or below the ceiling. -/
def Obligations.DowngradeNamesTheHighestHeldProfile : Prop :=
  ∀ (env : RxEnv) (a : Nat) (h : Handover),
    (h.blind = true → 0 < a → downgradeTarget env a h = some 0) ∧
    (h.blind = false → 0 < a → belowDown env.table a h.pr = true →
      ∃ p, downgradeTarget env a h = some (min env.ceiling p) ∧ p < a ∧
        (p = 0 ∨ reachesDown env.table p h.pr = true) ∧
        ∀ q, p < q → q < a → reachesDown env.table q h.pr = false) ∧
    (h.blind = false → 0 < a → belowDown env.table a h.pr = false → env.link.errLimit ≤ h.errors →
      downgradeTarget env a h = some (min env.ceiling (a - 1))) ∧
    (h.blind = false → (a = 0 ∨ (belowDown env.table a h.pr = false ∧ h.errors < env.link.errLimit)) →
      env.ceiling < a → downgradeTarget env a h = some env.ceiling) ∧
    (h.blind = false → (a = 0 ∨ (belowDown env.table a h.pr = false ∧ h.errors < env.link.errLimit)) →
      a ≤ env.ceiling → downgradeTarget env a h = none) ∧
    (∀ target ∈ downgradeTarget env a h, target < a ∧ target ≤ env.ceiling) ∧
    (∀ target, downgradeKind env a target h =
      if h.blind = true ∨ env.link.errLimit ≤ h.errors ∨ target + 2 ≤ a then .urgent else .down) ∧
    ∀ p, (belowDown env.table p h.pr = true ↔
        ∃ r d, env.table[p]? = some r ∧ r.down = some d ∧ h.pr < 16 * (d : Int)) ∧
      (reachesDown env.table p h.pr = true ↔
        ∃ r d, env.table[p]? = some r ∧ r.down = some d ∧ 16 * (d : Int) ≤ h.pr)

/-- R79, R82: with an empty pause set, no request and no armed switch, each qualifying report counts the hold down, and
the report that brings it to 0 puts up an UP to the profile one above, with a new seq and the answer timer at 0. -/
def Obligations.UpgradeWaitsOutTheHoldCount : Prop :=
  ∀ (env : RxEnv) (x : RxContext) (u : Nat) (reports : List Handover),
    x.hostPause = false → env.scan = false → x.request.kind = .none → x.armed = none → x.active < env.ceiling →
    x.refused = none → upOf env.table (x.active + 1) = some u →
    (∀ h ∈ reports, downgradeTarget env x.active h = none ∧ 16 * (u : Int) ≤ h.pr) →
    (reports.length < x.hold →
      reports.foldl (fun y h => evaluateReport env h y) x = { x with hold := x.hold - reports.length }) ∧
    (1 ≤ x.hold → reports.length = x.hold →
      reports.foldl (fun y h => evaluateReport env h y) x =
        { x with hold := 0, timer := some 0,
                 request := { seq := nextSeq x.request.seq x.consumed, kind := .up, target := some (x.active + 1) } })

/-- R89, R90, R91, R94, RX_SWITCH: an armed switch whose count runs out is made: the active profile becomes the armed
one, PROFILE_CHANGE_RX is latched when the profile changes, the guard acts on the direction, the hold count is reloaded
and the request rebased: one that keeps the step rules against the new profile stands, another is cancelled. Nothing else
moves. Where no switch is due the row does nothing [2]. A FRAME_START without a commit counts every armed switch down and
makes the due ones itself, after the guard's counter step (R89). -/
def Obligations.DueReceiveSwitchIsMade : Prop :=
  ∀ (c : Carrier) (s : State),
    (∀ armed, s.port.link = .running → s.port.current.isSome = true → (s.rau.get c).phase ≠ .standby →
      (s.rau.get c).armed = some armed → armed.remaining ≤ 1 →
      ∃ t, exec (.rxSwitch c) s = .next t ∧
        t = { s with rau := t.rau, events := t.events } ∧ (∀ d, d ≠ c → t.rau.get d = s.rau.get d) ∧
        (t.rau.get c).active = armed.next ∧ (t.rau.get c).armed = none ∧
        (t.rau.get c).phase = (s.rau.get c).phase ∧ (t.rau.get c).refused = (s.rau.get c).refused ∧
        (t.rau.get c).hostPause = (s.rau.get c).hostPause ∧ (t.rau.get c).linked = (s.rau.get c).linked ∧
        (armed.next = (s.rau.get c).active → t = s.setRau (s.rau.set c { s.rau.get c with armed := none })) ∧
        (armed.next ≠ (s.rau.get c).active →
          LatchedAfter s.events t.events .profileChangeRx c.toNat none ∧
          (t.rau.get c).hold = s.working.link.holdFrames * (t.rau.get c).m) ∧
        ((s.rau.get c).active < armed.next →
          (t.rau.get c).upCounter = 0 ∧ (t.rau.get c).guardOpen = true ∧ (t.rau.get c).m = (s.rau.get c).m) ∧
        (armed.next < (s.rau.get c).active →
          (t.rau.get c).upCounter = (s.rau.get c).upCounter ∧ (t.rau.get c).guardOpen = false ∧
          (t.rau.get c).m = if (s.rau.get c).guardOpen then min 8 (2 * (s.rau.get c).m) else (s.rau.get c).m) ∧
        (armed.next ≠ (s.rau.get c).active → RequestRebased armed.next (s.rau.get c) (t.rau.get c)) ∧
        (RequestSound (s.rau.get c) → RequestSound (t.rau.get c))) ∧
    ((s.rau.get c).phase = .standby ∨ (s.rau.get c).armed = none ∨
        (∃ armed, (s.rau.get c).armed = some armed ∧ 2 ≤ armed.remaining) →
      exec (.rxSwitch c) s = .next s) ∧
    ∀ (n : FrameNo) (order : FrameOrder), s.port.link = .running → NoCommitDue s → (s.rau.get c).phase ≠ .standby →
      ∃ t, exec (.frameStart n order) s = .next t ∧
        (let x := s.rau.get c
         let y := t.rau.get c
         let expires := x.guardOpen = true ∧ s.working.link.pingpongWindow ≤ min 65535 (x.upCounter + 1)
         let m := if expires then max 1 (x.m / 2) else x.m
         (x.armed = none → y.armed = none ∧ y.active = x.active) ∧
         (∀ armed, x.armed = some armed → 2 ≤ armed.remaining →
           y.armed = some { armed with remaining := armed.remaining - 1 } ∧ y.active = x.active) ∧
         ∀ armed, x.armed = some armed → armed.remaining ≤ 1 →
           y.armed = none ∧ y.active = armed.next ∧
           (armed.next ≠ x.active → LatchedAfter s.events t.events .profileChangeRx c.toNat none) ∧
           (x.active < armed.next → y.upCounter = 0 ∧ y.guardOpen = true ∧ y.m = m) ∧
           (armed.next < x.active → y.upCounter = min 65535 (x.upCounter + 1) ∧ y.guardOpen = false ∧
             y.m = if x.guardOpen = true ∧ ¬ expires then min 8 (2 * m) else m) ∧
           (armed.next ≠ x.active → NoHandover s c → (∀ v ∈ x.timer, v + 1 < s.working.link.answerTimeout) →
             y.hold = s.working.link.holdFrames * y.m ∧
             RequestRebased armed.next { x with timer := x.timer.map (· + 1) } y))

/-- R83, R87, R94, REQUEST_TIMEOUT and PINGPONG_WINDOW_EXPIRY. An answer timer that reaches answer_timeout cancels the
request with a new seq, latches REQUEST_TIMEOUT, and for an UP reloads the hold count unless the pause set is
non-empty. A counter of an open guard that reaches pingpong_window halves m down to 1 and closes the guard. Where
neither is due the rows do nothing [2]. A FRAME_START without a commit counts both on and carries out what is due (R89);
SCAN is read after this frame start's count of the grace, by the order of the blocks [4]. -/
def Obligations.ReceiveTimersExpire : Prop :=
  ∀ (c : Carrier) (s : State),
    (∀ elapsed, s.port.link = .running → s.port.current.isSome = true → (s.rau.get c).phase ≠ .standby →
      (s.rau.get c).request.kind ≠ .none → (s.rau.get c).timer = some elapsed →
      s.working.link.answerTimeout ≤ elapsed + 1 →
      ∃ t seq, exec (.requestTimeout c) s = .next t ∧ t = { s with rau := t.rau, events := t.events } ∧
        (∀ d, d ≠ c → t.rau.get d = s.rau.get d) ∧
        LatchedAfter s.events t.events .requestTimeout c.toNat none ∧
        ((s.rau.get c).request.seq + 1 ≠ (s.rau.get c).consumed → seq = (s.rau.get c).request.seq + 1) ∧
        ((s.rau.get c).request.seq + 1 = (s.rau.get c).consumed → seq = (s.rau.get c).request.seq + 2) ∧
        t.rau.get c = { s.rau.get c with
          timer := none
          request := { seq := seq, kind := .none, target := none }
          hold :=
            if (s.rau.get c).request.kind = .up ∧ (s.rau.get c).hostPause = false ∧ s.monitor.grace.get c = 0
            then s.working.link.holdFrames * (s.rau.get c).m else (s.rau.get c).hold }) ∧
    ((s.rau.get c).phase = .standby ∨ (s.rau.get c).timer = none ∨
        (∃ elapsed, (s.rau.get c).timer = some elapsed ∧ elapsed + 1 < s.working.link.answerTimeout) →
      exec (.requestTimeout c) s = .next s) ∧
    (s.port.link = .running → s.port.current.isSome = true → (s.rau.get c).phase ≠ .standby →
      (s.rau.get c).guardOpen = true → s.working.link.pingpongWindow ≤ min 65535 ((s.rau.get c).upCounter + 1) →
      exec (.pingpongWindowExpiry c) s = .next (s.setRau (s.rau.set c { s.rau.get c with
        upCounter := min 65535 ((s.rau.get c).upCounter + 1), m := max 1 ((s.rau.get c).m / 2), guardOpen := false }))) ∧
    ((s.rau.get c).guardOpen = false ∨ min 65535 ((s.rau.get c).upCounter + 1) < s.working.link.pingpongWindow →
      exec (.pingpongWindowExpiry c) s = .next s) ∧
    ∀ (n : FrameNo) (order : FrameOrder), s.port.link = .running → NoCommitDue s →
      ∃ t, exec (.frameStart n order) s = .next t ∧
        (let x := s.rau.get c
         let y := t.rau.get c
         let expires := x.guardOpen = true ∧ s.working.link.pingpongWindow ≤ min 65535 (x.upCounter + 1)
         let counting := x.phase ≠ .standby ∧ ∀ armed ∈ x.armed, 2 ≤ armed.remaining
         (x.phase = .standby → y = x) ∧
         (counting → y.upCounter = min 65535 (x.upCounter + 1) ∧
           y.m = (if expires then max 1 (x.m / 2) else x.m) ∧
           y.guardOpen = if expires then false else x.guardOpen) ∧
         (counting → NoHandover s c →
           (x.timer = none → y.timer = none ∧ y.request = x.request ∧ y.hold = x.hold) ∧
           (∀ elapsed, x.timer = some elapsed → elapsed + 1 < s.working.link.answerTimeout →
             y.timer = some (elapsed + 1) ∧ y.request = x.request ∧ y.hold = x.hold) ∧
           ∀ elapsed, x.timer = some elapsed → s.working.link.answerTimeout ≤ elapsed + 1 → x.request.kind ≠ .none →
             y.timer = none ∧
             y.request = { seq := nextSeq x.request.seq x.consumed, kind := .none, target := none } ∧
             LatchedAfter s.events t.events .requestTimeout c.toNat none ∧
             y.hold = if x.request.kind = .up ∧ x.hostPause = false ∧ s.monitor.grace.get c ≤ 1
               then s.working.link.holdFrames * y.m else x.hold))

/-! ## Signalling Unit -/

/-- R101: a field is valid exactly when its CRC checks, VER is 1, ACTIVE lies below T, NEXT and COUNT name an
announcement below T or none, an asked target lies below T, and ANS_KIND names an answer kind (codes 0 to 4). -/
def Obligations.FieldValidityIsTheSevenChecks : Prop :=
  ∀ (T : Nat) (f : RawField), fieldValid T f = true ↔
    crc8 [f.b0, f.b1, f.b2, f.b3, f.b4] = f.b5 ∧ f.b0.toNat / 16 = 1 ∧ f.b0.toNat % 16 < T ∧
    ((f.b1.toNat / 16 = 15 ∧ f.b1.toNat / 2 % 8 = 0) ∨ (f.b1.toNat / 16 < T ∧ 1 ≤ f.b1.toNat / 2 % 8)) ∧
    (f.b2.toNat / 64 ≠ 0 → f.b3.toNat / 16 < T) ∧ f.b3.toNat / 2 % 8 ≤ 4

/-- R100 and the layout of 11.6: every field's parts are read back from its six bytes, every field whose unused bit is 0
is written back from its parts, and the CRC over all six bytes of an unchanged field is 0. -/
def Obligations.FieldPartsAndBytesAgree : Prop :=
  (∀ (p : FieldParts) (ans : AnsKind), p.ver < 16 → p.active < 16 → p.next < 16 → p.count < 8 → p.reqTarget < 16 →
    p.margin < 64 →
    fieldParts (writeField p ans) = { p with ansKind := some ans } ∧
    fieldCrc (writeField p ans) = (writeField p ans).b5 ∧ (writeField p ans).b4.getLsbD 0 = false) ∧
  (∀ (f : RawField) (ans : AnsKind), (fieldParts f).ansKind = some ans → f.b4.getLsbD 0 = false →
    fieldCrc f = f.b5 → writeField (fieldParts f) ans = f) ∧
  ∀ f : RawField, fieldCrc f = f.b5 ↔ crc8 [f.b0, f.b1, f.b2, f.b3, f.b4, f.b5] = 0

/-- R99, R103 to R107: the field composed for a carrier carries TX active, the announcement when the carrier is a
member, the standing request, the answer record, M, the alarm, the FAULT level and ABORTED; from a sound state it is
valid under R101 for a far end with the same table. -/
def Obligations.ComposedFieldIsValidAndTrue : Prop :=
  ∀ (s : State) (c : Carrier), ConfigSound s → ReceiveSound s → LaneSound s → EstimatesInRange s →
    s.enabled c = true →
    fieldValid s.working.length (composeField s c) = true ∧
    (let p := fieldParts (composeField s c)
     p.ver = 1 ∧ p.active = s.txActive c ∧ p.reqKind = (s.rau.get c).request.kind ∧
     p.reqSeq = (s.rau.get c).request.seq ∧
     p.reqTarget = ((s.rau.get c).request.target).getD 15 ∧
     p.ansKind = some (s.lane.carriers.get c).answer.kind ∧ p.ansSeq = (s.lane.carriers.get c).answer.seq ∧
     p.margin = (s.est.get c).margin ∧ p.fade = (s.est.get c).fade ∧ p.equipFault = s.fault.faultLevel ∧
     (p.aborted = true ↔ s.fault.state = .aborted) ∧
     (s.lane.memberOf c = none → p.next = 15 ∧ p.count = 0) ∧
     (∀ a m, s.lane.announcement = some a → s.lane.memberOf c = some m → p.next = m.toP ∧ p.count = a.count))

/-- R6, R13, R102, R110, R115: a field that is not taken changes nothing; an invalid field on a LINKED carrier below
sig_loss lengthens the invalid run, on a SIG_LOST carrier ends the valid run, and reaches no other block. Every
FRAME_START of R3 hands a missing notice, which is an invalid field, over for exactly the counted carriers whose field
was not taken; sig_loss is the one in force when it is handed over [27]. -/
def Obligations.InvalidFieldReachesNoOtherBlock : Prop :=
  ∀ (c : Carrier) (field : Option RawField) (s : State),
    (s.port.link = .frameLost ∨ s.port.current = none ∨ s.enabled c = false ∨
        (s.port.carriers.get c).fieldTaken = true →
      exec (.fieldIn c field) s = .next s) ∧
    (s.port.link = .running → s.port.current.isSome = true → s.enabled c = true →
      (s.port.carriers.get c).fieldTaken = false → (∀ f ∈ field, fieldValid s.working.length f = false) →
      let taken := s.setPortCarriers (s.port.carriers.set c { s.port.carriers.get c with fieldTaken := true })
      ((s.sig.get c).lost = false → (s.sig.get c).invalidRun + 1 < s.working.link.sigLoss →
        exec (.fieldIn c field) s =
          .next (taken.setSig (s.sig.set c { s.sig.get c with invalidRun := (s.sig.get c).invalidRun + 1 }))) ∧
      ((s.sig.get c).lost = true →
        exec (.fieldIn c field) s = .next (taken.setSig (s.sig.set c { s.sig.get c with validRun := 0 })))) ∧
    ∀ (n cur : FrameNo) (order : FrameOrder), s.port.link = .running → s.port.current = some cur →
      ∃ t, exec (.frameStart n order) s = .next t ∧
        (let x := s.sig.get c
         let link := if order.notices = .beforeBlocks then s.working.link else t.working.link
         let noticed := s.enabled c = true ∧ t.enabled c = true ∧ (s.port.carriers.get c).fieldTaken = false
         (¬ noticed → s.enabled c = t.enabled c → t.sig.get c = x) ∧
         (noticed → x.lost = true → t.sig.get c = { x with validRun := 0 }) ∧
         (noticed → x.lost = false → x.invalidRun + 1 < link.sigLoss →
           t.sig.get c = { x with invalidRun := x.invalidRun + 1 }) ∧
         (noticed → x.lost = false → link.sigLoss ≤ x.invalidRun + 1 →
           t.sig.get c = { x with lost := true, invalidRun := 0, validRun := 0 } ∧
           LatchedAfter s.events t.events .sigLost c.toNat (some .enter) ∧
           (powerHeld s c = false → (t.pcu.get c).atpc = 0) ∧
           ((s.rau.get c).phase = .acquire ∨ (s.rau.get c).phase = .working →
             (t.rau.get c).phase = .siglost ∧ (t.rau.get c).request.kind = .none)))

/-- R112, R113, R114: the invalid field that brings the run to sig_loss puts the carrier into SIG_LOST: the event, the
receive unit's pass to SIGLOST with its request cancelled and its armed switch kept, the hold of power control, the
refusal of a far-end UP, and under DROP_TO_BASE an entry to P0 while the TX bound is above P0, taken by the intake of
R128. -/
def Obligations.SignallingIsLostAtSigLoss : Prop :=
  ∀ (c : Carrier) (field : Option RawField) (s : State),
    s.port.link = .running → s.port.current.isSome = true → s.enabled c = true →
    (s.port.carriers.get c).fieldTaken = false → (∀ f ∈ field, fieldValid s.working.length f = false) →
    (s.sig.get c).lost = false → s.working.link.sigLoss ≤ (s.sig.get c).invalidRun + 1 →
    ∃ t, exec (.fieldIn c field) s = .next t ∧
      t = { s with port := t.port, sig := t.sig, rau := t.rau, pcu := t.pcu, lane := t.lane, events := t.events } ∧
      t.port = { s.port with
        carriers := s.port.carriers.set c { s.port.carriers.get c with fieldTaken := true } } ∧
      t.sig = s.sig.set c { s.sig.get c with lost := true, invalidRun := 0, validRun := 0 } ∧
      LatchedAfter s.events t.events .sigLost c.toNat (some .enter) ∧
      (∀ d, d ≠ c → t.rau.get d = s.rau.get d ∧ t.pcu.get d = s.pcu.get d ∧
        t.lane.carriers.get d = s.lane.carriers.get d) ∧
      ((s.rau.get c).phase = .acquire ∨ (s.rau.get c).phase = .working →
        (t.rau.get c).phase = .siglost ∧ (t.rau.get c).request.kind = .none ∧
        (t.rau.get c).armed = (s.rau.get c).armed ∧ (t.rau.get c).active = (s.rau.get c).active ∧
        (t.rau.get c).hold = (s.rau.get c).hold ∧ (t.rau.get c).m = (s.rau.get c).m ∧
        (t.rau.get c).refused = (s.rau.get c).refused) ∧
      (powerHeld s c = false → t.pcu.get c = { s.pcu.get c with atpc := 0 }) ∧
      (powerHeld s c = true → t.pcu.get c = s.pcu.get c) ∧
      t.lane.announcement = s.lane.announcement ∧ t.txActive c = s.txActive c ∧
      (∀ seq target arrival restored, (s.lane.carriers.get c).entry = some (.far seq .up target arrival restored) →
        (t.lane.carriers.get c).answer = { kind := .refused, seq := seq } ∧
        (t.lane.carriers.get c).lastAnswered = seq) ∧
      ((s.params c).lossPolicy = .freeze →
        (t.lane.carriers.get c).entry = ((s.lane.carriers.get c).entry.filter fun e => e.isOwn || e.kind ≠ .up)) ∧
      ((s.params c).lossPolicy = .dropToBase → 0 < s.lane.txBound c →
        (∃ maker absorbed, (t.lane.carriers.get c).entry = some (.own maker .urgent 0 absorbed)) ∧
        InternalIntake .sigloss .urgent 0 (s.lane.carriers.get c) (t.lane.carriers.get c)) ∧
      ((∀ seq target arrival restored, (s.lane.carriers.get c).entry ≠ some (.far seq .up target arrival restored)) →
        (t.lane.carriers.get c).answer = (s.lane.carriers.get c).answer ∧
        (t.lane.carriers.get c).lastAnswered = (s.lane.carriers.get c).lastAnswered) ∧
      ((s.params c).lossPolicy = .dropToBase → s.lane.txBound c = 0 →
        ∀ e ∈ (t.lane.carriers.get c).entry, (s.lane.carriers.get c).entry = some e)

/-- R110, R111, R170, R171: a valid field on a LINKED carrier ends the invalid run, becomes the last valid field, and is
handed in full to the supervisor, the receive unit, the lane's intake and power control, in this order, each acting on
its own state; a rising EQUIP_FAULT may abort the link before the others act. R85, R86, R88, R90 to R94: what the receive
unit does with the field, clause by clause. The request that a withdrawal cancels takes a new seq, the model's
reading [14]; the pass to WORKING reloads the hold count in ABORTED too [29]. -/
def Obligations.ValidFieldIsRoutedInFull : Prop :=
  (∀ (c : Carrier) (f : RawField) (ans : AnsKind) (s : State),
    s.port.link = .running → s.port.current.isSome = true → s.enabled c = true →
    (s.port.carriers.get c).fieldTaken = false → fieldValid s.working.length f = true →
    (fieldParts f).ansKind = some ans → (s.sig.get c).lost = false →
    let p := fieldParts f
    let taken := (s.setPortCarriers (s.port.carriers.set c { s.port.carriers.get c with fieldTaken := true })).setSig
      (s.sig.set c { s.sig.get c with invalidRun := 0, lastValid := some { bytes := f, frame := s.port.current } })
    ∃ u t, FarFaultTaken c p.equipFault taken u ∧ exec (.fieldIn c (some f)) s = .next t ∧
      t = { u with rau := t.rau, lane := t.lane, pcu := t.pcu, events := t.events } ∧
      (∀ kind i, u.events.latched kind i = true → t.events.latched kind i = true) ∧
      (let followed := takeField (rxEnv u c) (s.est.get c).seeded p ans (u.rau.get c)
       t.rau = u.rau.set c followed.1 ∧ ∀ r ∈ followed.2, LatchedAfter s.events t.events r.kind r.index r.edge) ∧
      t.lane = u.lane.update c (intakeRequest (s.params c).txCeiling s.working.length (u.fault.state = .aborted)
        s.port.current p.reqKind p.reqSeq p.reqTarget) ∧
      t.pcu = if powerHeld u c then u.pcu
        else u.pcu.set c (powerStep (s.params c) p.margin p.fade (u.pcu.get c))) ∧
  ∀ (env : RxEnv) (seeded : Bool) (p : FieldParts) (ans : AnsKind) (x : RxContext), x.phase ≠ .standby →
    let y := (takeField env seeded p ans x).1
    let reports := (takeField env seeded p ans x).2
    let slips := (x.phase = .acquire ∨ x.phase = .working) ∧ p.next = 15 ∧ p.active ≠ x.active ∧
      ∀ armed ∈ x.armed, p.active ≠ armed.next
    let answers := x.request.kind ≠ .none ∧ p.ansSeq = x.request.seq
    -- R85: the last received answer, the consumed seq, the linked flag, the pass of R75
    y.lastAnswer = some { kind := ans, seq := p.ansSeq } ∧
    y.consumed = (if ans = .granted ∨ ans = .refused ∨ ans = .cancelled then p.ansSeq else x.consumed) ∧
    y.linked = true ∧ y.hostPause = x.hostPause ∧
    y.phase = (if x.phase = .acquire ∧ seeded = true then .working else x.phase) ∧
    (x.phase = .acquire → seeded = true → y.hold = env.link.holdFrames * y.m) ∧
    -- R88: arming
    (p.next ≠ 15 → y.active = x.active ∧ ∃ grant, y.armed = some { next := p.next, remaining := p.count, grant := grant } ∧
      (∀ target, answers → ans = .granted → x.request.target = some target →
        grant = some { seq := x.request.seq, kind := x.request.kind, target := target } ∧
        y.request = { seq := x.request.seq, kind := .none, target := none } ∧ y.timer = none) ∧
      (¬ answers ∨ ans ≠ .granted →
        (∀ armed, x.armed = some armed → armed.next = p.next → grant = armed.grant) ∧
        ((∀ armed ∈ x.armed, armed.next ≠ p.next) → grant = none))) ∧
    -- R92: completion and withdrawal
    (p.next = 15 → y.armed = none) ∧
    (∀ armed, p.next = 15 → x.armed = some armed → p.active = armed.next →
      y.active = armed.next ∧
      (armed.next ≠ x.active → ∃ r ∈ reports, r = { kind := .profileChangeRx, index := env.carrier.toNat, edge := none })) ∧
    (∀ armed g, p.next = 15 → x.armed = some armed → p.active ≠ armed.next → armed.grant = some g → g.kind = .up →
      g.seq = x.request.seq → x.request.kind = .none → p.active = x.active →
      (let reopens := x.phase = .working ∧ env.running = true ∧ g.target = x.active + 1 ∧ g.target ≤ env.ceiling
       (reopens → (p.ansSeq = x.request.seq → ans ≠ .refused) →
         y.request = { seq := x.request.seq, kind := .up, target := some g.target } ∧ y.timer = some 0) ∧
       (¬ reopens → y.timer = none ∧
         y.request = { seq := nextSeq x.request.seq y.consumed, kind := .none, target := none }))) ∧
    -- R86: the answer to an open request, where no switch is armed and none is announced
    (p.next = 15 → x.armed = none → p.active = x.active → x.phase ≠ .acquire →
      (¬ answers ∨ ans = .none ∨ ans = .granted ∨ ans = .cancelled →
        y.request = x.request ∧ y.timer = x.timer ∧ y.refused = x.refused ∧ y.hold = x.hold) ∧
      (answers → ans = .deferred →
        y.request = x.request ∧ y.timer = some 0 ∧ y.refused = x.refused ∧ y.hold = x.hold) ∧
      (∀ target n, answers → ans = .refused → x.request.target = some target → env.frame = some n →
        y.request = { seq := x.request.seq, kind := .none, target := none } ∧ y.timer = none ∧
        y.refused = some { target := target, frame := n } ∧
        y.hold = if x.request.kind = .up ∧ x.hostPause = false ∧ env.scan = false
          then env.link.holdFrames * x.m else x.hold)) ∧
    -- R93: the slip
    (slips → y.active = p.active ∧ y.hold = env.link.holdFrames * x.m ∧ y.m = x.m ∧ y.guardOpen = x.guardOpen ∧
      y.upCounter = x.upCounter ∧
      (∃ r ∈ reports, r = { kind := .profileSlip, index := env.carrier.toNat, edge := none }) ∧
      (∀ target, x.armed = none → x.request.kind = .up → x.request.target = some target →
        target ≠ p.active + 1 → y.request.kind = .none) ∧
      -- R91: the answer acts first, and what it leaves open is rebased
      ((∀ armed ∈ x.armed, ∀ g ∈ armed.grant, ¬ (g.kind = .up ∧ g.seq = x.request.seq)) →
        (answers → ans = .refused → y.request = { seq := x.request.seq, kind := .none, target := none } ∧
          y.timer = none) ∧
        (answers → ans = .deferred → RequestRebased p.active { x with timer := some 0 } y) ∧
        (¬ answers ∨ (ans ≠ .refused ∧ ans ≠ .deferred) → RequestRebased p.active x y)) ∧
      (∀ armed g, x.armed = some armed → armed.grant = some g → g.kind = .up → g.seq = x.request.seq →
        x.request.kind = .none →
        (let reopens := x.phase = .working ∧ env.running = true ∧ g.target = x.active + 1 ∧ g.target ≤ env.ceiling
         y.timer = none ∧ y.request.kind = .none ∧ y.request.target = none ∧
         y.request.seq = if reopens ∧ p.ansSeq = x.request.seq ∧ ans = .refused then x.request.seq
           else nextSeq x.request.seq y.consumed))) ∧
    -- R90, R91, R94: a completion that changes the profile, and the guard without one
    (∀ armed, p.next = 15 → x.armed = some armed → p.active = armed.next → armed.next ≠ x.active →
      y.hold = env.link.holdFrames * y.m ∧
      (x.active < armed.next → y.upCounter = 0 ∧ y.guardOpen = true ∧ y.m = x.m) ∧
      (armed.next < x.active → y.upCounter = x.upCounter ∧ y.guardOpen = false ∧
        y.m = if x.guardOpen = true then min 8 (2 * x.m) else x.m) ∧
      (answers → ans = .refused → KeepsStepRules armed.next x.request →
        y.request = { seq := x.request.seq, kind := .none, target := none } ∧ y.timer = none) ∧
      (answers → ans = .refused → ¬ KeepsStepRules armed.next x.request → RequestRebased armed.next x y) ∧
      (answers → ans = .deferred → RequestRebased armed.next { x with timer := some 0 } y) ∧
      (¬ answers ∨ (ans ≠ .refused ∧ ans ≠ .deferred) → RequestRebased armed.next x y)) ∧
    ((∀ armed ∈ x.armed, ¬ (p.next = 15 ∧ p.active = armed.next ∧ armed.next ≠ x.active)) →
      y.m = x.m ∧ y.guardOpen = x.guardOpen ∧ y.upCounter = x.upCounter) ∧
    (¬ slips → (∀ armed ∈ x.armed, p.next ≠ 15 ∨ p.active ≠ armed.next) → y.active = x.active)

/-- R115, R116, R170: the valid field that brings a SIG_LOST carrier's valid run to sig_recover returns it to LINKED and is
routed in full; one below sig_recover only lengthens the run and reaches neither the lane nor power control, but by the
abort that a rising EQUIP_FAULT may raise. -/
def Obligations.SignallingRecoversAtSigRecover : Prop :=
  ∀ (c : Carrier) (f : RawField) (ans : AnsKind) (s : State),
    s.port.link = .running → s.port.current.isSome = true → s.enabled c = true →
    (s.port.carriers.get c).fieldTaken = false → fieldValid s.working.length f = true →
    (fieldParts f).ansKind = some ans → (s.sig.get c).lost = true →
    let p := fieldParts f
    let taken := s.setPortCarriers (s.port.carriers.set c { s.port.carriers.get c with fieldTaken := true })
    let last := some { bytes := f, frame := s.port.current }
    ∃ r u t, exec (.fieldIn c (some f)) s = .next t ∧ FarFaultTaken c p.equipFault r u ∧
      (∀ kind i, u.events.latched kind i = true → t.events.latched kind i = true) ∧
      (let followed := takeField (rxEnv u c) (s.est.get c).seeded p ans (u.rau.get c)
       t.rau = u.rau.set c followed.1 ∧ ∀ e ∈ followed.2, LatchedAfter s.events t.events e.kind e.index e.edge) ∧
      (s.working.link.sigRecover ≤ (s.sig.get c).validRun + 1 →
        r = { taken with sig := r.sig, rau := r.rau, pcu := r.pcu, events := r.events } ∧
        r.sig = s.sig.set c { lost := false, invalidRun := 0, validRun := 0, lastValid := last } ∧
        LatchedAfter s.events r.events .sigLost c.toNat (some .leave) ∧
        r.rau = s.rau.set c (if (s.rau.get c).phase = .siglost
          then { s.rau.get c with phase := .acquire, linked := false } else s.rau.get c) ∧
        r.pcu = (if (s.params c).atpcEnable = true ∧ s.fault.state = .running
          then s.pcu.set c { s.pcu.get c with period := (s.params c).period } else s.pcu) ∧
        t = { u with rau := t.rau, lane := t.lane, pcu := t.pcu, events := t.events } ∧
        t.lane = u.lane.update c (intakeRequest (s.params c).txCeiling s.working.length
          (u.fault.state = .aborted) s.port.current p.reqKind p.reqSeq p.reqTarget) ∧
        t.pcu = (if powerHeld u c then u.pcu
          else u.pcu.set c (powerStep (s.params c) p.margin p.fade (u.pcu.get c))) ∧
        ((s.rau.get c).phase = .siglost →
          (t.rau.get c).linked = true ∧
          ((t.rau.get c).phase = if (s.est.get c).est.isSome then .working else .acquire) ∧
          ((t.rau.get c).armed = none → (t.rau.get c).active = p.active))) ∧
      ((s.sig.get c).validRun + 1 < s.working.link.sigRecover →
        r = taken.setSig (s.sig.set c { s.sig.get c with validRun := (s.sig.get c).validRun + 1, lastValid := last }) ∧
        t = { u with rau := t.rau, events := t.events } ∧
        ((s.rau.get c).phase = .siglost → (t.rau.get c).phase = .siglost))

/-! ## Change Lane -/

/-- R122 to R126: the intake of a far-end request for one carrier, in the order of the rules. R128, R129: the intake of
an internal entry, case by case, and the re-check of a pending entry. -/
def Obligations.IntakeDisposesOfEachRequest : Prop :=
  (∀ (maker : Internal) (kind : ChangeKind) (target : Nat) (x : LaneCarrier),
    InternalIntake maker kind target x (intakeOwn maker kind target x)) ∧
  (∀ (ceiling T : Nat) (x : LaneCarrier), EntryRechecked ceiling T x (recheckEntry ceiling T x)) ∧
  ∀ (ceiling T : Nat) (aborted : Bool) (frame : Option FrameNo) (kind : ReqKind) (seq : Seq) (target : Nat)
    (x : LaneCarrier),
    let y := intakeRequest ceiling T aborted frame kind seq target x
    let far := ∃ k t arrival restored, x.entry = some (.far seq k t arrival restored)
    y.active = x.active ∧ y.hold = x.hold ∧
    (seq = x.lastAnswered → y = x) ∧
    (seq ≠ x.lastAnswered → far → y = { x with answer := { kind := .deferred, seq := seq } }) ∧
    (seq ≠ x.lastAnswered → ¬ far → kind = .none →
      y.answer = { kind := .cancelled, seq := seq } ∧ y.lastAnswered = seq ∧
      (∀ maker k t absorbed, x.entry = some (.own maker k t absorbed) → y.entry = some (.own maker k t none)) ∧
      ((∀ maker k t absorbed, x.entry ≠ some (.own maker k t absorbed)) → y.entry = none)) ∧
    (seq ≠ x.lastAnswered → ¬ far → ∀ k, kind.change? = some k →
      let clamped := min (min (if k = .up then min target (x.active + 1) else target) ceiling) (T - 1)
      let refused := clamped = x.active ∨ (k = .up ∧ clamped ≤ x.active) ∨ (k ≠ .up ∧ x.active < clamped) ∨
        (k = .up ∧ x.hold = true) ∨ aborted = true
      (refused → y.answer = { kind := .refused, seq := seq } ∧ y.lastAnswered = seq ∧
        y.entry = x.entry.filter (·.isOwn)) ∧
      (¬ refused → y.answer = { kind := .deferred, seq := seq } ∧ y.lastAnswered = x.lastAnswered ∧
        (∀ e, x.entry = some e → e.isOwn = true → y.entry = some e) ∧
        ((∀ e, x.entry = some e → e.isOwn = false) → y.entry = some (.far seq k clamped frame false))))

/-- R132, R134: with a DOWN or URGENT entry in the table, the selection takes every such entry, and no other, into one
DOWN announcement with the count of R132, and answers their seqs GRANTED. A FRAME_START whose lane is idle after its
switch, with no APPLY pending and no missing notice to hand over, makes this selection and records its shadows (R148,
R162). -/
def Obligations.BundleTakesEveryDowngrade : Prop :=
  (∀ (n : FrameNo) (order : FrameOrder) (s : State), s.port.link = .running → s.applyPending = false →
    (s.port.current.isSome = true ∨ s.lane.announcement = none) → FieldsTaken s →
    ∃ t u, exec (.frameStart n order) s = .next t ∧ exec .announcementSwitch s = .next u ∧
      (u.lane.announcement = none → (∃ c e, (u.lane.carriers.get c).entry = some e ∧ e.kind ≠ .up) →
        t.lane = laneSelect s.working.link n (s.fault.state = .running) false u.lane ∧
        ∃ a, t.lane.announcement = some a ∧ ShadowsPrepared a t)) ∧
  ∀ (link : LinkParams) (n : FrameNo) (running applyPending : Bool) (l : Lane),
    (∃ c e, (l.carriers.get c).entry = some e ∧ e.kind ≠ .up) →
    let l' := laneSelect link n running applyPending l
    ∃ a, l'.announcement = some a ∧ a.kind = .down ∧ (a.members.map (·.carrier)).Nodup ∧
      a.switchFrame = n + BitVec.ofNat 16 a.count ∧
      ((∃ c e, (l.carriers.get c).entry = some e ∧ e.kind ≠ .up ∧ (e.kind = .urgent ∨ e.isOwn = true)) →
        a.count = link.urgentCount) ∧
      ((∀ c e, (l.carriers.get c).entry = some e → e.kind ≠ .up → e.kind = .down ∧ e.isOwn = false) →
        a.count = link.announceCount) ∧
      (∀ m ∈ a.members, ∃ e, (l.carriers.get m.carrier).entry = some e ∧ e.kind ≠ .up ∧
        m.fromP = (l.carriers.get m.carrier).active ∧ m.toP = e.target ∧ m.origin = e.origin) ∧
      ∀ c,
        (∀ e, (l.carriers.get c).entry = some e → e.kind ≠ .up →
          (∃ m ∈ a.members, m.carrier = c) ∧ (l'.carriers.get c).entry = none ∧
          (l'.carriers.get c).active = (l.carriers.get c).active ∧
          (l'.carriers.get c).hold = (l.carriers.get c).hold ∧
          (∀ q, e.answerSeq? = some q →
            (l'.carriers.get c).answer = { kind := .granted, seq := q } ∧ (l'.carriers.get c).lastAnswered = q) ∧
          (e.answerSeq? = none → (l'.carriers.get c).answer = (l.carriers.get c).answer ∧
            (l'.carriers.get c).lastAnswered = (l.carriers.get c).lastAnswered)) ∧
        ((∀ e, (l.carriers.get c).entry = some e → e.kind = .up) → l'.carriers.get c = l.carriers.get c)

/-- R133, R134: with no downgrade in the table, RUNNING and no APPLY pending, the UP entry of the greatest age is
granted, the lower carrier's when ages are equal; the others stay. Otherwise nothing starts. The member keeps the entry's
arrival frame, the model's reading [12]. A FRAME_START whose lane is idle after its switch, with no APPLY pending and no
missing notice to hand over, makes this selection and records the shadows of what it starts (R148, R162). -/
def Obligations.OldestUpgradeIsGranted : Prop :=
  (∀ (n : FrameNo) (order : FrameOrder) (s : State), s.port.link = .running → s.applyPending = false →
    (s.port.current.isSome = true ∨ s.lane.announcement = none) → FieldsTaken s →
    ∃ t u, exec (.frameStart n order) s = .next t ∧ exec .announcementSwitch s = .next u ∧
      (u.lane.announcement = none → (∀ c e, (u.lane.carriers.get c).entry = some e → e.kind = .up) →
        t.lane = laneSelect s.working.link n (s.fault.state = .running) false u.lane ∧
        ∀ a, t.lane.announcement = some a → ShadowsPrepared a t)) ∧
  ∀ (link : LinkParams) (n : FrameNo) (running applyPending : Bool) (l : Lane),
    (∀ c e, (l.carriers.get c).entry = some e → ∃ q t f r, e = .far q .up t (some f) r) →
    let l' := laneSelect link n running applyPending l
    ((running = false ∨ applyPending = true ∨ ∀ c, (l.carriers.get c).entry = none) → l' = l) ∧
    (running = true → applyPending = false → (∃ c, (l.carriers.get c).entry.isSome = true) →
      ∃ c q t f r, (l.carriers.get c).entry = some (.far q .up t (some f) r) ∧
        (∀ d q' t' f' r', (l.carriers.get d).entry = some (.far q' .up t' (some f') r') →
          frameAge n f' ≤ frameAge n f ∧ (frameAge n f' = frameAge n f → c.toNat ≤ d.toNat)) ∧
        l'.announcement = some
          { kind := .up, count := link.announceCount, switchFrame := n + BitVec.ofNat 16 link.announceCount,
            members := [{ carrier := c, fromP := (l.carriers.get c).active, toP := t, origin := .far q,
                          arrival := some f }] } ∧
        l'.carriers = l.carriers.set c { l.carriers.get c with
          entry := none, answer := { kind := .granted, seq := q }, lastAnswered := q })

/-- R120, R129, R130, ANNOUNCEMENT_SWITCH: when the count runs out, each member's TX active profile becomes its to profile
with PROFILE_CHANGE_TX, the record goes, and a member's entry is re-checked; what is left of it keeps the step rules. No
other carrier and no other block moves. Where no announcement is due the row does nothing [2]. A FRAME_START without a commit
counts the announcement down and makes the due switch itself (R130 step 1), and the selection then sees the re-checked
entries. -/
def Obligations.DueAnnouncementSwitches : Prop :=
  ∀ s : State,
    (∀ a, s.port.link = .running → s.port.current.isSome = true → s.lane.announcement = some a → a.count ≤ 1 →
      ∃ t, exec .announcementSwitch s = .next t ∧ t = { s with lane := t.lane, events := t.events } ∧
        t.lane.announcement = none ∧
        (∀ c m, a.member? c = some m →
          t.txActive c = m.toP ∧ (t.lane.carriers.get c).hold = (s.lane.carriers.get c).hold ∧
          LatchedAfter s.events t.events .profileChangeTx c.toNat none ∧
          (∀ e ∈ (t.lane.carriers.get c).entry,
            (e.kind = .up → e.target = m.toP + 1 ∧ e.target ≤ (s.params c).txCeiling ∨ e.isOwn = true) ∧
            (e.kind ≠ .up → e.target < m.toP ∧ e.target ≤ (s.params c).txCeiling)) ∧
          EntryRechecked (s.params c).txCeiling s.working.length { s.lane.carriers.get c with active := m.toP }
            (t.lane.carriers.get c)) ∧
        (∀ c, a.member? c = none → t.lane.carriers.get c = s.lane.carriers.get c)) ∧
    ((s.lane.announcement = none ∨ ∃ a, s.lane.announcement = some a ∧ 2 ≤ a.count) →
      exec .announcementSwitch s = .next s) ∧
    ∀ (n : FrameNo) (order : FrameOrder), s.port.link = .running → NoCommitDue s →
      ∃ t, exec (.frameStart n order) s = .next t ∧
        (s.lane.announcement = none → ∀ c, t.txActive c = s.txActive c) ∧
        (∀ a, s.lane.announcement = some a → a.count ≤ 1 →
          (∀ c m, a.member? c = some m → t.txActive c = m.toP ∧
            LatchedAfter s.events t.events .profileChangeTx c.toNat none) ∧
          (∀ c, a.member? c = none → t.txActive c = s.txActive c) ∧
          (FieldsTaken s → ∃ l : Lane, l.announcement = none ∧
            (∀ c m, a.member? c = some m → EntryRechecked (s.params c).txCeiling s.working.length
              { s.lane.carriers.get c with active := m.toP } (l.carriers.get c)) ∧
            (∀ c, a.member? c = none → l.carriers.get c = s.lane.carriers.get c) ∧
            t.lane = laneSelect s.working.link n (s.fault.state = .running) false l ∧
            (t.lane.announcement = none → t.lane = l))) ∧
        ∀ a, s.lane.announcement = some a → 2 ≤ a.count →
          (∀ c, t.txActive c = s.txActive c) ∧
          (a.kind = .down ∨ a.count = 2 → t.lane.announcement = some { a with count := a.count - 1 }) ∧
          (FieldsTaken s → (a.kind = .down ∨ a.count = 2 ∨ ∀ c, ∀ e ∈ (s.lane.carriers.get c).entry, e.kind ≠ .urgent) →
            t.lane = { s.lane with announcement := some { a with count := a.count - 1 } })

/-- R135, R136: a withdrawn UP leaves TX active as it was; its entry is refused under the TX hold, also where another
entry stands, dropped when another entry stands, and else returns DEFERRED with its arrival frame, restored, while it is
still one step up within the ceiling; the entry that stands then is re-checked (R129). A FRAME_START at which an UP counts 2 or more after its step 1 while an URGENT entry stands makes the withdrawal
and starts the downgrade bundle with its shadows, the withdrawn ones discarded; the premise that the entry's target lies
below TX active leaves out the case of [31], in which the re-check removes it. -/
def Obligations.WithdrawnUpgradeReturnsDeferred : Prop :=
  (∀ (n : FrameNo) (order : FrameOrder) (s : State) (a : Announcement), s.port.link = .running →
    s.lane.announcement = some a → a.kind = .up → 3 ≤ a.count → FieldsTaken s →
    (∃ c e, (s.lane.carriers.get c).entry = some e ∧ e.kind = .urgent ∧ e.target < s.txActive c) →
    ∃ t b, exec (.frameStart n order) s = .next t ∧
      t.lane = laneSelect s.working.link n false s.applyPending (laneWithdraw s.working restoreMember s.lane) ∧
      t.lane.announcement = some b ∧ b.kind = .down ∧ b.count = s.working.link.urgentCount ∧ ShadowsPrepared b t ∧
      (∀ c, b.member? c = none → (t.pcu.get c).shadow = none) ∧ ∀ c, t.txActive c = s.txActive c) ∧
  ∀ (w : WorkingSet) (l : Lane) (a : Announcement) (m : Member) (seq : Seq),
    l.announcement = some a → a.members = [m] → m.origin = .far seq →
    let x := l.carriers.get m.carrier
    let l' := laneWithdraw w restoreMember l
    let y := l'.carriers.get m.carrier
    l'.announcement = none ∧ (∀ c, c ≠ m.carrier → l'.carriers.get c = l.carriers.get c) ∧
    y.active = x.active ∧ y.hold = x.hold ∧
    (x.hold = true → x.entry = none → y = refusedSeq seq x) ∧
    (x.hold = true → EntryRechecked (w.carriers.get m.carrier).txCeiling w.table.length (refusedSeq seq x) y) ∧
    (x.hold = false → x.entry = none →
      y = if m.toP = x.active + 1 ∧ m.toP ≤ (w.carriers.get m.carrier).txCeiling
        then { x with entry := some (.far seq .up m.toP m.arrival true), answer := { kind := .deferred, seq := seq } }
        else refusedSeq seq x) ∧
    (x.hold = false → x.entry.isSome = true → y = recheckFor w m.carrier x ∧
      EntryRechecked (w.carriers.get m.carrier).txCeiling w.table.length x y)

/-! ## Power Control Unit -/

/-- R144: the four cases of a step from the far end's MARGIN and FADE. Fields below low take atpc_atten from max_atten
to 0 in at most 20. -/
def Obligations.FarMarginStepsAttenuation : Prop :=
  ∀ (p : CarrierParams) (margin : Nat) (x : PowerCarrier),
    powerStep p margin true x = { x with atpc := 0, period := p.period } ∧
    (margin < p.low → powerStep p margin false x = { x with atpc := x.atpc - 2 }) ∧
    (p.low ≤ margin → p.high < margin → x.period = 0 →
      powerStep p margin false x = { x with atpc := min p.maxAtten (x.atpc + 1), period := p.period }) ∧
    (p.low ≤ margin → (margin ≤ p.high ∨ 0 < x.period) → powerStep p margin false x = x) ∧
    (margin < p.low → x.atpc ≤ p.maxAtten → p.maxAtten ≤ 40 →
      ((fun y => powerStep p margin false y)^[20] x).atpc = 0)

/-- R148, R161, PCU_SHADOW_LOAD and MAP_SHADOW_LOAD: a shadow whose count runs out is loaded. A power shadow gives its to
profile's floor to the attenuation of this frame (R147); the mapper's gives its maps and entries, with CLASS_SHED for
every class whose state enters or leaves SHED. Where no shadow is due the rows do nothing [2]. A FRAME_START without a
commit counts the shadows and the period counter (R145) down, loads what is due, and computes the effective attenuation
of every carrier (R147). -/
def Obligations.DueShadowsAreLoaded : Prop :=
  (∀ (c : Carrier) (s : State) (sh : PowerShadow), s.port.link = .running → s.port.current.isSome = true →
    (s.pcu.get c).shadow = some sh → sh.remaining ≤ 1 →
    exec (.pcuShadowLoad c) s = .next (s.setPcu (s.pcu.set c { s.pcu.get c with
      shadow := none
      eff := if s.enabled c then min 40 (max (s.pcu.get c).atpc (floorOf s.working.table sh.toP)) else 0 }))) ∧
  (∀ (c : Carrier) (s : State),
    ((s.pcu.get c).shadow = none ∨ ∃ sh, (s.pcu.get c).shadow = some sh ∧ 2 ≤ sh.remaining) →
    exec (.pcuShadowLoad c) s = .next s) ∧
  (∀ (s : State) (sh : MapShadow), s.port.link = .running → s.port.current.isSome = true →
    s.mapper.shadow = some sh → sh.remaining ≤ 1 →
    ∃ t, exec .mapShadowLoad s = .next t ∧ t = { s with mapper := t.mapper, events := t.events } ∧
      t.mapper = { active := sh.result, shadow := none } ∧
      ∀ k,
        ((s.mapper.active.entries.get k).state ≠ .shed → (sh.result.entries.get k).state = .shed →
          LatchedAfter s.events t.events .classShed k.toNat (some .enter)) ∧
        ((s.mapper.active.entries.get k).state = .shed → (sh.result.entries.get k).state ≠ .shed →
          LatchedAfter s.events t.events .classShed k.toNat (some .leave))) ∧
  (∀ s : State, (s.mapper.shadow = none ∨ ∃ sh, s.mapper.shadow = some sh ∧ 2 ≤ sh.remaining) →
    exec .mapShadowLoad s = .next s) ∧
  ∀ (n : FrameNo) (order : FrameOrder) (s : State), s.port.link = .running → NoCommitDue s →
    ∃ t, exec (.frameStart n order) s = .next t ∧
      (∀ c, (t.pcu.get c).period = (s.pcu.get c).period - 1) ∧
      (FieldsTaken s → ∀ c, (t.pcu.get c).atpc = (s.pcu.get c).atpc ∧
        (s.enabled c = false → (t.pcu.get c).eff = 0) ∧
        (∀ sh, s.enabled c = true → (s.pcu.get c).shadow = some sh → sh.remaining ≤ 1 →
          (t.pcu.get c).eff = min 40 (max (s.pcu.get c).atpc (floorOf s.working.table sh.toP))) ∧
        (s.enabled c = true → (∀ sh ∈ (s.pcu.get c).shadow, 2 ≤ sh.remaining) →
          (t.pcu.get c).eff = min 40 (max (s.pcu.get c).atpc (floorOf s.working.table (t.txActive c))))) ∧
      ((∀ sh ∈ s.mapper.shadow, 2 ≤ sh.remaining) → t.mapper.active = s.mapper.active) ∧
      (∀ sh, s.mapper.shadow = some sh → sh.remaining ≤ 1 → t.mapper.active = sh.result ∧
        ∀ k,
          ((s.mapper.active.entries.get k).state ≠ .shed → (sh.result.entries.get k).state = .shed →
            LatchedAfter s.events t.events .classShed k.toNat (some .enter)) ∧
          ((s.mapper.active.entries.get k).state = .shed → (sh.result.entries.get k).state ≠ .shed →
            LatchedAfter s.events t.events .classShed k.toNat (some .leave))) ∧
      ((t.lane.announcement = none ∧ (∀ a ∈ s.lane.announcement, a.count ≤ 1)) ∨
          (∃ a, s.lane.announcement = some a ∧ 2 ≤ a.count ∧ (a.kind = .down ∨ a.count = 2 ∨
            (FieldsTaken s ∧ ∀ c, ∀ e ∈ (s.lane.carriers.get c).entry, e.kind ≠ .urgent))) →
        (∀ c,
          ((s.pcu.get c).shadow = none → (t.pcu.get c).shadow = none) ∧
          ∀ sh, (s.pcu.get c).shadow = some sh →
            (t.pcu.get c).shadow = if sh.remaining ≤ 1 then none else some { sh with remaining := sh.remaining - 1 }) ∧
        (s.mapper.shadow = none → t.mapper.shadow = none) ∧
        ∀ sh, s.mapper.shadow = some sh →
          t.mapper.shadow = if sh.remaining ≤ 1 then none else some { sh with remaining := sh.remaining - 1 })

/-! ## Capacity Mapper -/

/-- R154 to R159: the bounds that every placement meets. The maps and the entries show the same segments, each map sums
to no more than its carrier's capacity and follows the order of the visit, a class's segments follow its ring, and each
state has the slots that belong to it. The visit takes the active classes by priority and number, and each class gets, of
the free counts that the classes before it leave, what R157 or R158 gives it. -/
def Obligations.PlacementMeetsItsBounds : Prop :=
  ∀ (cap : Four Nat) (classes : Eight ClassRecord), (∀ k, ClassInRange (classes.get k)) →
    let p := placement cap classes
    (∀ k, k ∈ visitOrder classes ↔ (classes.get k).active = true) ∧
    (visitOrder classes).Pairwise (fun j k => (classes.get j).priority < (classes.get k).priority ∨
      ((classes.get j).priority = (classes.get k).priority ∧ j.toNat < k.toNat)) ∧
    (∀ home i, i < 4 → (ringFrom home)[i]?.map (·.toNat) = some ((home.toNat + i) % 4)) ∧
    (∀ c, mapSum (p.maps.get c) ≤ cap.get c ∧ (p.maps.get c).length ≤ 8 ∧
      ((p.maps.get c).map (·.1)).Sublist (visitOrder classes)) ∧
    PlacementSound p ∧
    ∀ k,
      let r := classes.get k
      let e := p.entries.get k
      e.segments.length ≤ 4 ∧ (e.segments.map (·.1)).Sublist (ringFrom r.home) ∧
      (e.state = .inactive ↔ r.active = false) ∧
      (e.state = .placed → e.placed = r.need) ∧
      (e.state = .partly → r.split = true ∧ e.placed < r.need ∧ ∃ m, r.min = some m ∧ m ≤ e.placed) ∧
      (e.state = .shed → e.placed = 0) ∧ (r.split = false → e.segments.length ≤ 1) ∧
      (let ring := ringFrom r.home
       let free := freeBefore cap classes p k
       let room := (ring.map free).sum
       (r.active = true → r.split = false →
         (∀ i c, ring[i]? = some c → r.need ≤ free c → (∀ d ∈ ring.take i, free d < r.need) →
           e = { state := .placed, placed := r.need, segments := [(c, r.need)] }) ∧
         ((∀ c, free c < r.need) → e = { state := .shed, placed := 0, segments := [] })) ∧
       (r.active = true → r.split = true →
         (e.state = .placed ↔ r.need ≤ room) ∧
         (e.state = .partly ↔ room < r.need ∧ ∃ m, r.min = some m ∧ m ≤ room) ∧
         (e.state = .placed ∨ e.state = .partly → ∀ i c, ring[i]? = some c →
           slotsOn e c = min (free c) (r.need - ((ring.take i).map free).sum))))

/-! ## Commit -/

/-- R183, COMMIT, with R61, R63, R72, R73, R109, R129, R131, R150, R163, R170, R171: an APPLY pending at a lane-idle
frame start puts the staged set in force; the carriers it disables or enables start afresh, and each other carrier is
brought under the new limits; the branches follow their exclude flags and a changed carrier's grace is started (R47, R50),
a FRAME_START scanning its one branch after it; the active maps and class entries are conformed to it (R164); an abort that it raises
names a standing source, the model's choice where several stand [10]. Where no commit is due the row does nothing [2];
alone, the row also derives the attenuation and the deliveries anew [22]. A FRAME_START with the lane idle after its switch makes the commit itself; what it does to a carrier enabled
before and after is stated where this frame start hands over no report and no notice for it, from the items u that the
frame start's earlier work leaves. -/
def Obligations.CommitPutsTheStagedSetInForce : Prop :=
  (∀ (s : State) (n : FrameNo) (table : List ProfileRecord), s.port.link = .running → s.port.current = some n →
    s.applyPending = true → s.lane.announcement = none → stagedTable s.staged = some table →
    ∃ t, exec .commit s = .next t ∧
      CommitTaken n table s t ∧ MapsConformed s t s.mapper.active ∧ t.hml = s.hml ∧
      MonitorCommitted s t (fun _ _ b => b) (fun c => s.monitor.grace.get c) ∧
      t.monitor.scanCarrier = s.monitor.scanCarrier ∧ t.monitor.scanSide = s.monitor.scanSide ∧
      t.port.current = s.port.current ∧
      (∀ c, s.enabled c = t.enabled c →
        t.est.get c = s.est.get c ∧ t.intake.get c = s.intake.get c ∧ t.sig.get c = s.sig.get c ∧
        t.fault.farFault.get c = s.fault.farFault.get c ∧ t.port.carriers.get c = s.port.carriers.get c) ∧
      (∀ c, (t.lane.carriers.get c).hold = (s.lane.carriers.get c).hold ∧
        (t.rau.get c).hostPause = (s.rau.get c).hostPause ∧ (t.rau.get c).consumed = (s.rau.get c).consumed) ∧
      -- R171: the abort that the commit raises
      (let raised := abortDemand s = false ∧ abortDemand t = true ∧ s.fault.state = .running
       (¬ raised → t.fault.state = s.fault.state ∧ t.fault.cause = s.fault.cause) ∧
       (raised → t.fault.state = .aborted ∧ LatchedAfter s.events t.events .aborted 0 (some .enter) ∧
         ((t.fault.cause = some .localFault ∧ localStands t = true) ∨
           ∃ c, t.fault.cause = some (.far c) ∧ farStands t c = true) ∧
         ∀ c, t.enabled c = true → (t.rau.get c).request.kind = .none ∧
           ((s.sig.get c).lost = false → (t.pcu.get c).atpc = 0) ∧
           (0 < t.txActive c → ∃ maker, (t.lane.carriers.get c).entry = some (.own maker .urgent 0 none))) ∧
       (raised → ∃ u cause, AbortEffect cause u t ∧
         ∀ c, s.enabled c = true → t.enabled c = true → TxCarriedOver s u False c) ∧
       ∀ c, s.enabled c = true → t.enabled c = true →
         RxCarriedOver s t raised c ∧ TxCarriedOver s t raised c ∧ PowerCarriedOver s t raised c)) ∧
  (∀ s : State, (s.applyPending = false ∨ s.lane.announcement.isSome = true ∨ s.port.link = .frameLost ∨
      s.port.current = none) → exec .commit s = .next s) ∧
  ∀ (n : FrameNo) (order : FrameOrder) (s : State) (table : List ProfileRecord), s.applyPending = true →
    (∀ a ∈ s.lane.announcement, a.count ≤ 1) → stagedTable s.staged = some table →
    ∃ t, exec (.frameStart n order) s = .next t ∧ CommitTaken n table s t ∧ MapsConformed s t (loadedPlacement s) ∧
      t.lane.announcement = none ∧
      (let scanned (c : Carrier) (side : Side) (b : BranchState) :=
         s.port.link = .running ∧ s.port.current.isSome = true ∧ c = s.monitor.scanCarrier ∧
           side = s.monitor.scanSide ∧ s.enabled c = true ∧ t.enabled c = true ∧ b.health ≠ .excluded
       let sample (c : Carrier) (side : Side) (b : BranchState) :=
         sampleBranch t.working.link (badSample t.working.link n ((s.intake.get c).records.get side)) b
       MonitorCommitted s t (fun c side b => if scanned c side b then (sample c side b).1 else b)
         (fun c =>
           let side := s.monitor.scanSide
           let b := exclusionTaken ((s.params c).excludes side) ((t.params c).excludes side)
             ((s.monitor.branches.get c).get side)
           if scanned c side b ∧ (sample c side b).2.isSome = true then t.working.link.pauseGrace
           else s.monitor.grace.get c - 1)) ∧
      (∀ c, s.enabled c = true → t.enabled c = true →
        ((t.rau.get c).active < t.working.length ∨ (t.rau.get c).active = 0) ∧
        ∀ armed ∈ (t.rau.get c).armed, armed.next < t.working.length) ∧
      -- in RUNNING: the carriers enabled before and after, and the abort that the commit raises
      (s.port.link = .running →
        let raised := abortDemand s = false ∧ abortDemand t = true ∧ s.fault.state = .running
        (¬ raised → t.fault.state = s.fault.state ∧ t.fault.cause = s.fault.cause) ∧
        (raised → t.fault.state = .aborted ∧ LatchedAfter s.events t.events .aborted 0 (some .enter) ∧
          ((t.fault.cause = some .localFault ∧ localStands t = true) ∨
            ∃ c, t.fault.cause = some (.far c) ∧ farStands t c = true)) ∧
        ∃ u, FrameWorked s u ∧
          (∀ c, s.enabled c = true → t.enabled c = true → CommitQuiet s c →
            RxCarriedOver u t raised c ∧ TxCarriedOver u t raised c ∧ PowerCarriedOver u t raised c) ∧
          (raised → (∀ c, CommitQuiet s c) → ∃ v cause, AbortEffect cause v t ∧
            ∀ c, s.enabled c = true → t.enabled c = true → TxCarriedOver u v False c))

/-! ## Host messages: configuration -/

/-- R58: the table checks hold exactly for length 0, and for a length of 2 or more whose slots are all filled, with
capacities that do not fall, the hysteresis of 4 above P0, thresholds that rise from P1 upward, no back-off floor on P0,
and mod codes that differ; an APPLY of a staged set that fails them is refused with BAD_TABLE. -/
def Obligations.TableChecksOfApply : Prop :=
  ∀ x : StagedSet, x.tableLength ≤ 12 →
    ((stagedTableOk x = true ↔ x.tableLength = 0 ∨
      (2 ≤ x.tableLength ∧ ∃ table : List ProfileRecord, table.length = x.tableLength ∧
        (∀ p, p < x.tableLength → x.slots[p]? = some table[p]?) ∧
        (∀ p r q, table[p]? = some r → table[p + 1]? = some q → r.capacity ≤ q.capacity) ∧
        (∀ p r, table[p + 1]? = some r → ∃ d u, r.down = some d ∧ r.up = some u ∧ d + 4 ≤ u) ∧
        (∀ p r q, table[p + 1]? = some r → table[p + 2]? = some q →
          (∃ d e, r.down = some d ∧ q.down = some e ∧ d < e) ∧ ∃ u v, r.up = some u ∧ q.up = some v ∧ u < v) ∧
        (∀ r, table[0]? = some r → r.backoffFloor = 0) ∧
        ∀ (p q : Nat) (r r' : ProfileRecord), p < q → table[p]? = some r → table[q]? = some r' → r.modCode ≠ r'.modCode)) ∧
    ∀ (tag : Byte) (s : State), Answering s → s.applyPending = false → s.staged = x → stagedTableOk x = false →
      exec (.apply tag []) s = refusedWith .badTable 0x20 tag s)

/-- R59, R182: APPLY is refused with BUSY while one is pending, with BAD_TABLE by the checks of R58, with BAD_STATE when
a carrier enabled in the staged set breaks a limit, and otherwise becomes pending. Nothing else changes. -/
def Obligations.ApplyIsCheckedInOrder : Prop :=
  ∀ (tag : Byte) (s : State), Answering s →
    let limitBroken := ∃ c, (s.staged.carriers.get c).enable = true ∧
      (s.staged.tableLength < 2 ∨ s.staged.tableLength ≤ (s.staged.carriers.get c).rxCeiling ∨
        s.staged.tableLength ≤ (s.staged.carriers.get c).txCeiling ∨
        (s.enabled c = true ∧
          (s.staged.tableLength ≤ (s.rau.get c).active ∨ s.staged.tableLength ≤ s.lane.txBound c)))
    (s.applyPending = true → exec (.apply tag []) s = refusedWith .busy 0x20 tag s) ∧
    (s.applyPending = false → stagedTableOk s.staged = false →
      exec (.apply tag []) s = refusedWith .badTable 0x20 tag s) ∧
    (s.applyPending = false → stagedTableOk s.staged = true → limitBroken →
      exec (.apply tag []) s = refusedWith .badState 0x20 tag s) ∧
    (s.applyPending = false → stagedTableOk s.staged = true → ¬ limitBroken →
      exec (.apply tag []) s = answered 0x20 tag [0] (s.setApplyPending true))

/-- R55, R56, R57, R153, R181: an accepted staging message replaces the staged record whole, one with a value out of
range is refused with BAD_VALUE, and one that would change what a pending APPLY checked with BUSY. -/
def Obligations.StagingMessagesWriteTheStagedSet : Prop :=
  ∀ (tag : Byte) (s : State), Answering s →
    (∀ payload : List Byte, payload.length = 24 →
      exec (.stageLink tag payload) s = match readLink payload with
        | some l => answered 0x10 tag [0] (s.setStaged { s.staged with link := l })
        | none => refusedWith .badValue 0x10 tag s) ∧
    (∀ (b : Byte) (rest : List Byte), rest.length = 12 →
      (∀ c p, Carrier.ofNat? b.toNat = some c → readCarrierParams rest = some p →
        let old := s.staged.carriers.get c
        let same := p.enable = old.enable ∧ p.rxCeiling = old.rxCeiling ∧ p.txCeiling = old.txCeiling
        (s.applyPending = true → ¬ same → exec (.stageCarrier tag (b :: rest)) s = refusedWith .busy 0x11 tag s) ∧
        (s.applyPending = false ∨ same → exec (.stageCarrier tag (b :: rest)) s =
          answered 0x11 tag [0] (s.setStaged { s.staged with carriers := s.staged.carriers.set c p }))) ∧
      (Carrier.ofNat? b.toNat = none ∨ readCarrierParams rest = none →
        exec (.stageCarrier tag (b :: rest)) s = refusedWith .badValue 0x11 tag s)) ∧
    (∀ (slot : Byte) (rest : List Byte), rest.length = 5 →
      (∀ r, readProfile slot.toNat rest = some r → s.applyPending = true →
        exec (.stageProfile tag (slot :: rest)) s = refusedWith .busy 0x12 tag s) ∧
      (∀ r, readProfile slot.toNat rest = some r → s.applyPending = false →
        ∃ slots : Vector (Option ProfileRecord) 12,
          exec (.stageProfile tag (slot :: rest)) s =
            answered 0x12 tag [0] (s.setStaged { s.staged with slots := slots }) ∧
          slots[slot.toNat]? = some (some r) ∧ ∀ p, p ≠ slot.toNat → slots[p]? = s.staged.slots[p]?) ∧
      (readProfile slot.toNat rest = none →
        exec (.stageProfile tag (slot :: rest)) s = refusedWith .badValue 0x12 tag s)) ∧
    (∀ length : Byte,
      (12 < length.toNat → exec (.stageTableLength tag [length]) s = refusedWith .badValue 0x13 tag s) ∧
      (length.toNat ≤ 12 → s.applyPending = true →
        exec (.stageTableLength tag [length]) s = refusedWith .busy 0x13 tag s) ∧
      (length.toNat ≤ 12 → s.applyPending = false →
        exec (.stageTableLength tag [length]) s =
          answered 0x13 tag [0] (s.setStaged { s.staged with tableLength := length.toNat }))) ∧
    ∀ (b : Byte) (rest : List Byte), rest.length = 6 →
      (∀ k r, Cls.ofNat? b.toNat = some k → readClass rest = some r →
        exec (.stageClass tag (b :: rest)) s =
          answered 0x14 tag [0] (s.setStaged { s.staged with classes := s.staged.classes.set k r })) ∧
      (Cls.ofNat? b.toNat = none ∨ readClass rest = none →
        exec (.stageClass tag (b :: rest)) s = refusedWith .badValue 0x14 tag s)

/-- The layouts of 11.6 and the ranges of R54, R55, R151, R153, R181: a record in range is read back from the bytes that
READ_STAGED returns for it, and bytes that a staging message accepts are a record in range, returned as they came. -/
def Obligations.RecordsReadBackAsStaged : Prop :=
  (∀ l, LinkInRange l → readLink (linkBytes l) = some l) ∧
  (∀ bytes l, readLink bytes = some l → LinkInRange l ∧ linkBytes l = bytes) ∧
  (∀ p, CarrierInRange p → readCarrierParams (carrierBytes p) = some p) ∧
  (∀ bytes p, readCarrierParams bytes = some p → CarrierInRange p ∧ carrierBytes p = bytes) ∧
  (∀ slot r, slot ≤ 11 → ProfileInRange slot r → readProfile slot (profileBytes (some r)) = some r) ∧
  (∀ slot bytes r, readProfile slot bytes = some r →
    slot ≤ 11 ∧ ProfileInRange slot r ∧ profileBytes (some r) = bytes) ∧
  (∀ r, ClassInRange r → readClass (classBytes r) = some r) ∧
  ∀ bytes r, readClass bytes = some r → ClassInRange r ∧ classBytes r = bytes

/-- R180: the replies of IDENTIFY, READ_STAGED and READ_WORKING. They change nothing. -/
def Obligations.ReadRepliesCarryTheRecords : Prop :=
  ∀ (tag : Byte) (s : State), Answering s →
    (∃ rate : Byte, exec (.identify tag []) s =
        answered 0x01 tag [0, 0x4C, 0x01, rate, if s.applyPending then 1 else 0, byteOf s.working.length] s ∧
      (s.hml.rate = .r115200 → rate = 0) ∧ (s.hml.rate = .r460800 → rate = 1) ∧
      (s.hml.rate = .r921600 → rate = 2)) ∧
    exec (.readStaged tag [0, 0]) s = answered 0x21 tag ([0, 0, 0] ++ linkBytes s.staged.link) s ∧
    exec (.readWorking tag [0, 0]) s = answered 0x22 tag ([0, 0, 0] ++ linkBytes s.working.link) s ∧
    (∀ (b : Byte) (c : Carrier), Carrier.ofNat? b.toNat = some c →
      exec (.readStaged tag [1, b]) s =
        answered 0x21 tag ([0, 1, b] ++ carrierBytes (s.staged.carriers.get c)) s ∧
      exec (.readWorking tag [1, b]) s =
        answered 0x22 tag ([0, 1, b] ++ carrierBytes (s.working.carriers.get c)) s) ∧
    (∀ (b : Byte) (slot : Option ProfileRecord), s.staged.slots[b.toNat]? = some slot →
      exec (.readStaged tag [2, b]) s = answered 0x21 tag ([0, 2, b] ++ profileBytes slot) s) ∧
    (∀ b : Byte, b.toNat ≤ 11 →
      exec (.readWorking tag [2, b]) s = answered 0x22 tag ([0, 2, b] ++ profileBytes s.working.table[b.toNat]?) s) ∧
    exec (.readStaged tag [3, 0]) s = answered 0x21 tag [0, 3, 0, byteOf s.staged.tableLength] s ∧
    exec (.readWorking tag [3, 0]) s = answered 0x22 tag [0, 3, 0, byteOf s.working.length] s ∧
    (∀ (b : Byte) (k : Cls), Cls.ofNat? b.toNat = some k →
      exec (.readStaged tag [4, b]) s = answered 0x21 tag ([0, 4, b] ++ classBytes (s.staged.classes.get k)) s ∧
      exec (.readWorking tag [4, b]) s = answered 0x22 tag ([0, 4, b] ++ classBytes (s.working.classes.get k)) s) ∧
    ∀ selector index : Byte,
      (4 < selector.toNat ∨ (selector = 0 ∧ index ≠ 0) ∨ (selector = 1 ∧ 3 < index.toNat) ∨
        (selector = 2 ∧ 11 < index.toNat) ∨ (selector = 3 ∧ index ≠ 0) ∨ (selector = 4 ∧ 7 < index.toNat)) →
      exec (.readStaged tag [selector, index]) s = refusedWith .badValue 0x21 tag s ∧
      exec (.readWorking tag [selector, index]) s = refusedWith .badValue 0x22 tag s

/-- R53, R71, R97, R118, R141, R152, R167, R176 in the layouts of 11.6: the replies that show the running state, each of
its length, with every item at its place. They change nothing of the part's; READ_CARRIER moves the model's own counter
of free values, and the bytes of an absent item that the layout gives no code are free [24]. -/
def Obligations.StateRepliesHaveTheirLayout : Prop :=
  ∀ (tag : Byte) (s : State), Answering s →
    (∀ (b : Byte) (c : Carrier), Carrier.ofNat? b.toNat = some c → ∃ reply,
      exec (.readCarrier tag [b]) s = answered 0x30 tag reply (s.setFreeCount (s.freeCount + 1)) ∧
      reply.length = 40 ∧
      (let x := s.rau.get c
       let power := s.pcu.get c
       let sig := s.sig.get c
       let counting := x.phase = .working ∧ x.armed = none ∧ s.fault.state = .running ∧
         x.active < (s.params c).rxCeiling ∧ x.hostPause = false ∧ s.monitor.grace.get c = 0 ∧
         x.request.kind ≠ .down ∧ x.request.kind ≠ .urgent
       BytesAt reply 0 [0, b,
         (match x.phase with
          | .standby => 0
          | .acquire => 1
          | .siglost => 5
          | .working => if x.armed.isSome then 4 else if x.request.kind = .none then 2 else 3),
         (if s.enabled c = false then 0 else if (s.lane.memberOf c).isSome then 3
          else if (s.lane.carriers.get c).entry.isSome then 2 else 1),
         byteOf x.active, byteOf (s.txActive c)] ∧
       ((s.est.get c).est = none → BytesAt reply 6 [0xFF, 0xFF, 0x80, 0x00, 0xFF, 0xFF]) ∧
       (∀ v, (s.est.get c).est = some v → BytesAt reply 6
         (frameBytes (BitVec.ofNat 16 v.e.toNat) ++ frameBytes (BitVec.ofInt 16 v.r) ++
           frameBytes (BitVec.ofNat 16 v.pr.toNat))) ∧
       BytesAt reply 12 [byteOf (s.est.get c).margin] ∧
       (reply[13]?.map fun flags => (List.range 8).map flags.getLsbD) =
         some [(s.est.get c).est.isSome, (s.est.get c).fade, x.hostPause, 0 < s.monitor.grace.get c, sig.lost,
               s.fault.farFault.get c, s.fault.faultLevel, s.fault.state = .aborted] ∧
       (counting → BytesAt reply 14 (frameBytes (BitVec.ofNat 16 x.hold))) ∧
       (¬ counting → BytesAt reply 14 [0xFF, 0xFF]) ∧
       BytesAt reply 16 [byteOf x.m, byteOf (64 * reqKindCode x.request.kind + 8 * x.request.seq.toNat),
         (match x.request.target with
          | some target => byteOf target
          | none => 0xFF)] ∧
       (x.lastAnswer = none → BytesAt reply 19 [0xFF]) ∧
       (∀ a, x.lastAnswer = some a → BytesAt reply 19 [ansKindCode a.kind, byteOf a.seq.toNat]) ∧
       BytesAt reply 21 [byteOf power.atpc, byteOf power.period, byteOf power.eff] ∧
       (power.shadow = none → BytesAt reply 24 [0xFF]) ∧
       (∀ sh, power.shadow = some sh → BytesAt reply 24 [byteOf sh.toP, byteOf sh.remaining]) ∧
       BytesAt reply 26 [byteOf sig.invalidRun, byteOf sig.validRun] ∧
       (sig.lastValid = none → BytesAt reply 28 [0]) ∧
       (∀ v, sig.lastValid = some v →
         BytesAt reply 28 [1, v.bytes.b0, v.bytes.b1, v.bytes.b2, v.bytes.b3, v.bytes.b4] ∧
         ∀ f, v.frame = some f → BytesAt reply 34 (frameBytes f)) ∧
       BytesAt reply 36
         ((match s.fault.cause with
           | none => [0, 0xFF]
           | some .localFault => [1, 0xFF]
           | some (.far d) => [2, byteOf d.toNat]
           | some .host => [3, 0xFF]) ++
          [byteOf ((if s.working.link.abortOnLocal then 1 else 0) + if s.working.link.abortOnFar then 2 else 0),
           flagCode (s.port.link = .frameLost)]))) ∧
    (∀ b : Byte, 4 ≤ b.toNat → exec (.readCarrier tag [b]) s = refusedWith .badValue 0x30 tag s) ∧
    (∃ reply, exec (.readBranches tag []) s = answered 0x31 tag reply s ∧ reply.length = 78 ∧ BytesAt reply 0 [0] ∧
      (∀ c side, BytesAt reply (1 + 8 * branchIndex c side)
        (branchReply ((s.monitor.branches.get c).get side) ((s.intake.get c).records.get side))) ∧
      (∀ c, BytesAt reply (65 + 3 * c.toNat)
        [(match (s.params c).mode with
          | .combine => 0
          | .select => 1
          | .forceA => 2
          | .forceB => 3), byteOf (s.monitor.grace.get c), flagCode (0 < s.monitor.grace.get c)]) ∧
      BytesAt reply 77 [byteOf (branchIndex s.monitor.scanCarrier s.monitor.scanSide)]) ∧
    (∃ reply, exec (.readLane tag []) s = answered 0x32 tag reply s ∧ reply.length = 79 ∧
      BytesAt reply 0 [0, flagCode s.lane.announcement.isSome] ∧
      (s.lane.announcement = none → BytesAt reply 2 (0xFF :: List.replicate 24 0)) ∧
      (∀ a, s.lane.announcement = some a →
        BytesAt reply 2 ([flagCode (a.kind = .down), byteOf a.count] ++ frameBytes a.switchFrame ++
          [byteOf a.members.length]) ∧
        ∀ i, i < 4 → BytesAt reply (7 + 5 * i) (memberReply a.members[i]?)) ∧
      ∀ c,
        let x := s.lane.carriers.get c
        BytesAt reply (27 + 8 * c.toNat) (entryReply x.entry) ∧
        BytesAt reply (59 + 5 * c.toNat) [byteOf x.active, flagCode x.hold, byteOf x.lastAnswered.toNat,
          ansKindCode x.answer.kind, byteOf x.answer.seq.toNat]) ∧
    (∃ reply, exec (.readMap tag [0]) s = answered 0x33 tag reply s ∧ reply.length = 214 ∧ BytesAt reply 0 [0, 0] ∧
      (∀ c, BytesAt reply (2 + 19 * c.toNat)
          [flagCode (s.enabled c), byteOf ((capacities s.working s.txActive).get c)] ∧
        MapAt reply (4 + 19 * c.toNat) (s.mapper.active.maps.get c)) ∧
      ∀ k,
        let r := s.working.classes.get k
        BytesAt reply (78 + 17 * k.toNat) [flagCode r.active, byteOf r.priority, byteOf r.need, flagCode r.split,
          byteOf (r.min.getD 0), byteOf r.home.toNat] ∧
        ClassEntryAt reply (84 + 17 * k.toNat) (s.mapper.active.entries.get k)) ∧
    (∃ reply, exec (.readMap tag [1]) s = answered 0x33 tag reply s ∧ reply.length = 162 ∧ BytesAt reply 0 [0, 1] ∧
      (s.mapper.shadow = none → BytesAt reply 2 (List.replicate 160 0)) ∧
      ∀ sh, s.mapper.shadow = some sh →
        BytesAt reply 2 ([1, byteOf sh.remaining] ++ frameBytes sh.loadFrame) ∧
        (∀ c, MapAt reply (6 + 17 * c.toNat) (sh.result.maps.get c)) ∧
        ∀ k, ClassEntryAt reply (74 + 11 * k.toNat) (sh.result.entries.get k)) ∧
    ∀ b : Byte, 2 ≤ b.toNat → exec (.readMap tag [b]) s = refusedWith .badValue 0x33 tag s

/-! ## Host messages: direct commands, abort and resume -/

/-- R51, R68, R69, R84: SET_PAUSE, SET_COMBINE and SET_TX_HOLD, in every link state and while an APPLY is pending. -/
def Obligations.DirectCommandsActAtOnce : Prop :=
  ∀ (tag : Byte) (s : State) (b : Byte), Answering s →
    (∀ c, Carrier.ofNat? b.toNat = some c →
      (∀ v : Bool, exec (.setPause tag [b, if v then 1 else 0]) s =
        answered 0x40 tag [0] (s.setRau (s.rau.set c { s.rau.get c with hostPause := v }))) ∧
      (∀ m : CombiningMode, ∃ t, exec (.setCombine tag [b, m.code]) s = answered 0x41 tag [0] t ∧
        t = { s with working := t.working, staged := t.staged, monitor := t.monitor } ∧
        t.working = { s.working with carriers := s.working.carriers.set c { s.params c with mode := m } } ∧
        t.staged = { s.staged with
          carriers := s.staged.carriers.set c { s.staged.carriers.get c with mode := m } } ∧
        t.monitor = { s.monitor with
          grace := if m ≠ (s.params c).mode ∧ s.enabled c = true
            then s.monitor.grace.set c s.working.link.pauseGrace else s.monitor.grace }) ∧
      exec (.setTxHold tag [b, 0]) s =
        answered 0x42 tag [0] (s.setLane { s.lane with
          carriers := s.lane.carriers.set c { s.lane.carriers.get c with hold := false } }) ∧
      (∃ x, exec (.setTxHold tag [b, 1]) s =
          answered 0x42 tag [0] (s.setLane { s.lane with carriers := s.lane.carriers.set c x }) ∧
        (∀ seq target arrival restored, (s.lane.carriers.get c).entry = some (.far seq .up target arrival restored) →
          x = { s.lane.carriers.get c with
            entry := none, hold := true, answer := { kind := .refused, seq := seq }, lastAnswered := seq }) ∧
        ((∀ seq target arrival restored, (s.lane.carriers.get c).entry ≠ some (.far seq .up target arrival restored)) →
          x = { s.lane.carriers.get c with hold := true }))) ∧
    ∀ v : Byte,
      (4 ≤ b.toNat ∨ 2 ≤ v.toNat → exec (.setPause tag [b, v]) s = refusedWith .badValue 0x40 tag s ∧
        exec (.setTxHold tag [b, v]) s = refusedWith .badValue 0x42 tag s) ∧
      (4 ≤ b.toNat ∨ 4 ≤ v.toNat → exec (.setCombine tag [b, v]) s = refusedWith .badValue 0x41 tag s)

/-- R169, R171, R172, R173, R174: the host's ABORT in RUNNING, and an assertion of the FAULT input that raises the abort
demand, abort the link as one act; every other ABORT and every other change of the input does not. On the lane the abort takes
the three steps of R138, its entries taken by the intake of R128. That FAULT_INPUT_CHANGE with the level that the input
already has changes nothing is the model's choice [2]. -/
def Obligations.AbortActsOnEveryBlock : Prop :=
  (∀ (tag : Byte) (s : State), Answering s →
    (s.fault.state = .running → ∃ t, exec (.abort tag []) s = answered 0x43 tag [0] t ∧ AbortEffect .host s t) ∧
    (s.fault.state = .aborted → exec (.abort tag []) s = answered 0x43 tag [0] s)) ∧
  ∀ s : State,
    (∀ level, level = s.fault.faultLevel → exec (.faultInputChange level) s = .next s) ∧
    (s.fault.faultLevel = true →
      exec (.faultInputChange false) s = .next (s.setFault { s.fault with faultLevel := false })) ∧
    (s.fault.faultLevel = false →
      ∃ t, exec (.faultInputChange true) s = .next t ∧ LatchedAfter s.events t.events .localFault 0 none ∧
        (s.working.link.abortOnLocal = true → s.fault.state = .running → abortDemand s = false →
          AbortEffect .localFault (s.setFault { s.fault with faultLevel := true }) t) ∧
        (s.working.link.abortOnLocal = false ∨ s.fault.state = .aborted ∨ abortDemand s = true →
          t = { s with fault := { s.fault with faultLevel := true }, events := t.events }))

/-- R175: RESUME is refused with BAD_STATE in RUNNING and while the abort demand holds; otherwise it is one act, and
the lane and the cause stay as they are. -/
def Obligations.ResumeReleasesTheLink : Prop :=
  ∀ (tag : Byte) (s : State), Answering s →
    (s.fault.state = .running ∨ abortDemand s = true →
      exec (.resume tag []) s = refusedWith .badState 0x44 tag s) ∧
    (abortDemand s = true ↔
      (s.working.link.abortOnLocal = true ∧ s.fault.faultLevel = true) ∨
      (s.working.link.abortOnFar = true ∧ ∃ c, s.enabled c = true ∧ s.fault.farFault.get c = true)) ∧
    (s.fault.state = .aborted → abortDemand s = false →
      ∃ t, exec (.resume tag []) s = answered 0x44 tag [0] t ∧
        t = { s with fault := { s.fault with state := .running }, events := t.events, rau := t.rau, pcu := t.pcu } ∧
        LatchedAfter s.events t.events .aborted 0 (some .leave) ∧
        (∀ c, t.rau.get c = if s.enabled c
          then { s.rau.get c with hold := s.working.link.holdFrames * (s.rau.get c).m } else s.rau.get c) ∧
        ∀ c, t.pcu.get c =
          if s.enabled c = true ∧ (s.params c).atpcEnable = true ∧ (s.sig.get c).lost = false ∧
              s.port.link = .running
          then { s.pcu.get c with period := (s.params c).period } else s.pcu.get c)

/-! ## Events -/

/-- R184, R185, R186: reading, clearing and arming the Event Latch Table, what one report does to it, and ALERT. The bytes
of an absent first frame number are free beside its flag, and READ_EVENTS moves the model's own counter of free values,
the model's choice [30]. -/
def Obligations.EventMessagesActOnTheTable : Prop :=
  (∀ (tag : Byte) (s : State), Answering s →
    (∃ absent : Nat → FrameNo, exec (.readEvents tag []) s = answered 0x50 tag
      ([0, byteOf s.events.entries.length] ++ s.events.entries.zipIdx.flatMap fun y =>
        [byteOf y.1.kind.code.val,
         byteOf (y.1.index % 16 + (if y.1.edge = some .leave then 64 else 0) + if y.1.frame.isNone then 128 else 0)] ++
        frameBytes (y.1.frame.getD (absent y.2))) (s.setFreeCount (s.freeCount + 1))) ∧
    exec (.clearEvents tag []) s = answered 0x51 tag [0] (s.setEvents { s.events with entries := [] }) ∧
    (∀ k i : Byte, ∀ kind, EventKind.ofNat? k.toNat = some kind → i.toNat < kind.indices →
      ∃ t, exec (.clearEvents tag [k, i]) s = answered 0x51 tag [0] (s.setEvents t) ∧ t.modes = s.events.modes ∧
        ∀ x, x ∈ t.entries ↔ x ∈ s.events.entries ∧ ¬ (x.kind = kind ∧ x.index = i.toNat)) ∧
    (∀ pairs : List (Byte × Byte), pairs ≠ [] → pairs.length ≤ 58 →
      let named (pair : Byte × Byte) (kind : EventKind) (i : Nat) :=
        EventKind.ofNat? pair.1.toNat = some kind ∧ i = pair.2.toNat ∧ i < kind.indices
      let payload := pairs.flatMap fun pair => [pair.1, pair.2]
      ((∀ pair ∈ pairs, ∃ kind i, named pair kind i) →
        ∃ t, exec (.clearEvents tag payload) s = answered 0x51 tag [0] (s.setEvents t) ∧ t.modes = s.events.modes ∧
          ∀ x, x ∈ t.entries ↔ x ∈ s.events.entries ∧ ∀ pair ∈ pairs, ¬ named pair x.kind x.index) ∧
      ((∃ pair ∈ pairs, ∀ kind i, ¬ named pair kind i) →
        exec (.clearEvents tag payload) s = refusedWith .badValue 0x51 tag s)) ∧
    (∀ k i : Byte, (15 < k.toNat ∨ ∀ kind, EventKind.ofNat? k.toNat = some kind → kind.indices ≤ i.toNat) →
      exec (.clearEvents tag [k, i]) s = refusedWith .badValue 0x51 tag s) ∧
    (∀ k edge : Byte, ∀ on : Bool, ∀ kind, EventKind.ofNat? k.toNat = some kind →
      (kind.isCondition = true → edge.toNat ≤ 2) →
      ∃ t, exec (.setEventMode tag [k, if on then 1 else 0, edge]) s = answered 0x52 tag [0] (s.setEvents t) ∧
        (t.mode kind).on = on ∧
        (kind.isCondition = true → (t.mode kind).edge =
          if edge = 0 then .enter else if edge = 1 then .leave else .both) ∧
        (kind.isCondition = false → (t.mode kind).edge = (s.events.mode kind).edge) ∧
        (∀ other, other ≠ kind → t.mode other = s.events.mode other) ∧
        (on = true → t.entries = s.events.entries) ∧
        (on = false → ∀ x, x ∈ t.entries ↔ x ∈ s.events.entries ∧ x.kind ≠ kind)) ∧
    (∀ k on edge : Byte,
      (15 < k.toNat ∨ 2 ≤ on.toNat ∨
        (2 < edge.toNat ∧ ∃ kind, EventKind.ofNat? k.toNat = some kind ∧ kind.isCondition = true)) →
      exec (.setEventMode tag [k, on, edge]) s = refusedWith .badValue 0x52 tag s)) ∧
  (∀ (frame : Option FrameNo) (t : EventTable) (r : Report),
    (((t.mode r.kind).on = false ∨ (t.mode r.kind).edge.selects r.edge = false ∨
        t.latched r.kind r.index = true) → latch frame t r = t) ∧
    ((t.mode r.kind).on = true → (t.mode r.kind).edge.selects r.edge = true → t.latched r.kind r.index = false →
      (latch frame t r).modes = t.modes ∧ (latch frame t r).entries.length = t.entries.length + 1 ∧
      ∀ x, x ∈ (latch frame t r).entries ↔
        x ∈ t.entries ∨ x = { kind := r.kind, index := r.index, edge := r.edge, frame := frame })) ∧
  ∀ s : State, s.alert = true ↔ s.events.entries ≠ []

/-! ## The host line -/

/-- R179: every good frame that is taken gets exactly one reply, with KIND + 0x80 and the request's TAG; a payload of
another length is answered BAD_LENGTH and a KIND that names no message BAD_KIND, and nothing changes; during a reply
a frame is an overrun. While the line is held low no frame is taken [21]. The sum KIND + 0x80 wraps [19]. -/
def Obligations.EveryTakenFrameIsAnsweredOnce : Prop :=
  ∀ (m : Message) (tag : Byte) (payload : List Byte) (s : State),
    (Answering s → ¬ takesLength m payload.length →
      exec (messageCommand m tag payload) s = refusedWith .badLength m.kind tag s) ∧
    (Answering s → ∃ t reply resets, exec (messageCommand m tag payload) s = .next (t.setHml { s.hml with
        transmitter := .sending { kind := m.kind + 0x80, tag := tag, payload := reply } resets }) ∧
      t.hml = s.hml ∧ reply ≠ [] ∧ (resets = true ↔ m = .reset ∧ payload = []) ∧
      (∀ status : Byte, reply.head? = some status → status ≠ 0 → reply = [status] ∧ t = s)) ∧
    (∀ kind : Byte, (∀ m' : Message, m'.kind ≠ kind) →
      (Answering s → exec (.badKindMessage kind tag payload) s = refusedWith .badKind kind tag s)) ∧
    (s.hml.lineLow = false → s.hml.transmitter ≠ .idle →
      ∃ t, exec (messageCommand m tag payload) s = .next t ∧ t = { s with events := t.events } ∧
        LatchedAfter s.events t.events .hmlError 3 none) ∧
    (s.hml.lineLow = true → exec (messageCommand m tag payload) s = .next s)

/-- R177, R178, R179: a frame's bytes, SYNC first and each with a high stop bit, taken one after the other by an IDLE
receiver, act as the message that the frame carries; a frame with another check sequence is discarded with HML_ERROR.
That a message row is its whole frame is the model's reading [6]. -/
def Obligations.ByteByByteFramesActAsMessages : Prop :=
  ∀ (tag : Byte) (payload : List Byte) (s : State),
    Answering s → s.hml.receiver = .idle → payload.length ≤ 248 →
    (∀ m : Message, takeBytes (lineFrame m.kind tag payload) s = exec (messageCommand m tag payload) s) ∧
    (∀ kind : Byte, (∀ m : Message, m.kind ≠ kind) →
      takeBytes (lineFrame kind tag payload) s = exec (.badKindMessage kind tag payload) s) ∧
    ∀ kind high low : Byte, high ++ low ≠ crc16 (frameBody kind tag payload) →
      ∃ t, takeBytes (sync :: frameBody kind tag payload ++ [high, low]) s = .next t ∧
        t = { s with events := t.events } ∧ LatchedAfter s.events t.events .hmlError 1 none

/-- R177: the receiver's steps by byte, the receive timer's expiry, a line clear and the line's return. That an expiry
with an IDLE receiver, and a rejection for a reply that is not being sent, do nothing is the model's choice [2]; the
OVERRUN of a bad check during a reply is the model's reading [7]. -/
def Obligations.ReceiverFollowsTheLine : Prop :=
  ∀ s : State,
    (s.hml.receiver = .idle → exec .hmlReceiveTimeout s = .next s) ∧
    (∀ bytes, s.hml.receiver = .receiving bytes → ∃ t, exec .hmlReceiveTimeout s = .next t ∧
      t = { s with hml := { s.hml with receiver := .idle }, events := t.events } ∧
      LatchedAfter s.events t.events .hmlError 0 none) ∧
    (∃ t, exec .lineClear s = .next t ∧
      t = { s with hml := { s.hml with receiver := .idle, lineLow := true }, events := t.events } ∧
      LatchedAfter s.events t.events .hmlError 2 none) ∧
    exec .lineReturnsHigh s = .next (s.setHml { s.hml with lineLow := false }) ∧
    (∀ b stop, s.hml.lineLow = true → exec (.hmlByte b stop) s = .next s) ∧
    (s.hml.lineLow = false → s.hml.receiver = .idle → ∀ b stop,
      exec (.hmlByte b stop) s = .next (if b = 0xA6 ∧ stop = true
        then s.setHml { s.hml with receiver := .receiving [] } else s)) ∧
    (∀ bytes b, s.hml.lineLow = false → s.hml.receiver = .receiving bytes → ∃ t,
      exec (.hmlByte b false) s = .next t ∧
      t = { s with hml := { s.hml with receiver := .idle }, events := t.events } ∧
      LatchedAfter s.events t.events .hmlError 1 none) ∧
    (s.hml.lineLow = false → s.hml.receiver = .receiving [] → ∀ b : Byte,
      (2 ≤ b.toNat → b.toNat ≤ 250 →
        exec (.hmlByte b true) s = .next (s.setHml { s.hml with receiver := .receiving [b] })) ∧
      (b.toNat < 2 ∨ 250 < b.toNat → ∃ t, exec (.hmlByte b true) s = .next t ∧
        t = { s with hml := { s.hml with receiver := .idle }, events := t.events } ∧
        LatchedAfter s.events t.events .hmlError 4 none)) ∧
    (∀ len bytes b, s.hml.lineLow = false → s.hml.receiver = .receiving (len :: bytes) →
      bytes.length + 2 < len.toNat + 3 →
      exec (.hmlByte b true) s = .next (s.setHml { s.hml with receiver := .receiving (len :: bytes ++ [b]) })) ∧
    ∀ reason, s.hml.lineLow = false →
      (reason = .duringReply → s.hml.transmitter = .idle → exec (.hmlFrameRejected reason) s = .next s) ∧
      (reason ≠ .duringReply ∨ s.hml.transmitter ≠ .idle → ∃ t, exec (.hmlFrameRejected reason) s = .next t ∧
        t = { s with hml := { s.hml with receiver := .idle }, events := t.events } ∧
        LatchedAfter s.events t.events .hmlError
          (match reason with
           | .length => 4
           | .lowStop => 1
           | .badCheck => if s.hml.transmitter = .idle then 1 else 3
           | .duringReply => 3) none)

/-! ## Resets -/

/-- R187: RESET is answered first and acts when its reply's last byte has been sent; it keeps the staged set, the
enables and edge modes, the receiver and the line rate. Power-on reset puts everything at its reset value and reads
the straps. The FAULT level is kept by RESET (R168). The queue and freeCount are the model's own [1], [23], and so are the
held deliveries, which both resets forget [17], the idle transmitter and high line after power-on [18], and a REPLY_SENT that finds the transmitter idle and does
nothing [2]. -/
def Obligations.ResetsActAsOneAct : Prop :=
  (∀ (tag : Byte) (s : State), Answering s → exec (.reset tag []) s = .next (s.setHml { s.hml with
    transmitter := .sending { kind := 0xFF, tag := tag, payload := [0] } true })) ∧
  (∀ s : State, s.hml.transmitter = .idle → exec .replySent s = .next s) ∧
  (∀ (s : State) (r : Reply), s.hml.transmitter = .sending r false →
    exec .replySent s = .next (s.setHml { s.hml with transmitter := .idle })) ∧
  (∀ (s : State) (r : Reply), s.hml.transmitter = .sending r true → ∃ t, exec .replySent s = .next t ∧
    t.hml = { s.hml with transmitter := .idle } ∧ t.staged = s.staged ∧ t.events.modes = s.events.modes ∧
    t.events.entries = [] ∧ t.alert = false ∧ t.fault.faultLevel = s.fault.faultLevel ∧
    t = { State.reset with
      staged := t.staged, fault := { State.reset.fault with faultLevel := t.fault.faultLevel }, events := t.events,
      hml := t.hml, freeCount := s.freeCount, pending := s.pending }) ∧
  (∀ (straps : BitVec 2) (fault : Bool) (s : State), ∃ t, exec (.powerOnReset straps fault) s = .next t ∧
    t.hml.rate = (if straps = 1 then .r460800 else if straps = 2 then .r921600 else .r115200) ∧
    t.hml.receiver = .idle ∧ t.fault.faultLevel = fault ∧ t.alert = false ∧
    t = { State.reset with
      fault := { State.reset.fault with faultLevel := fault }, hml := { State.reset.hml with rate := t.hml.rate },
      freeCount := s.freeCount, pending := s.pending }) ∧
  (State.reset.working.table = [] ∧ State.reset.applyPending = false ∧ State.reset.port.link = .running ∧
    State.reset.port.current = none ∧ State.reset.fault.state = .running ∧ State.reset.fault.cause = none ∧
    State.reset.lane.announcement = none ∧ State.reset.mapper.shadow = none ∧
    ∀ c, State.reset.enabled c = false ∧ (State.reset.est.get c).est = none ∧
      (State.reset.rau.get c).phase = .standby ∧ (State.reset.rau.get c).active = 0 ∧
      (State.reset.rau.get c).request = { seq := 7, kind := .none, target := none } ∧
      (State.reset.rau.get c).consumed = 7 ∧ (State.reset.rau.get c).m = 1 ∧
      (State.reset.rau.get c).upCounter = 65535 ∧ State.reset.txActive c = 0 ∧
      (State.reset.lane.carriers.get c).lastAnswered = 7 ∧
      (State.reset.lane.carriers.get c).answer = { kind := .none, seq := 7 } ∧
      (State.reset.lane.carriers.get c).hold = false ∧ (State.reset.sig.get c).lost = false ∧
      (State.reset.pcu.get c).atpc = 0 ∧ State.reset.mapper.active.maps.get c = [])
end

