-- ==== Sys2Proof/Laws/State.lean ====
section
/-!
SUPPORT. The small lemmas of the state: what each named update leaves in each field, and reading an item of a small
collection after one has been written.
-/
namespace Sys2Proof

variable {α : Type}

@[simp] theorem Four.get_set_same (f : Four α) (c : Carrier) (x : α) : (f.set c x).get c = x := by cases c <;> rfl

theorem Four.get_set_of_ne (f : Four α) {c d : Carrier} (x : α) (h : d ≠ c) : (f.set c x).get d = f.get d := by
  cases c <;> cases d <;> first | rfl | exact absurd rfl h

theorem Four.get_set (f : Four α) (c d : Carrier) (x : α) : (f.set c x).get d = if d = c then x else f.get d := by
  cases c <;> cases d <;> rfl

@[simp] theorem Four.get_ofFn (f : Carrier → α) (c : Carrier) : (Four.ofFn f).get c = f c := by cases c <;> rfl

@[simp] theorem Four.get_fill (x : α) (c : Carrier) : (Four.fill x).get c = x := by cases c <;> rfl

@[simp] theorem Four.set_get_self (f : Four α) (c : Carrier) : f.set c (f.get c) = f := by cases c <;> rfl

theorem Four.ext_get {f g : Four α} (h : ∀ c, f.get c = g.get c) : f = g := by
  obtain ⟨a, b, c, d⟩ := f
  obtain ⟨a', b', c', d'⟩ := g
  have h0 : a = a' := h .c0
  have h1 : b = b' := h .c1
  have h2 : c = c' := h .c2
  have h3 : d = d' := h .c3
  subst h0 h1 h2 h3
  rfl

@[simp] theorem Sides.get_set_same (f : Sides α) (c : Side) (x : α) : (f.set c x).get c = x := by cases c <;> rfl

theorem Sides.get_set (f : Sides α) (c d : Side) (x : α) : (f.set c x).get d = if d = c then x else f.get d := by
  cases c <;> cases d <;> rfl

@[simp] theorem Sides.get_fill (x : α) (c : Side) : (Sides.fill x).get c = x := by cases c <;> rfl

@[simp] theorem Eight.get_set_same (f : Eight α) (k : Cls) (x : α) : (f.set k x).get k = x := by cases k <;> rfl

theorem Eight.get_set (f : Eight α) (k j : Cls) (x : α) : (f.set k x).get j = if j = k then x else f.get j := by
  cases k <;> cases j <;> rfl

@[simp] theorem Eight.get_ofFn (f : Cls → α) (k : Cls) : (Eight.ofFn f).get k = f k := by cases k <;> rfl

@[simp] theorem Eight.get_fill (x : α) (k : Cls) : (Eight.fill x).get k = x := by cases k <;> rfl

theorem Carrier.mem_all (c : Carrier) : c ∈ Carrier.all := by cases c <;> decide

theorem Cls.mem_all (k : Cls) : k ∈ Cls.all := by cases k <;> decide

theorem Carrier.toNat_lt (c : Carrier) : c.toNat < 4 := by cases c <;> decide

theorem Cls.toNat_lt (k : Cls) : k.toNat < 8 := by cases k <;> decide

@[simp] theorem Carrier.ofNat?_toNat (c : Carrier) : Carrier.ofNat? c.toNat = some c := by cases c <;> rfl

@[simp] theorem Cls.ofNat?_toNat (k : Cls) : Cls.ofNat? k.toNat = some k := by cases k <;> rfl

namespace Machine

variable (s : State)

/-! ### After setPort -/

@[simp] theorem State.setPort_port (x : Port) : (s.setPort x).port = x := rfl
@[simp] theorem State.setPort_intake (x : Port) : (s.setPort x).intake = s.intake := rfl
@[simp] theorem State.setPort_est (x : Port) : (s.setPort x).est = s.est := rfl
@[simp] theorem State.setPort_monitor (x : Port) : (s.setPort x).monitor = s.monitor := rfl
@[simp] theorem State.setPort_staged (x : Port) : (s.setPort x).staged = s.staged := rfl
@[simp] theorem State.setPort_working (x : Port) : (s.setPort x).working = s.working := rfl
@[simp] theorem State.setPort_applyPending (x : Port) : (s.setPort x).applyPending = s.applyPending := rfl
@[simp] theorem State.setPort_rau (x : Port) : (s.setPort x).rau = s.rau := rfl
@[simp] theorem State.setPort_sig (x : Port) : (s.setPort x).sig = s.sig := rfl
@[simp] theorem State.setPort_lane (x : Port) : (s.setPort x).lane = s.lane := rfl
@[simp] theorem State.setPort_pcu (x : Port) : (s.setPort x).pcu = s.pcu := rfl
@[simp] theorem State.setPort_mapper (x : Port) : (s.setPort x).mapper = s.mapper := rfl
@[simp] theorem State.setPort_fault (x : Port) : (s.setPort x).fault = s.fault := rfl
@[simp] theorem State.setPort_events (x : Port) : (s.setPort x).events = s.events := rfl
@[simp] theorem State.setPort_hml (x : Port) : (s.setPort x).hml = s.hml := rfl
@[simp] theorem State.setPort_freeCount (x : Port) : (s.setPort x).freeCount = s.freeCount := rfl
@[simp] theorem State.setPort_pending (x : Port) : (s.setPort x).pending = s.pending := rfl

/-! ### After setIntake -/

@[simp] theorem State.setIntake_port (x : Four IntakeCarrier) : (s.setIntake x).port = s.port := rfl
@[simp] theorem State.setIntake_intake (x : Four IntakeCarrier) : (s.setIntake x).intake = x := rfl
@[simp] theorem State.setIntake_est (x : Four IntakeCarrier) : (s.setIntake x).est = s.est := rfl
@[simp] theorem State.setIntake_monitor (x : Four IntakeCarrier) : (s.setIntake x).monitor = s.monitor := rfl
@[simp] theorem State.setIntake_staged (x : Four IntakeCarrier) : (s.setIntake x).staged = s.staged := rfl
@[simp] theorem State.setIntake_working (x : Four IntakeCarrier) : (s.setIntake x).working = s.working := rfl
@[simp] theorem State.setIntake_applyPending (x : Four IntakeCarrier) : (s.setIntake x).applyPending = s.applyPending := rfl
@[simp] theorem State.setIntake_rau (x : Four IntakeCarrier) : (s.setIntake x).rau = s.rau := rfl
@[simp] theorem State.setIntake_sig (x : Four IntakeCarrier) : (s.setIntake x).sig = s.sig := rfl
@[simp] theorem State.setIntake_lane (x : Four IntakeCarrier) : (s.setIntake x).lane = s.lane := rfl
@[simp] theorem State.setIntake_pcu (x : Four IntakeCarrier) : (s.setIntake x).pcu = s.pcu := rfl
@[simp] theorem State.setIntake_mapper (x : Four IntakeCarrier) : (s.setIntake x).mapper = s.mapper := rfl
@[simp] theorem State.setIntake_fault (x : Four IntakeCarrier) : (s.setIntake x).fault = s.fault := rfl
@[simp] theorem State.setIntake_events (x : Four IntakeCarrier) : (s.setIntake x).events = s.events := rfl
@[simp] theorem State.setIntake_hml (x : Four IntakeCarrier) : (s.setIntake x).hml = s.hml := rfl
@[simp] theorem State.setIntake_freeCount (x : Four IntakeCarrier) : (s.setIntake x).freeCount = s.freeCount := rfl
@[simp] theorem State.setIntake_pending (x : Four IntakeCarrier) : (s.setIntake x).pending = s.pending := rfl

/-! ### After setEst -/

@[simp] theorem State.setEst_port (x : Four EstRecord) : (s.setEst x).port = s.port := rfl
@[simp] theorem State.setEst_intake (x : Four EstRecord) : (s.setEst x).intake = s.intake := rfl
@[simp] theorem State.setEst_est (x : Four EstRecord) : (s.setEst x).est = x := rfl
@[simp] theorem State.setEst_monitor (x : Four EstRecord) : (s.setEst x).monitor = s.monitor := rfl
@[simp] theorem State.setEst_staged (x : Four EstRecord) : (s.setEst x).staged = s.staged := rfl
@[simp] theorem State.setEst_working (x : Four EstRecord) : (s.setEst x).working = s.working := rfl
@[simp] theorem State.setEst_applyPending (x : Four EstRecord) : (s.setEst x).applyPending = s.applyPending := rfl
@[simp] theorem State.setEst_rau (x : Four EstRecord) : (s.setEst x).rau = s.rau := rfl
@[simp] theorem State.setEst_sig (x : Four EstRecord) : (s.setEst x).sig = s.sig := rfl
@[simp] theorem State.setEst_lane (x : Four EstRecord) : (s.setEst x).lane = s.lane := rfl
@[simp] theorem State.setEst_pcu (x : Four EstRecord) : (s.setEst x).pcu = s.pcu := rfl
@[simp] theorem State.setEst_mapper (x : Four EstRecord) : (s.setEst x).mapper = s.mapper := rfl
@[simp] theorem State.setEst_fault (x : Four EstRecord) : (s.setEst x).fault = s.fault := rfl
@[simp] theorem State.setEst_events (x : Four EstRecord) : (s.setEst x).events = s.events := rfl
@[simp] theorem State.setEst_hml (x : Four EstRecord) : (s.setEst x).hml = s.hml := rfl
@[simp] theorem State.setEst_freeCount (x : Four EstRecord) : (s.setEst x).freeCount = s.freeCount := rfl
@[simp] theorem State.setEst_pending (x : Four EstRecord) : (s.setEst x).pending = s.pending := rfl

/-! ### After setMonitor -/

@[simp] theorem State.setMonitor_port (x : Monitor) : (s.setMonitor x).port = s.port := rfl
@[simp] theorem State.setMonitor_intake (x : Monitor) : (s.setMonitor x).intake = s.intake := rfl
@[simp] theorem State.setMonitor_est (x : Monitor) : (s.setMonitor x).est = s.est := rfl
@[simp] theorem State.setMonitor_monitor (x : Monitor) : (s.setMonitor x).monitor = x := rfl
@[simp] theorem State.setMonitor_staged (x : Monitor) : (s.setMonitor x).staged = s.staged := rfl
@[simp] theorem State.setMonitor_working (x : Monitor) : (s.setMonitor x).working = s.working := rfl
@[simp] theorem State.setMonitor_applyPending (x : Monitor) : (s.setMonitor x).applyPending = s.applyPending := rfl
@[simp] theorem State.setMonitor_rau (x : Monitor) : (s.setMonitor x).rau = s.rau := rfl
@[simp] theorem State.setMonitor_sig (x : Monitor) : (s.setMonitor x).sig = s.sig := rfl
@[simp] theorem State.setMonitor_lane (x : Monitor) : (s.setMonitor x).lane = s.lane := rfl
@[simp] theorem State.setMonitor_pcu (x : Monitor) : (s.setMonitor x).pcu = s.pcu := rfl
@[simp] theorem State.setMonitor_mapper (x : Monitor) : (s.setMonitor x).mapper = s.mapper := rfl
@[simp] theorem State.setMonitor_fault (x : Monitor) : (s.setMonitor x).fault = s.fault := rfl
@[simp] theorem State.setMonitor_events (x : Monitor) : (s.setMonitor x).events = s.events := rfl
@[simp] theorem State.setMonitor_hml (x : Monitor) : (s.setMonitor x).hml = s.hml := rfl
@[simp] theorem State.setMonitor_freeCount (x : Monitor) : (s.setMonitor x).freeCount = s.freeCount := rfl
@[simp] theorem State.setMonitor_pending (x : Monitor) : (s.setMonitor x).pending = s.pending := rfl

/-! ### After setStaged -/

@[simp] theorem State.setStaged_port (x : StagedSet) : (s.setStaged x).port = s.port := rfl
@[simp] theorem State.setStaged_intake (x : StagedSet) : (s.setStaged x).intake = s.intake := rfl
@[simp] theorem State.setStaged_est (x : StagedSet) : (s.setStaged x).est = s.est := rfl
@[simp] theorem State.setStaged_monitor (x : StagedSet) : (s.setStaged x).monitor = s.monitor := rfl
@[simp] theorem State.setStaged_staged (x : StagedSet) : (s.setStaged x).staged = x := rfl
@[simp] theorem State.setStaged_working (x : StagedSet) : (s.setStaged x).working = s.working := rfl
@[simp] theorem State.setStaged_applyPending (x : StagedSet) : (s.setStaged x).applyPending = s.applyPending := rfl
@[simp] theorem State.setStaged_rau (x : StagedSet) : (s.setStaged x).rau = s.rau := rfl
@[simp] theorem State.setStaged_sig (x : StagedSet) : (s.setStaged x).sig = s.sig := rfl
@[simp] theorem State.setStaged_lane (x : StagedSet) : (s.setStaged x).lane = s.lane := rfl
@[simp] theorem State.setStaged_pcu (x : StagedSet) : (s.setStaged x).pcu = s.pcu := rfl
@[simp] theorem State.setStaged_mapper (x : StagedSet) : (s.setStaged x).mapper = s.mapper := rfl
@[simp] theorem State.setStaged_fault (x : StagedSet) : (s.setStaged x).fault = s.fault := rfl
@[simp] theorem State.setStaged_events (x : StagedSet) : (s.setStaged x).events = s.events := rfl
@[simp] theorem State.setStaged_hml (x : StagedSet) : (s.setStaged x).hml = s.hml := rfl
@[simp] theorem State.setStaged_freeCount (x : StagedSet) : (s.setStaged x).freeCount = s.freeCount := rfl
@[simp] theorem State.setStaged_pending (x : StagedSet) : (s.setStaged x).pending = s.pending := rfl

/-! ### After setWorking -/

@[simp] theorem State.setWorking_port (x : WorkingSet) : (s.setWorking x).port = s.port := rfl
@[simp] theorem State.setWorking_intake (x : WorkingSet) : (s.setWorking x).intake = s.intake := rfl
@[simp] theorem State.setWorking_est (x : WorkingSet) : (s.setWorking x).est = s.est := rfl
@[simp] theorem State.setWorking_monitor (x : WorkingSet) : (s.setWorking x).monitor = s.monitor := rfl
@[simp] theorem State.setWorking_staged (x : WorkingSet) : (s.setWorking x).staged = s.staged := rfl
@[simp] theorem State.setWorking_working (x : WorkingSet) : (s.setWorking x).working = x := rfl
@[simp] theorem State.setWorking_applyPending (x : WorkingSet) : (s.setWorking x).applyPending = s.applyPending := rfl
@[simp] theorem State.setWorking_rau (x : WorkingSet) : (s.setWorking x).rau = s.rau := rfl
@[simp] theorem State.setWorking_sig (x : WorkingSet) : (s.setWorking x).sig = s.sig := rfl
@[simp] theorem State.setWorking_lane (x : WorkingSet) : (s.setWorking x).lane = s.lane := rfl
@[simp] theorem State.setWorking_pcu (x : WorkingSet) : (s.setWorking x).pcu = s.pcu := rfl
@[simp] theorem State.setWorking_mapper (x : WorkingSet) : (s.setWorking x).mapper = s.mapper := rfl
@[simp] theorem State.setWorking_fault (x : WorkingSet) : (s.setWorking x).fault = s.fault := rfl
@[simp] theorem State.setWorking_events (x : WorkingSet) : (s.setWorking x).events = s.events := rfl
@[simp] theorem State.setWorking_hml (x : WorkingSet) : (s.setWorking x).hml = s.hml := rfl
@[simp] theorem State.setWorking_freeCount (x : WorkingSet) : (s.setWorking x).freeCount = s.freeCount := rfl
@[simp] theorem State.setWorking_pending (x : WorkingSet) : (s.setWorking x).pending = s.pending := rfl

/-! ### After setApplyPending -/

@[simp] theorem State.setApplyPending_port (x : Bool) : (s.setApplyPending x).port = s.port := rfl
@[simp] theorem State.setApplyPending_intake (x : Bool) : (s.setApplyPending x).intake = s.intake := rfl
@[simp] theorem State.setApplyPending_est (x : Bool) : (s.setApplyPending x).est = s.est := rfl
@[simp] theorem State.setApplyPending_monitor (x : Bool) : (s.setApplyPending x).monitor = s.monitor := rfl
@[simp] theorem State.setApplyPending_staged (x : Bool) : (s.setApplyPending x).staged = s.staged := rfl
@[simp] theorem State.setApplyPending_working (x : Bool) : (s.setApplyPending x).working = s.working := rfl
@[simp] theorem State.setApplyPending_applyPending (x : Bool) : (s.setApplyPending x).applyPending = x := rfl
@[simp] theorem State.setApplyPending_rau (x : Bool) : (s.setApplyPending x).rau = s.rau := rfl
@[simp] theorem State.setApplyPending_sig (x : Bool) : (s.setApplyPending x).sig = s.sig := rfl
@[simp] theorem State.setApplyPending_lane (x : Bool) : (s.setApplyPending x).lane = s.lane := rfl
@[simp] theorem State.setApplyPending_pcu (x : Bool) : (s.setApplyPending x).pcu = s.pcu := rfl
@[simp] theorem State.setApplyPending_mapper (x : Bool) : (s.setApplyPending x).mapper = s.mapper := rfl
@[simp] theorem State.setApplyPending_fault (x : Bool) : (s.setApplyPending x).fault = s.fault := rfl
@[simp] theorem State.setApplyPending_events (x : Bool) : (s.setApplyPending x).events = s.events := rfl
@[simp] theorem State.setApplyPending_hml (x : Bool) : (s.setApplyPending x).hml = s.hml := rfl
@[simp] theorem State.setApplyPending_freeCount (x : Bool) : (s.setApplyPending x).freeCount = s.freeCount := rfl
@[simp] theorem State.setApplyPending_pending (x : Bool) : (s.setApplyPending x).pending = s.pending := rfl

/-! ### After setRau -/

@[simp] theorem State.setRau_port (x : Four RxContext) : (s.setRau x).port = s.port := rfl
@[simp] theorem State.setRau_intake (x : Four RxContext) : (s.setRau x).intake = s.intake := rfl
@[simp] theorem State.setRau_est (x : Four RxContext) : (s.setRau x).est = s.est := rfl
@[simp] theorem State.setRau_monitor (x : Four RxContext) : (s.setRau x).monitor = s.monitor := rfl
@[simp] theorem State.setRau_staged (x : Four RxContext) : (s.setRau x).staged = s.staged := rfl
@[simp] theorem State.setRau_working (x : Four RxContext) : (s.setRau x).working = s.working := rfl
@[simp] theorem State.setRau_applyPending (x : Four RxContext) : (s.setRau x).applyPending = s.applyPending := rfl
@[simp] theorem State.setRau_rau (x : Four RxContext) : (s.setRau x).rau = x := rfl
@[simp] theorem State.setRau_sig (x : Four RxContext) : (s.setRau x).sig = s.sig := rfl
@[simp] theorem State.setRau_lane (x : Four RxContext) : (s.setRau x).lane = s.lane := rfl
@[simp] theorem State.setRau_pcu (x : Four RxContext) : (s.setRau x).pcu = s.pcu := rfl
@[simp] theorem State.setRau_mapper (x : Four RxContext) : (s.setRau x).mapper = s.mapper := rfl
@[simp] theorem State.setRau_fault (x : Four RxContext) : (s.setRau x).fault = s.fault := rfl
@[simp] theorem State.setRau_events (x : Four RxContext) : (s.setRau x).events = s.events := rfl
@[simp] theorem State.setRau_hml (x : Four RxContext) : (s.setRau x).hml = s.hml := rfl
@[simp] theorem State.setRau_freeCount (x : Four RxContext) : (s.setRau x).freeCount = s.freeCount := rfl
@[simp] theorem State.setRau_pending (x : Four RxContext) : (s.setRau x).pending = s.pending := rfl

/-! ### After setSig -/

@[simp] theorem State.setSig_port (x : Four SigCarrier) : (s.setSig x).port = s.port := rfl
@[simp] theorem State.setSig_intake (x : Four SigCarrier) : (s.setSig x).intake = s.intake := rfl
@[simp] theorem State.setSig_est (x : Four SigCarrier) : (s.setSig x).est = s.est := rfl
@[simp] theorem State.setSig_monitor (x : Four SigCarrier) : (s.setSig x).monitor = s.monitor := rfl
@[simp] theorem State.setSig_staged (x : Four SigCarrier) : (s.setSig x).staged = s.staged := rfl
@[simp] theorem State.setSig_working (x : Four SigCarrier) : (s.setSig x).working = s.working := rfl
@[simp] theorem State.setSig_applyPending (x : Four SigCarrier) : (s.setSig x).applyPending = s.applyPending := rfl
@[simp] theorem State.setSig_rau (x : Four SigCarrier) : (s.setSig x).rau = s.rau := rfl
@[simp] theorem State.setSig_sig (x : Four SigCarrier) : (s.setSig x).sig = x := rfl
@[simp] theorem State.setSig_lane (x : Four SigCarrier) : (s.setSig x).lane = s.lane := rfl
@[simp] theorem State.setSig_pcu (x : Four SigCarrier) : (s.setSig x).pcu = s.pcu := rfl
@[simp] theorem State.setSig_mapper (x : Four SigCarrier) : (s.setSig x).mapper = s.mapper := rfl
@[simp] theorem State.setSig_fault (x : Four SigCarrier) : (s.setSig x).fault = s.fault := rfl
@[simp] theorem State.setSig_events (x : Four SigCarrier) : (s.setSig x).events = s.events := rfl
@[simp] theorem State.setSig_hml (x : Four SigCarrier) : (s.setSig x).hml = s.hml := rfl
@[simp] theorem State.setSig_freeCount (x : Four SigCarrier) : (s.setSig x).freeCount = s.freeCount := rfl
@[simp] theorem State.setSig_pending (x : Four SigCarrier) : (s.setSig x).pending = s.pending := rfl

/-! ### After setLane -/

@[simp] theorem State.setLane_port (x : Lane) : (s.setLane x).port = s.port := rfl
@[simp] theorem State.setLane_intake (x : Lane) : (s.setLane x).intake = s.intake := rfl
@[simp] theorem State.setLane_est (x : Lane) : (s.setLane x).est = s.est := rfl
@[simp] theorem State.setLane_monitor (x : Lane) : (s.setLane x).monitor = s.monitor := rfl
@[simp] theorem State.setLane_staged (x : Lane) : (s.setLane x).staged = s.staged := rfl
@[simp] theorem State.setLane_working (x : Lane) : (s.setLane x).working = s.working := rfl
@[simp] theorem State.setLane_applyPending (x : Lane) : (s.setLane x).applyPending = s.applyPending := rfl
@[simp] theorem State.setLane_rau (x : Lane) : (s.setLane x).rau = s.rau := rfl
@[simp] theorem State.setLane_sig (x : Lane) : (s.setLane x).sig = s.sig := rfl
@[simp] theorem State.setLane_lane (x : Lane) : (s.setLane x).lane = x := rfl
@[simp] theorem State.setLane_pcu (x : Lane) : (s.setLane x).pcu = s.pcu := rfl
@[simp] theorem State.setLane_mapper (x : Lane) : (s.setLane x).mapper = s.mapper := rfl
@[simp] theorem State.setLane_fault (x : Lane) : (s.setLane x).fault = s.fault := rfl
@[simp] theorem State.setLane_events (x : Lane) : (s.setLane x).events = s.events := rfl
@[simp] theorem State.setLane_hml (x : Lane) : (s.setLane x).hml = s.hml := rfl
@[simp] theorem State.setLane_freeCount (x : Lane) : (s.setLane x).freeCount = s.freeCount := rfl
@[simp] theorem State.setLane_pending (x : Lane) : (s.setLane x).pending = s.pending := rfl

/-! ### After setPcu -/

@[simp] theorem State.setPcu_port (x : Four PowerCarrier) : (s.setPcu x).port = s.port := rfl
@[simp] theorem State.setPcu_intake (x : Four PowerCarrier) : (s.setPcu x).intake = s.intake := rfl
@[simp] theorem State.setPcu_est (x : Four PowerCarrier) : (s.setPcu x).est = s.est := rfl
@[simp] theorem State.setPcu_monitor (x : Four PowerCarrier) : (s.setPcu x).monitor = s.monitor := rfl
@[simp] theorem State.setPcu_staged (x : Four PowerCarrier) : (s.setPcu x).staged = s.staged := rfl
@[simp] theorem State.setPcu_working (x : Four PowerCarrier) : (s.setPcu x).working = s.working := rfl
@[simp] theorem State.setPcu_applyPending (x : Four PowerCarrier) : (s.setPcu x).applyPending = s.applyPending := rfl
@[simp] theorem State.setPcu_rau (x : Four PowerCarrier) : (s.setPcu x).rau = s.rau := rfl
@[simp] theorem State.setPcu_sig (x : Four PowerCarrier) : (s.setPcu x).sig = s.sig := rfl
@[simp] theorem State.setPcu_lane (x : Four PowerCarrier) : (s.setPcu x).lane = s.lane := rfl
@[simp] theorem State.setPcu_pcu (x : Four PowerCarrier) : (s.setPcu x).pcu = x := rfl
@[simp] theorem State.setPcu_mapper (x : Four PowerCarrier) : (s.setPcu x).mapper = s.mapper := rfl
@[simp] theorem State.setPcu_fault (x : Four PowerCarrier) : (s.setPcu x).fault = s.fault := rfl
@[simp] theorem State.setPcu_events (x : Four PowerCarrier) : (s.setPcu x).events = s.events := rfl
@[simp] theorem State.setPcu_hml (x : Four PowerCarrier) : (s.setPcu x).hml = s.hml := rfl
@[simp] theorem State.setPcu_freeCount (x : Four PowerCarrier) : (s.setPcu x).freeCount = s.freeCount := rfl
@[simp] theorem State.setPcu_pending (x : Four PowerCarrier) : (s.setPcu x).pending = s.pending := rfl

/-! ### After setMapper -/

@[simp] theorem State.setMapper_port (x : Mapper) : (s.setMapper x).port = s.port := rfl
@[simp] theorem State.setMapper_intake (x : Mapper) : (s.setMapper x).intake = s.intake := rfl
@[simp] theorem State.setMapper_est (x : Mapper) : (s.setMapper x).est = s.est := rfl
@[simp] theorem State.setMapper_monitor (x : Mapper) : (s.setMapper x).monitor = s.monitor := rfl
@[simp] theorem State.setMapper_staged (x : Mapper) : (s.setMapper x).staged = s.staged := rfl
@[simp] theorem State.setMapper_working (x : Mapper) : (s.setMapper x).working = s.working := rfl
@[simp] theorem State.setMapper_applyPending (x : Mapper) : (s.setMapper x).applyPending = s.applyPending := rfl
@[simp] theorem State.setMapper_rau (x : Mapper) : (s.setMapper x).rau = s.rau := rfl
@[simp] theorem State.setMapper_sig (x : Mapper) : (s.setMapper x).sig = s.sig := rfl
@[simp] theorem State.setMapper_lane (x : Mapper) : (s.setMapper x).lane = s.lane := rfl
@[simp] theorem State.setMapper_pcu (x : Mapper) : (s.setMapper x).pcu = s.pcu := rfl
@[simp] theorem State.setMapper_mapper (x : Mapper) : (s.setMapper x).mapper = x := rfl
@[simp] theorem State.setMapper_fault (x : Mapper) : (s.setMapper x).fault = s.fault := rfl
@[simp] theorem State.setMapper_events (x : Mapper) : (s.setMapper x).events = s.events := rfl
@[simp] theorem State.setMapper_hml (x : Mapper) : (s.setMapper x).hml = s.hml := rfl
@[simp] theorem State.setMapper_freeCount (x : Mapper) : (s.setMapper x).freeCount = s.freeCount := rfl
@[simp] theorem State.setMapper_pending (x : Mapper) : (s.setMapper x).pending = s.pending := rfl

/-! ### After setFault -/

@[simp] theorem State.setFault_port (x : Supervisor) : (s.setFault x).port = s.port := rfl
@[simp] theorem State.setFault_intake (x : Supervisor) : (s.setFault x).intake = s.intake := rfl
@[simp] theorem State.setFault_est (x : Supervisor) : (s.setFault x).est = s.est := rfl
@[simp] theorem State.setFault_monitor (x : Supervisor) : (s.setFault x).monitor = s.monitor := rfl
@[simp] theorem State.setFault_staged (x : Supervisor) : (s.setFault x).staged = s.staged := rfl
@[simp] theorem State.setFault_working (x : Supervisor) : (s.setFault x).working = s.working := rfl
@[simp] theorem State.setFault_applyPending (x : Supervisor) : (s.setFault x).applyPending = s.applyPending := rfl
@[simp] theorem State.setFault_rau (x : Supervisor) : (s.setFault x).rau = s.rau := rfl
@[simp] theorem State.setFault_sig (x : Supervisor) : (s.setFault x).sig = s.sig := rfl
@[simp] theorem State.setFault_lane (x : Supervisor) : (s.setFault x).lane = s.lane := rfl
@[simp] theorem State.setFault_pcu (x : Supervisor) : (s.setFault x).pcu = s.pcu := rfl
@[simp] theorem State.setFault_mapper (x : Supervisor) : (s.setFault x).mapper = s.mapper := rfl
@[simp] theorem State.setFault_fault (x : Supervisor) : (s.setFault x).fault = x := rfl
@[simp] theorem State.setFault_events (x : Supervisor) : (s.setFault x).events = s.events := rfl
@[simp] theorem State.setFault_hml (x : Supervisor) : (s.setFault x).hml = s.hml := rfl
@[simp] theorem State.setFault_freeCount (x : Supervisor) : (s.setFault x).freeCount = s.freeCount := rfl
@[simp] theorem State.setFault_pending (x : Supervisor) : (s.setFault x).pending = s.pending := rfl

/-! ### After setEvents -/

@[simp] theorem State.setEvents_port (x : EventTable) : (s.setEvents x).port = s.port := rfl
@[simp] theorem State.setEvents_intake (x : EventTable) : (s.setEvents x).intake = s.intake := rfl
@[simp] theorem State.setEvents_est (x : EventTable) : (s.setEvents x).est = s.est := rfl
@[simp] theorem State.setEvents_monitor (x : EventTable) : (s.setEvents x).monitor = s.monitor := rfl
@[simp] theorem State.setEvents_staged (x : EventTable) : (s.setEvents x).staged = s.staged := rfl
@[simp] theorem State.setEvents_working (x : EventTable) : (s.setEvents x).working = s.working := rfl
@[simp] theorem State.setEvents_applyPending (x : EventTable) : (s.setEvents x).applyPending = s.applyPending := rfl
@[simp] theorem State.setEvents_rau (x : EventTable) : (s.setEvents x).rau = s.rau := rfl
@[simp] theorem State.setEvents_sig (x : EventTable) : (s.setEvents x).sig = s.sig := rfl
@[simp] theorem State.setEvents_lane (x : EventTable) : (s.setEvents x).lane = s.lane := rfl
@[simp] theorem State.setEvents_pcu (x : EventTable) : (s.setEvents x).pcu = s.pcu := rfl
@[simp] theorem State.setEvents_mapper (x : EventTable) : (s.setEvents x).mapper = s.mapper := rfl
@[simp] theorem State.setEvents_fault (x : EventTable) : (s.setEvents x).fault = s.fault := rfl
@[simp] theorem State.setEvents_events (x : EventTable) : (s.setEvents x).events = x := rfl
@[simp] theorem State.setEvents_hml (x : EventTable) : (s.setEvents x).hml = s.hml := rfl
@[simp] theorem State.setEvents_freeCount (x : EventTable) : (s.setEvents x).freeCount = s.freeCount := rfl
@[simp] theorem State.setEvents_pending (x : EventTable) : (s.setEvents x).pending = s.pending := rfl

/-! ### After setHml -/

@[simp] theorem State.setHml_port (x : HostLink) : (s.setHml x).port = s.port := rfl
@[simp] theorem State.setHml_intake (x : HostLink) : (s.setHml x).intake = s.intake := rfl
@[simp] theorem State.setHml_est (x : HostLink) : (s.setHml x).est = s.est := rfl
@[simp] theorem State.setHml_monitor (x : HostLink) : (s.setHml x).monitor = s.monitor := rfl
@[simp] theorem State.setHml_staged (x : HostLink) : (s.setHml x).staged = s.staged := rfl
@[simp] theorem State.setHml_working (x : HostLink) : (s.setHml x).working = s.working := rfl
@[simp] theorem State.setHml_applyPending (x : HostLink) : (s.setHml x).applyPending = s.applyPending := rfl
@[simp] theorem State.setHml_rau (x : HostLink) : (s.setHml x).rau = s.rau := rfl
@[simp] theorem State.setHml_sig (x : HostLink) : (s.setHml x).sig = s.sig := rfl
@[simp] theorem State.setHml_lane (x : HostLink) : (s.setHml x).lane = s.lane := rfl
@[simp] theorem State.setHml_pcu (x : HostLink) : (s.setHml x).pcu = s.pcu := rfl
@[simp] theorem State.setHml_mapper (x : HostLink) : (s.setHml x).mapper = s.mapper := rfl
@[simp] theorem State.setHml_fault (x : HostLink) : (s.setHml x).fault = s.fault := rfl
@[simp] theorem State.setHml_events (x : HostLink) : (s.setHml x).events = s.events := rfl
@[simp] theorem State.setHml_hml (x : HostLink) : (s.setHml x).hml = x := rfl
@[simp] theorem State.setHml_freeCount (x : HostLink) : (s.setHml x).freeCount = s.freeCount := rfl
@[simp] theorem State.setHml_pending (x : HostLink) : (s.setHml x).pending = s.pending := rfl

/-! ### After setFreeCount -/

@[simp] theorem State.setFreeCount_port (x : Nat) : (s.setFreeCount x).port = s.port := rfl
@[simp] theorem State.setFreeCount_intake (x : Nat) : (s.setFreeCount x).intake = s.intake := rfl
@[simp] theorem State.setFreeCount_est (x : Nat) : (s.setFreeCount x).est = s.est := rfl
@[simp] theorem State.setFreeCount_monitor (x : Nat) : (s.setFreeCount x).monitor = s.monitor := rfl
@[simp] theorem State.setFreeCount_staged (x : Nat) : (s.setFreeCount x).staged = s.staged := rfl
@[simp] theorem State.setFreeCount_working (x : Nat) : (s.setFreeCount x).working = s.working := rfl
@[simp] theorem State.setFreeCount_applyPending (x : Nat) : (s.setFreeCount x).applyPending = s.applyPending := rfl
@[simp] theorem State.setFreeCount_rau (x : Nat) : (s.setFreeCount x).rau = s.rau := rfl
@[simp] theorem State.setFreeCount_sig (x : Nat) : (s.setFreeCount x).sig = s.sig := rfl
@[simp] theorem State.setFreeCount_lane (x : Nat) : (s.setFreeCount x).lane = s.lane := rfl
@[simp] theorem State.setFreeCount_pcu (x : Nat) : (s.setFreeCount x).pcu = s.pcu := rfl
@[simp] theorem State.setFreeCount_mapper (x : Nat) : (s.setFreeCount x).mapper = s.mapper := rfl
@[simp] theorem State.setFreeCount_fault (x : Nat) : (s.setFreeCount x).fault = s.fault := rfl
@[simp] theorem State.setFreeCount_events (x : Nat) : (s.setFreeCount x).events = s.events := rfl
@[simp] theorem State.setFreeCount_hml (x : Nat) : (s.setFreeCount x).hml = s.hml := rfl
@[simp] theorem State.setFreeCount_freeCount (x : Nat) : (s.setFreeCount x).freeCount = x := rfl
@[simp] theorem State.setFreeCount_pending (x : Nat) : (s.setFreeCount x).pending = s.pending := rfl

/-! ### After setPending -/

@[simp] theorem State.setPending_port (x : List Instr) : (s.setPending x).port = s.port := rfl
@[simp] theorem State.setPending_intake (x : List Instr) : (s.setPending x).intake = s.intake := rfl
@[simp] theorem State.setPending_est (x : List Instr) : (s.setPending x).est = s.est := rfl
@[simp] theorem State.setPending_monitor (x : List Instr) : (s.setPending x).monitor = s.monitor := rfl
@[simp] theorem State.setPending_staged (x : List Instr) : (s.setPending x).staged = s.staged := rfl
@[simp] theorem State.setPending_working (x : List Instr) : (s.setPending x).working = s.working := rfl
@[simp] theorem State.setPending_applyPending (x : List Instr) : (s.setPending x).applyPending = s.applyPending := rfl
@[simp] theorem State.setPending_rau (x : List Instr) : (s.setPending x).rau = s.rau := rfl
@[simp] theorem State.setPending_sig (x : List Instr) : (s.setPending x).sig = s.sig := rfl
@[simp] theorem State.setPending_lane (x : List Instr) : (s.setPending x).lane = s.lane := rfl
@[simp] theorem State.setPending_pcu (x : List Instr) : (s.setPending x).pcu = s.pcu := rfl
@[simp] theorem State.setPending_mapper (x : List Instr) : (s.setPending x).mapper = s.mapper := rfl
@[simp] theorem State.setPending_fault (x : List Instr) : (s.setPending x).fault = s.fault := rfl
@[simp] theorem State.setPending_events (x : List Instr) : (s.setPending x).events = s.events := rfl
@[simp] theorem State.setPending_hml (x : List Instr) : (s.setPending x).hml = s.hml := rfl
@[simp] theorem State.setPending_freeCount (x : List Instr) : (s.setPending x).freeCount = s.freeCount := rfl
@[simp] theorem State.setPending_pending (x : List Instr) : (s.setPending x).pending = x := rfl

/-! ### After setPortCarriers -/

@[simp] theorem State.setPortCarriers_intake (x : Four PortCarrier) : (s.setPortCarriers x).intake = s.intake := rfl
@[simp] theorem State.setPortCarriers_est (x : Four PortCarrier) : (s.setPortCarriers x).est = s.est := rfl
@[simp] theorem State.setPortCarriers_monitor (x : Four PortCarrier) : (s.setPortCarriers x).monitor = s.monitor := rfl
@[simp] theorem State.setPortCarriers_staged (x : Four PortCarrier) : (s.setPortCarriers x).staged = s.staged := rfl
@[simp] theorem State.setPortCarriers_working (x : Four PortCarrier) : (s.setPortCarriers x).working = s.working := rfl
@[simp] theorem State.setPortCarriers_applyPending (x : Four PortCarrier) : (s.setPortCarriers x).applyPending = s.applyPending := rfl
@[simp] theorem State.setPortCarriers_rau (x : Four PortCarrier) : (s.setPortCarriers x).rau = s.rau := rfl
@[simp] theorem State.setPortCarriers_sig (x : Four PortCarrier) : (s.setPortCarriers x).sig = s.sig := rfl
@[simp] theorem State.setPortCarriers_lane (x : Four PortCarrier) : (s.setPortCarriers x).lane = s.lane := rfl
@[simp] theorem State.setPortCarriers_pcu (x : Four PortCarrier) : (s.setPortCarriers x).pcu = s.pcu := rfl
@[simp] theorem State.setPortCarriers_mapper (x : Four PortCarrier) : (s.setPortCarriers x).mapper = s.mapper := rfl
@[simp] theorem State.setPortCarriers_fault (x : Four PortCarrier) : (s.setPortCarriers x).fault = s.fault := rfl
@[simp] theorem State.setPortCarriers_events (x : Four PortCarrier) : (s.setPortCarriers x).events = s.events := rfl
@[simp] theorem State.setPortCarriers_hml (x : Four PortCarrier) : (s.setPortCarriers x).hml = s.hml := rfl
@[simp] theorem State.setPortCarriers_freeCount (x : Four PortCarrier) : (s.setPortCarriers x).freeCount = s.freeCount := rfl
@[simp] theorem State.setPortCarriers_pending (x : Four PortCarrier) : (s.setPortCarriers x).pending = s.pending := rfl
@[simp] theorem State.setPortCarriers_port (x : Four PortCarrier) :
    (s.setPortCarriers x).port = { s.port with carriers := x } := rfl

/-! ### After a report: only the Event Latch Table may change -/

@[simp] theorem State.report_port (rs : List Report) : (s.report rs).port = s.port := rfl
@[simp] theorem State.report_intake (rs : List Report) : (s.report rs).intake = s.intake := rfl
@[simp] theorem State.report_est (rs : List Report) : (s.report rs).est = s.est := rfl
@[simp] theorem State.report_monitor (rs : List Report) : (s.report rs).monitor = s.monitor := rfl
@[simp] theorem State.report_staged (rs : List Report) : (s.report rs).staged = s.staged := rfl
@[simp] theorem State.report_working (rs : List Report) : (s.report rs).working = s.working := rfl
@[simp] theorem State.report_applyPending (rs : List Report) : (s.report rs).applyPending = s.applyPending := rfl
@[simp] theorem State.report_rau (rs : List Report) : (s.report rs).rau = s.rau := rfl
@[simp] theorem State.report_sig (rs : List Report) : (s.report rs).sig = s.sig := rfl
@[simp] theorem State.report_lane (rs : List Report) : (s.report rs).lane = s.lane := rfl
@[simp] theorem State.report_pcu (rs : List Report) : (s.report rs).pcu = s.pcu := rfl
@[simp] theorem State.report_mapper (rs : List Report) : (s.report rs).mapper = s.mapper := rfl
@[simp] theorem State.report_fault (rs : List Report) : (s.report rs).fault = s.fault := rfl
@[simp] theorem State.report_hml (rs : List Report) : (s.report rs).hml = s.hml := rfl
@[simp] theorem State.report_freeCount (rs : List Report) : (s.report rs).freeCount = s.freeCount := rfl
@[simp] theorem State.report_pending (rs : List Report) : (s.report rs).pending = s.pending := rfl
@[simp] theorem State.report_events (rs : List Report) :
    (s.report rs).events = latchAll s.port.current s.events rs := rfl

/-! ### Derived readings after an update -/

@[simp] theorem State.params_setWorking (x : WorkingSet) (c : Carrier) : (s.setWorking x).params c = x.carriers.get c := rfl

theorem State.enabled_eq (c : Carrier) : s.enabled c = (s.working.carriers.get c).enable := rfl

theorem State.params_eq (c : Carrier) : s.params c = s.working.carriers.get c := rfl

theorem State.txActive_eq (c : Carrier) : s.txActive c = (s.lane.carriers.get c).active := rfl

end Machine

end Sys2Proof
end

