-- ==== Sys2Proof/Laws/Frames.lean ====
section
/-!
SUPPORT. What each shared operation leaves alone: for every operation over the whole state, one lemma for each field
that it does not touch. The lemmas are simp lemmas, so a later proof never unfolds an operation to see a frame.
-/
namespace Sys2Proof.Machine

/-- A reading that every step of a fold keeps is kept by the fold. -/
theorem foldl_keeps {α β γ : Type} (r : α → γ) (g : α → β → α) (h : ∀ a b, r (g a b) = r a) (l : List β) (a : α) :
    r (l.foldl g a) = r a := by
  induction l generalizing a with
  | nil => rfl
  | cons b bs ih => rw [List.foldl_cons, ih, h]

/-! ### settleHolds -/

@[simp] theorem settleHolds_port (before s : State) : (settleHolds before s).port = s.port := rfl
@[simp] theorem settleHolds_intake (before s : State) : (settleHolds before s).intake = s.intake := rfl
@[simp] theorem settleHolds_est (before s : State) : (settleHolds before s).est = s.est := rfl
@[simp] theorem settleHolds_monitor (before s : State) : (settleHolds before s).monitor = s.monitor := rfl
@[simp] theorem settleHolds_staged (before s : State) : (settleHolds before s).staged = s.staged := rfl
@[simp] theorem settleHolds_working (before s : State) : (settleHolds before s).working = s.working := rfl
@[simp] theorem settleHolds_applyPending (before s : State) : (settleHolds before s).applyPending = s.applyPending :=
    rfl
@[simp] theorem settleHolds_rau (before s : State) : (settleHolds before s).rau = s.rau := rfl
@[simp] theorem settleHolds_sig (before s : State) : (settleHolds before s).sig = s.sig := rfl
@[simp] theorem settleHolds_lane (before s : State) : (settleHolds before s).lane = s.lane := rfl
@[simp] theorem settleHolds_mapper (before s : State) : (settleHolds before s).mapper = s.mapper := rfl
@[simp] theorem settleHolds_fault (before s : State) : (settleHolds before s).fault = s.fault := rfl
@[simp] theorem settleHolds_events (before s : State) : (settleHolds before s).events = s.events := rfl
@[simp] theorem settleHolds_hml (before s : State) : (settleHolds before s).hml = s.hml := rfl
@[simp] theorem settleHolds_freeCount (before s : State) : (settleHolds before s).freeCount = s.freeCount := rfl
@[simp] theorem settleHolds_pending (before s : State) : (settleHolds before s).pending = s.pending := rfl

/-! ### takeMargin -/

@[simp] theorem takeMargin_port (c : Carrier) (margin : Nat) (fade : Bool) (s : State) :
    (takeMargin c margin fade s).port = s.port :=
    by unfold takeMargin; split <;> simp
@[simp] theorem takeMargin_intake (c : Carrier) (margin : Nat) (fade : Bool) (s : State) :
    (takeMargin c margin fade s).intake = s.intake :=
    by unfold takeMargin; split <;> simp
@[simp] theorem takeMargin_est (c : Carrier) (margin : Nat) (fade : Bool) (s : State) :
    (takeMargin c margin fade s).est = s.est :=
    by unfold takeMargin; split <;> simp
@[simp] theorem takeMargin_monitor (c : Carrier) (margin : Nat) (fade : Bool) (s : State) :
    (takeMargin c margin fade s).monitor = s.monitor :=
    by unfold takeMargin; split <;> simp
@[simp] theorem takeMargin_staged (c : Carrier) (margin : Nat) (fade : Bool) (s : State) :
    (takeMargin c margin fade s).staged = s.staged :=
    by unfold takeMargin; split <;> simp
@[simp] theorem takeMargin_working (c : Carrier) (margin : Nat) (fade : Bool) (s : State) :
    (takeMargin c margin fade s).working = s.working :=
    by unfold takeMargin; split <;> simp
@[simp] theorem takeMargin_applyPending (c : Carrier) (margin : Nat) (fade : Bool) (s : State) :
    (takeMargin c margin fade s).applyPending = s.applyPending :=
    by unfold takeMargin; split <;> simp
@[simp] theorem takeMargin_rau (c : Carrier) (margin : Nat) (fade : Bool) (s : State) :
    (takeMargin c margin fade s).rau = s.rau :=
    by unfold takeMargin; split <;> simp
@[simp] theorem takeMargin_sig (c : Carrier) (margin : Nat) (fade : Bool) (s : State) :
    (takeMargin c margin fade s).sig = s.sig :=
    by unfold takeMargin; split <;> simp
@[simp] theorem takeMargin_lane (c : Carrier) (margin : Nat) (fade : Bool) (s : State) :
    (takeMargin c margin fade s).lane = s.lane :=
    by unfold takeMargin; split <;> simp
@[simp] theorem takeMargin_mapper (c : Carrier) (margin : Nat) (fade : Bool) (s : State) :
    (takeMargin c margin fade s).mapper = s.mapper :=
    by unfold takeMargin; split <;> simp
@[simp] theorem takeMargin_fault (c : Carrier) (margin : Nat) (fade : Bool) (s : State) :
    (takeMargin c margin fade s).fault = s.fault :=
    by unfold takeMargin; split <;> simp
@[simp] theorem takeMargin_events (c : Carrier) (margin : Nat) (fade : Bool) (s : State) :
    (takeMargin c margin fade s).events = s.events :=
    by unfold takeMargin; split <;> simp
@[simp] theorem takeMargin_hml (c : Carrier) (margin : Nat) (fade : Bool) (s : State) :
    (takeMargin c margin fade s).hml = s.hml :=
    by unfold takeMargin; split <;> simp
@[simp] theorem takeMargin_freeCount (c : Carrier) (margin : Nat) (fade : Bool) (s : State) :
    (takeMargin c margin fade s).freeCount = s.freeCount :=
    by unfold takeMargin; split <;> simp
@[simp] theorem takeMargin_pending (c : Carrier) (margin : Nat) (fade : Bool) (s : State) :
    (takeMargin c margin fade s).pending = s.pending :=
    by unfold takeMargin; split <;> simp

/-! ### computeAtten -/

@[simp] theorem computeAtten_port (loaded : Four (Option Nat)) (s : State) : (computeAtten loaded s).port = s.port :=
    rfl
@[simp] theorem computeAtten_intake (loaded : Four (Option Nat)) (s : State) :
    (computeAtten loaded s).intake = s.intake :=
    rfl
@[simp] theorem computeAtten_est (loaded : Four (Option Nat)) (s : State) : (computeAtten loaded s).est = s.est := rfl
@[simp] theorem computeAtten_monitor (loaded : Four (Option Nat)) (s : State) :
    (computeAtten loaded s).monitor = s.monitor :=
    rfl
@[simp] theorem computeAtten_staged (loaded : Four (Option Nat)) (s : State) :
    (computeAtten loaded s).staged = s.staged :=
    rfl
@[simp] theorem computeAtten_working (loaded : Four (Option Nat)) (s : State) :
    (computeAtten loaded s).working = s.working :=
    rfl
@[simp] theorem computeAtten_applyPending (loaded : Four (Option Nat)) (s : State) :
    (computeAtten loaded s).applyPending = s.applyPending :=
    rfl
@[simp] theorem computeAtten_rau (loaded : Four (Option Nat)) (s : State) : (computeAtten loaded s).rau = s.rau := rfl
@[simp] theorem computeAtten_sig (loaded : Four (Option Nat)) (s : State) : (computeAtten loaded s).sig = s.sig := rfl
@[simp] theorem computeAtten_lane (loaded : Four (Option Nat)) (s : State) : (computeAtten loaded s).lane = s.lane :=
    rfl
@[simp] theorem computeAtten_mapper (loaded : Four (Option Nat)) (s : State) :
    (computeAtten loaded s).mapper = s.mapper :=
    rfl
@[simp] theorem computeAtten_fault (loaded : Four (Option Nat)) (s : State) : (computeAtten loaded s).fault = s.fault :=
    rfl
@[simp] theorem computeAtten_events (loaded : Four (Option Nat)) (s : State) :
    (computeAtten loaded s).events = s.events :=
    rfl
@[simp] theorem computeAtten_hml (loaded : Four (Option Nat)) (s : State) : (computeAtten loaded s).hml = s.hml := rfl
@[simp] theorem computeAtten_freeCount (loaded : Four (Option Nat)) (s : State) :
    (computeAtten loaded s).freeCount = s.freeCount :=
    rfl
@[simp] theorem computeAtten_pending (loaded : Four (Option Nat)) (s : State) :
    (computeAtten loaded s).pending = s.pending :=
    rfl

/-! ### discardShadows -/

@[simp] theorem discardShadows_port (s : State) : (discardShadows s).port = s.port := rfl
@[simp] theorem discardShadows_intake (s : State) : (discardShadows s).intake = s.intake := rfl
@[simp] theorem discardShadows_est (s : State) : (discardShadows s).est = s.est := rfl
@[simp] theorem discardShadows_monitor (s : State) : (discardShadows s).monitor = s.monitor := rfl
@[simp] theorem discardShadows_staged (s : State) : (discardShadows s).staged = s.staged := rfl
@[simp] theorem discardShadows_working (s : State) : (discardShadows s).working = s.working := rfl
@[simp] theorem discardShadows_applyPending (s : State) : (discardShadows s).applyPending = s.applyPending := rfl
@[simp] theorem discardShadows_rau (s : State) : (discardShadows s).rau = s.rau := rfl
@[simp] theorem discardShadows_sig (s : State) : (discardShadows s).sig = s.sig := rfl
@[simp] theorem discardShadows_lane (s : State) : (discardShadows s).lane = s.lane := rfl
@[simp] theorem discardShadows_fault (s : State) : (discardShadows s).fault = s.fault := rfl
@[simp] theorem discardShadows_events (s : State) : (discardShadows s).events = s.events := rfl
@[simp] theorem discardShadows_hml (s : State) : (discardShadows s).hml = s.hml := rfl
@[simp] theorem discardShadows_freeCount (s : State) : (discardShadows s).freeCount = s.freeCount := rfl
@[simp] theorem discardShadows_pending (s : State) : (discardShadows s).pending = s.pending := rfl

/-! ### onEnabledRau -/

@[simp] theorem onEnabledRau_port (s : State) (f : Carrier → RxContext → RxContext) :
    (onEnabledRau s f).port = s.port :=
    rfl
@[simp] theorem onEnabledRau_intake (s : State) (f : Carrier → RxContext → RxContext) :
    (onEnabledRau s f).intake = s.intake :=
    rfl
@[simp] theorem onEnabledRau_est (s : State) (f : Carrier → RxContext → RxContext) : (onEnabledRau s f).est = s.est :=
    rfl
@[simp] theorem onEnabledRau_monitor (s : State) (f : Carrier → RxContext → RxContext) :
    (onEnabledRau s f).monitor = s.monitor :=
    rfl
@[simp] theorem onEnabledRau_staged (s : State) (f : Carrier → RxContext → RxContext) :
    (onEnabledRau s f).staged = s.staged :=
    rfl
@[simp] theorem onEnabledRau_working (s : State) (f : Carrier → RxContext → RxContext) :
    (onEnabledRau s f).working = s.working :=
    rfl
@[simp] theorem onEnabledRau_applyPending (s : State) (f : Carrier → RxContext → RxContext) :
    (onEnabledRau s f).applyPending = s.applyPending :=
    rfl
@[simp] theorem onEnabledRau_sig (s : State) (f : Carrier → RxContext → RxContext) : (onEnabledRau s f).sig = s.sig :=
    rfl
@[simp] theorem onEnabledRau_lane (s : State) (f : Carrier → RxContext → RxContext) :
    (onEnabledRau s f).lane = s.lane :=
    rfl
@[simp] theorem onEnabledRau_pcu (s : State) (f : Carrier → RxContext → RxContext) : (onEnabledRau s f).pcu = s.pcu :=
    rfl
@[simp] theorem onEnabledRau_mapper (s : State) (f : Carrier → RxContext → RxContext) :
    (onEnabledRau s f).mapper = s.mapper :=
    rfl
@[simp] theorem onEnabledRau_fault (s : State) (f : Carrier → RxContext → RxContext) :
    (onEnabledRau s f).fault = s.fault :=
    rfl
@[simp] theorem onEnabledRau_events (s : State) (f : Carrier → RxContext → RxContext) :
    (onEnabledRau s f).events = s.events :=
    rfl
@[simp] theorem onEnabledRau_hml (s : State) (f : Carrier → RxContext → RxContext) : (onEnabledRau s f).hml = s.hml :=
    rfl
@[simp] theorem onEnabledRau_freeCount (s : State) (f : Carrier → RxContext → RxContext) :
    (onEnabledRau s f).freeCount = s.freeCount :=
    rfl
@[simp] theorem onEnabledRau_pending (s : State) (f : Carrier → RxContext → RxContext) :
    (onEnabledRau s f).pending = s.pending :=
    rfl

/-! ### abortLane -/

@[simp] theorem abortLane_port (s : State) : (abortLane s).port = s.port :=
    by unfold abortLane; (repeat' split) <;> simp
@[simp] theorem abortLane_intake (s : State) : (abortLane s).intake = s.intake :=
    by unfold abortLane; (repeat' split) <;> simp
@[simp] theorem abortLane_est (s : State) : (abortLane s).est = s.est := by unfold abortLane; (repeat' split) <;> simp
@[simp] theorem abortLane_monitor (s : State) : (abortLane s).monitor = s.monitor :=
    by unfold abortLane; (repeat' split) <;> simp
@[simp] theorem abortLane_staged (s : State) : (abortLane s).staged = s.staged :=
    by unfold abortLane; (repeat' split) <;> simp
@[simp] theorem abortLane_working (s : State) : (abortLane s).working = s.working :=
    by unfold abortLane; (repeat' split) <;> simp
@[simp] theorem abortLane_applyPending (s : State) : (abortLane s).applyPending = s.applyPending :=
    by unfold abortLane; (repeat' split) <;> simp
@[simp] theorem abortLane_rau (s : State) : (abortLane s).rau = s.rau := by unfold abortLane; (repeat' split) <;> simp
@[simp] theorem abortLane_sig (s : State) : (abortLane s).sig = s.sig := by unfold abortLane; (repeat' split) <;> simp
@[simp] theorem abortLane_fault (s : State) : (abortLane s).fault = s.fault :=
    by unfold abortLane; (repeat' split) <;> simp
@[simp] theorem abortLane_events (s : State) : (abortLane s).events = s.events :=
    by unfold abortLane; (repeat' split) <;> simp
@[simp] theorem abortLane_hml (s : State) : (abortLane s).hml = s.hml := by unfold abortLane; (repeat' split) <;> simp
@[simp] theorem abortLane_freeCount (s : State) : (abortLane s).freeCount = s.freeCount :=
    by unfold abortLane; (repeat' split) <;> simp
@[simp] theorem abortLane_pending (s : State) : (abortLane s).pending = s.pending :=
    by unfold abortLane; (repeat' split) <;> simp

/-! ### linkAbort -/

@[simp] theorem linkAbort_port (cause : AbortCause) (s : State) : (linkAbort cause s).port = s.port :=
    by simp [linkAbort]
@[simp] theorem linkAbort_intake (cause : AbortCause) (s : State) : (linkAbort cause s).intake = s.intake :=
    by simp [linkAbort]
@[simp] theorem linkAbort_est (cause : AbortCause) (s : State) : (linkAbort cause s).est = s.est :=
    by simp [linkAbort]
@[simp] theorem linkAbort_monitor (cause : AbortCause) (s : State) : (linkAbort cause s).monitor = s.monitor :=
    by simp [linkAbort]
@[simp] theorem linkAbort_staged (cause : AbortCause) (s : State) : (linkAbort cause s).staged = s.staged :=
    by simp [linkAbort]
@[simp] theorem linkAbort_working (cause : AbortCause) (s : State) : (linkAbort cause s).working = s.working :=
    by simp [linkAbort]
@[simp] theorem linkAbort_applyPending (cause : AbortCause) (s : State) :
    (linkAbort cause s).applyPending = s.applyPending :=
    by simp [linkAbort]
@[simp] theorem linkAbort_sig (cause : AbortCause) (s : State) : (linkAbort cause s).sig = s.sig :=
    by simp [linkAbort]
@[simp] theorem linkAbort_hml (cause : AbortCause) (s : State) : (linkAbort cause s).hml = s.hml :=
    by simp [linkAbort]
@[simp] theorem linkAbort_freeCount (cause : AbortCause) (s : State) : (linkAbort cause s).freeCount = s.freeCount :=
    by simp [linkAbort]
@[simp] theorem linkAbort_pending (cause : AbortCause) (s : State) : (linkAbort cause s).pending = s.pending :=
    by simp [linkAbort]

/-! ### rederiveDemand -/

@[simp] theorem rederiveDemand_port (held : Bool) (cause : AbortCause) (s : State) :
    (rederiveDemand held cause s).port = s.port :=
    by unfold rederiveDemand; split <;> simp
@[simp] theorem rederiveDemand_intake (held : Bool) (cause : AbortCause) (s : State) :
    (rederiveDemand held cause s).intake = s.intake :=
    by unfold rederiveDemand; split <;> simp
@[simp] theorem rederiveDemand_est (held : Bool) (cause : AbortCause) (s : State) :
    (rederiveDemand held cause s).est = s.est :=
    by unfold rederiveDemand; split <;> simp
@[simp] theorem rederiveDemand_monitor (held : Bool) (cause : AbortCause) (s : State) :
    (rederiveDemand held cause s).monitor = s.monitor :=
    by unfold rederiveDemand; split <;> simp
@[simp] theorem rederiveDemand_staged (held : Bool) (cause : AbortCause) (s : State) :
    (rederiveDemand held cause s).staged = s.staged :=
    by unfold rederiveDemand; split <;> simp
@[simp] theorem rederiveDemand_working (held : Bool) (cause : AbortCause) (s : State) :
    (rederiveDemand held cause s).working = s.working :=
    by unfold rederiveDemand; split <;> simp
@[simp] theorem rederiveDemand_applyPending (held : Bool) (cause : AbortCause) (s : State) :
    (rederiveDemand held cause s).applyPending = s.applyPending :=
    by unfold rederiveDemand; split <;> simp
@[simp] theorem rederiveDemand_sig (held : Bool) (cause : AbortCause) (s : State) :
    (rederiveDemand held cause s).sig = s.sig :=
    by unfold rederiveDemand; split <;> simp
@[simp] theorem rederiveDemand_hml (held : Bool) (cause : AbortCause) (s : State) :
    (rederiveDemand held cause s).hml = s.hml :=
    by unfold rederiveDemand; split <;> simp
@[simp] theorem rederiveDemand_freeCount (held : Bool) (cause : AbortCause) (s : State) :
    (rederiveDemand held cause s).freeCount = s.freeCount :=
    by unfold rederiveDemand; split <;> simp
@[simp] theorem rederiveDemand_pending (held : Bool) (cause : AbortCause) (s : State) :
    (rederiveDemand held cause s).pending = s.pending :=
    by unfold rederiveDemand; split <;> simp

/-! ### storeFarFault -/

@[simp] theorem storeFarFault_port (c : Carrier) (v : Bool) (s : State) : (storeFarFault c v s).port = s.port := rfl
@[simp] theorem storeFarFault_intake (c : Carrier) (v : Bool) (s : State) : (storeFarFault c v s).intake = s.intake :=
    rfl
@[simp] theorem storeFarFault_est (c : Carrier) (v : Bool) (s : State) : (storeFarFault c v s).est = s.est := rfl
@[simp] theorem storeFarFault_monitor (c : Carrier) (v : Bool) (s : State) :
    (storeFarFault c v s).monitor = s.monitor :=
    rfl
@[simp] theorem storeFarFault_staged (c : Carrier) (v : Bool) (s : State) : (storeFarFault c v s).staged = s.staged :=
    rfl
@[simp] theorem storeFarFault_working (c : Carrier) (v : Bool) (s : State) :
    (storeFarFault c v s).working = s.working :=
    rfl
@[simp] theorem storeFarFault_applyPending (c : Carrier) (v : Bool) (s : State) :
    (storeFarFault c v s).applyPending = s.applyPending :=
    rfl
@[simp] theorem storeFarFault_rau (c : Carrier) (v : Bool) (s : State) : (storeFarFault c v s).rau = s.rau := rfl
@[simp] theorem storeFarFault_sig (c : Carrier) (v : Bool) (s : State) : (storeFarFault c v s).sig = s.sig := rfl
@[simp] theorem storeFarFault_lane (c : Carrier) (v : Bool) (s : State) : (storeFarFault c v s).lane = s.lane := rfl
@[simp] theorem storeFarFault_pcu (c : Carrier) (v : Bool) (s : State) : (storeFarFault c v s).pcu = s.pcu := rfl
@[simp] theorem storeFarFault_mapper (c : Carrier) (v : Bool) (s : State) : (storeFarFault c v s).mapper = s.mapper :=
    rfl
@[simp] theorem storeFarFault_events (c : Carrier) (v : Bool) (s : State) : (storeFarFault c v s).events = s.events :=
    rfl
@[simp] theorem storeFarFault_hml (c : Carrier) (v : Bool) (s : State) : (storeFarFault c v s).hml = s.hml := rfl
@[simp] theorem storeFarFault_freeCount (c : Carrier) (v : Bool) (s : State) :
    (storeFarFault c v s).freeCount = s.freeCount :=
    rfl
@[simp] theorem storeFarFault_pending (c : Carrier) (v : Bool) (s : State) :
    (storeFarFault c v s).pending = s.pending :=
    rfl

/-! ### storeSig -/

@[simp] theorem storeSig_port (c : Carrier) (x : SigCarrier) (s : State) : (storeSig c x s).port = s.port := rfl
@[simp] theorem storeSig_intake (c : Carrier) (x : SigCarrier) (s : State) : (storeSig c x s).intake = s.intake := rfl
@[simp] theorem storeSig_est (c : Carrier) (x : SigCarrier) (s : State) : (storeSig c x s).est = s.est := rfl
@[simp] theorem storeSig_monitor (c : Carrier) (x : SigCarrier) (s : State) : (storeSig c x s).monitor = s.monitor :=
    rfl
@[simp] theorem storeSig_staged (c : Carrier) (x : SigCarrier) (s : State) : (storeSig c x s).staged = s.staged := rfl
@[simp] theorem storeSig_working (c : Carrier) (x : SigCarrier) (s : State) : (storeSig c x s).working = s.working :=
    rfl
@[simp] theorem storeSig_applyPending (c : Carrier) (x : SigCarrier) (s : State) :
    (storeSig c x s).applyPending = s.applyPending :=
    rfl
@[simp] theorem storeSig_rau (c : Carrier) (x : SigCarrier) (s : State) : (storeSig c x s).rau = s.rau := rfl
@[simp] theorem storeSig_lane (c : Carrier) (x : SigCarrier) (s : State) : (storeSig c x s).lane = s.lane := rfl
@[simp] theorem storeSig_pcu (c : Carrier) (x : SigCarrier) (s : State) : (storeSig c x s).pcu = s.pcu := rfl
@[simp] theorem storeSig_mapper (c : Carrier) (x : SigCarrier) (s : State) : (storeSig c x s).mapper = s.mapper := rfl
@[simp] theorem storeSig_fault (c : Carrier) (x : SigCarrier) (s : State) : (storeSig c x s).fault = s.fault := rfl
@[simp] theorem storeSig_events (c : Carrier) (x : SigCarrier) (s : State) : (storeSig c x s).events = s.events := rfl
@[simp] theorem storeSig_hml (c : Carrier) (x : SigCarrier) (s : State) : (storeSig c x s).hml = s.hml := rfl
@[simp] theorem storeSig_freeCount (c : Carrier) (x : SigCarrier) (s : State) :
    (storeSig c x s).freeCount = s.freeCount :=
    rfl
@[simp] theorem storeSig_pending (c : Carrier) (x : SigCarrier) (s : State) : (storeSig c x s).pending = s.pending :=
    rfl

/-! ### takeEquipFault -/

@[simp] theorem takeEquipFault_port (c : Carrier) (v : Bool) (s : State) : (takeEquipFault c v s).port = s.port :=
    by unfold takeEquipFault; split <;> simp
@[simp] theorem takeEquipFault_intake (c : Carrier) (v : Bool) (s : State) : (takeEquipFault c v s).intake = s.intake :=
    by unfold takeEquipFault; split <;> simp
@[simp] theorem takeEquipFault_est (c : Carrier) (v : Bool) (s : State) : (takeEquipFault c v s).est = s.est :=
    by unfold takeEquipFault; split <;> simp
@[simp] theorem takeEquipFault_monitor (c : Carrier) (v : Bool) (s : State) :
    (takeEquipFault c v s).monitor = s.monitor :=
    by unfold takeEquipFault; split <;> simp
@[simp] theorem takeEquipFault_staged (c : Carrier) (v : Bool) (s : State) : (takeEquipFault c v s).staged = s.staged :=
    by unfold takeEquipFault; split <;> simp
@[simp] theorem takeEquipFault_working (c : Carrier) (v : Bool) (s : State) :
    (takeEquipFault c v s).working = s.working :=
    by unfold takeEquipFault; split <;> simp
@[simp] theorem takeEquipFault_applyPending (c : Carrier) (v : Bool) (s : State) :
    (takeEquipFault c v s).applyPending = s.applyPending :=
    by unfold takeEquipFault; split <;> simp
@[simp] theorem takeEquipFault_sig (c : Carrier) (v : Bool) (s : State) : (takeEquipFault c v s).sig = s.sig :=
    by unfold takeEquipFault; split <;> simp
@[simp] theorem takeEquipFault_hml (c : Carrier) (v : Bool) (s : State) : (takeEquipFault c v s).hml = s.hml :=
    by unfold takeEquipFault; split <;> simp
@[simp] theorem takeEquipFault_freeCount (c : Carrier) (v : Bool) (s : State) :
    (takeEquipFault c v s).freeCount = s.freeCount :=
    by unfold takeEquipFault; split <;> simp
@[simp] theorem takeEquipFault_pending (c : Carrier) (v : Bool) (s : State) :
    (takeEquipFault c v s).pending = s.pending :=
    by unfold takeEquipFault; split <;> simp

/-! ### takeFaultLevel -/

@[simp] theorem takeFaultLevel_port (v : Bool) (s : State) : (takeFaultLevel v s).port = s.port :=
    by unfold takeFaultLevel; (repeat' split) <;> simp
@[simp] theorem takeFaultLevel_intake (v : Bool) (s : State) : (takeFaultLevel v s).intake = s.intake :=
    by unfold takeFaultLevel; (repeat' split) <;> simp
@[simp] theorem takeFaultLevel_est (v : Bool) (s : State) : (takeFaultLevel v s).est = s.est :=
    by unfold takeFaultLevel; (repeat' split) <;> simp
@[simp] theorem takeFaultLevel_monitor (v : Bool) (s : State) : (takeFaultLevel v s).monitor = s.monitor :=
    by unfold takeFaultLevel; (repeat' split) <;> simp
@[simp] theorem takeFaultLevel_staged (v : Bool) (s : State) : (takeFaultLevel v s).staged = s.staged :=
    by unfold takeFaultLevel; (repeat' split) <;> simp
@[simp] theorem takeFaultLevel_working (v : Bool) (s : State) : (takeFaultLevel v s).working = s.working :=
    by unfold takeFaultLevel; (repeat' split) <;> simp
@[simp] theorem takeFaultLevel_applyPending (v : Bool) (s : State) :
    (takeFaultLevel v s).applyPending = s.applyPending :=
    by unfold takeFaultLevel; (repeat' split) <;> simp
@[simp] theorem takeFaultLevel_sig (v : Bool) (s : State) : (takeFaultLevel v s).sig = s.sig :=
    by unfold takeFaultLevel; (repeat' split) <;> simp
@[simp] theorem takeFaultLevel_hml (v : Bool) (s : State) : (takeFaultLevel v s).hml = s.hml :=
    by unfold takeFaultLevel; (repeat' split) <;> simp
@[simp] theorem takeFaultLevel_freeCount (v : Bool) (s : State) : (takeFaultLevel v s).freeCount = s.freeCount :=
    by unfold takeFaultLevel; (repeat' split) <;> simp
@[simp] theorem takeFaultLevel_pending (v : Bool) (s : State) : (takeFaultLevel v s).pending = s.pending :=
    by unfold takeFaultLevel; (repeat' split) <;> simp

/-! ### rederiveAfterCommit -/

@[simp] theorem rederiveAfterCommit_port (held : Bool) (s : State) : (rederiveAfterCommit held s).port = s.port :=
    by unfold rederiveAfterCommit; split <;> simp
@[simp] theorem rederiveAfterCommit_intake (held : Bool) (s : State) : (rederiveAfterCommit held s).intake = s.intake :=
    by unfold rederiveAfterCommit; split <;> simp
@[simp] theorem rederiveAfterCommit_est (held : Bool) (s : State) : (rederiveAfterCommit held s).est = s.est :=
    by unfold rederiveAfterCommit; split <;> simp
@[simp] theorem rederiveAfterCommit_monitor (held : Bool) (s : State) :
    (rederiveAfterCommit held s).monitor = s.monitor :=
    by unfold rederiveAfterCommit; split <;> simp
@[simp] theorem rederiveAfterCommit_staged (held : Bool) (s : State) : (rederiveAfterCommit held s).staged = s.staged :=
    by unfold rederiveAfterCommit; split <;> simp
@[simp] theorem rederiveAfterCommit_working (held : Bool) (s : State) :
    (rederiveAfterCommit held s).working = s.working :=
    by unfold rederiveAfterCommit; split <;> simp
@[simp] theorem rederiveAfterCommit_applyPending (held : Bool) (s : State) :
    (rederiveAfterCommit held s).applyPending = s.applyPending :=
    by unfold rederiveAfterCommit; split <;> simp
@[simp] theorem rederiveAfterCommit_sig (held : Bool) (s : State) : (rederiveAfterCommit held s).sig = s.sig :=
    by unfold rederiveAfterCommit; split <;> simp
@[simp] theorem rederiveAfterCommit_hml (held : Bool) (s : State) : (rederiveAfterCommit held s).hml = s.hml :=
    by unfold rederiveAfterCommit; split <;> simp
@[simp] theorem rederiveAfterCommit_pending (held : Bool) (s : State) :
    (rederiveAfterCommit held s).pending = s.pending :=
    by unfold rederiveAfterCommit; split <;> simp

/-! ### linkResume -/

@[simp] theorem linkResume_port (s : State) : (linkResume s).port = s.port := by simp [linkResume]
@[simp] theorem linkResume_intake (s : State) : (linkResume s).intake = s.intake := by simp [linkResume]
@[simp] theorem linkResume_est (s : State) : (linkResume s).est = s.est := by simp [linkResume]
@[simp] theorem linkResume_monitor (s : State) : (linkResume s).monitor = s.monitor := by simp [linkResume]
@[simp] theorem linkResume_staged (s : State) : (linkResume s).staged = s.staged := by simp [linkResume]
@[simp] theorem linkResume_working (s : State) : (linkResume s).working = s.working := by simp [linkResume]
@[simp] theorem linkResume_applyPending (s : State) : (linkResume s).applyPending = s.applyPending :=
    by simp [linkResume]
@[simp] theorem linkResume_sig (s : State) : (linkResume s).sig = s.sig := by simp [linkResume]
@[simp] theorem linkResume_lane (s : State) : (linkResume s).lane = s.lane := by simp [linkResume]
@[simp] theorem linkResume_mapper (s : State) : (linkResume s).mapper = s.mapper := by simp [linkResume]
@[simp] theorem linkResume_hml (s : State) : (linkResume s).hml = s.hml := by simp [linkResume]
@[simp] theorem linkResume_freeCount (s : State) : (linkResume s).freeCount = s.freeCount := by simp [linkResume]
@[simp] theorem linkResume_pending (s : State) : (linkResume s).pending = s.pending := by simp [linkResume]

/-! ### storeRau -/

@[simp] theorem storeRau_port (c : Carrier) (x : RxContext × List Report) (s : State) :
    (storeRau c x s).port = s.port :=
    rfl
@[simp] theorem storeRau_intake (c : Carrier) (x : RxContext × List Report) (s : State) :
    (storeRau c x s).intake = s.intake :=
    rfl
@[simp] theorem storeRau_est (c : Carrier) (x : RxContext × List Report) (s : State) : (storeRau c x s).est = s.est :=
    rfl
@[simp] theorem storeRau_monitor (c : Carrier) (x : RxContext × List Report) (s : State) :
    (storeRau c x s).monitor = s.monitor :=
    rfl
@[simp] theorem storeRau_staged (c : Carrier) (x : RxContext × List Report) (s : State) :
    (storeRau c x s).staged = s.staged :=
    rfl
@[simp] theorem storeRau_working (c : Carrier) (x : RxContext × List Report) (s : State) :
    (storeRau c x s).working = s.working :=
    rfl
@[simp] theorem storeRau_applyPending (c : Carrier) (x : RxContext × List Report) (s : State) :
    (storeRau c x s).applyPending = s.applyPending :=
    rfl
@[simp] theorem storeRau_sig (c : Carrier) (x : RxContext × List Report) (s : State) : (storeRau c x s).sig = s.sig :=
    rfl
@[simp] theorem storeRau_lane (c : Carrier) (x : RxContext × List Report) (s : State) :
    (storeRau c x s).lane = s.lane :=
    rfl
@[simp] theorem storeRau_pcu (c : Carrier) (x : RxContext × List Report) (s : State) : (storeRau c x s).pcu = s.pcu :=
    rfl
@[simp] theorem storeRau_mapper (c : Carrier) (x : RxContext × List Report) (s : State) :
    (storeRau c x s).mapper = s.mapper :=
    rfl
@[simp] theorem storeRau_fault (c : Carrier) (x : RxContext × List Report) (s : State) :
    (storeRau c x s).fault = s.fault :=
    rfl
@[simp] theorem storeRau_hml (c : Carrier) (x : RxContext × List Report) (s : State) : (storeRau c x s).hml = s.hml :=
    rfl
@[simp] theorem storeRau_freeCount (c : Carrier) (x : RxContext × List Report) (s : State) :
    (storeRau c x s).freeCount = s.freeCount :=
    rfl
@[simp] theorem storeRau_pending (c : Carrier) (x : RxContext × List Report) (s : State) :
    (storeRau c x s).pending = s.pending :=
    rfl

/-! ### applyLossPolicy -/

@[simp] theorem applyLossPolicy_port (c : Carrier) (s : State) : (applyLossPolicy c s).port = s.port :=
    by unfold applyLossPolicy dropToBase; (repeat' split) <;> simp
@[simp] theorem applyLossPolicy_intake (c : Carrier) (s : State) : (applyLossPolicy c s).intake = s.intake :=
    by unfold applyLossPolicy dropToBase; (repeat' split) <;> simp
@[simp] theorem applyLossPolicy_est (c : Carrier) (s : State) : (applyLossPolicy c s).est = s.est :=
    by unfold applyLossPolicy dropToBase; (repeat' split) <;> simp
@[simp] theorem applyLossPolicy_monitor (c : Carrier) (s : State) : (applyLossPolicy c s).monitor = s.monitor :=
    by unfold applyLossPolicy dropToBase; (repeat' split) <;> simp
@[simp] theorem applyLossPolicy_staged (c : Carrier) (s : State) : (applyLossPolicy c s).staged = s.staged :=
    by unfold applyLossPolicy dropToBase; (repeat' split) <;> simp
@[simp] theorem applyLossPolicy_working (c : Carrier) (s : State) : (applyLossPolicy c s).working = s.working :=
    by unfold applyLossPolicy dropToBase; (repeat' split) <;> simp
@[simp] theorem applyLossPolicy_applyPending (c : Carrier) (s : State) :
    (applyLossPolicy c s).applyPending = s.applyPending :=
    by unfold applyLossPolicy dropToBase; (repeat' split) <;> simp
@[simp] theorem applyLossPolicy_rau (c : Carrier) (s : State) : (applyLossPolicy c s).rau = s.rau :=
    by unfold applyLossPolicy dropToBase; (repeat' split) <;> simp
@[simp] theorem applyLossPolicy_sig (c : Carrier) (s : State) : (applyLossPolicy c s).sig = s.sig :=
    by unfold applyLossPolicy dropToBase; (repeat' split) <;> simp
@[simp] theorem applyLossPolicy_pcu (c : Carrier) (s : State) : (applyLossPolicy c s).pcu = s.pcu :=
    by unfold applyLossPolicy dropToBase; (repeat' split) <;> simp
@[simp] theorem applyLossPolicy_mapper (c : Carrier) (s : State) : (applyLossPolicy c s).mapper = s.mapper :=
    by unfold applyLossPolicy dropToBase; (repeat' split) <;> simp
@[simp] theorem applyLossPolicy_fault (c : Carrier) (s : State) : (applyLossPolicy c s).fault = s.fault :=
    by unfold applyLossPolicy dropToBase; (repeat' split) <;> simp
@[simp] theorem applyLossPolicy_events (c : Carrier) (s : State) : (applyLossPolicy c s).events = s.events :=
    by unfold applyLossPolicy dropToBase; (repeat' split) <;> simp
@[simp] theorem applyLossPolicy_hml (c : Carrier) (s : State) : (applyLossPolicy c s).hml = s.hml :=
    by unfold applyLossPolicy dropToBase; (repeat' split) <;> simp
@[simp] theorem applyLossPolicy_freeCount (c : Carrier) (s : State) : (applyLossPolicy c s).freeCount = s.freeCount :=
    by unfold applyLossPolicy dropToBase; (repeat' split) <;> simp
@[simp] theorem applyLossPolicy_pending (c : Carrier) (s : State) : (applyLossPolicy c s).pending = s.pending :=
    by unfold applyLossPolicy dropToBase; (repeat' split) <;> simp

/-! ### enterSigLost -/

@[simp] theorem enterSigLost_port (c : Carrier) (s : State) : (enterSigLost c s).port = s.port :=
    by simp [enterSigLost]
@[simp] theorem enterSigLost_intake (c : Carrier) (s : State) : (enterSigLost c s).intake = s.intake :=
    by simp [enterSigLost]
@[simp] theorem enterSigLost_est (c : Carrier) (s : State) : (enterSigLost c s).est = s.est := by simp [enterSigLost]
@[simp] theorem enterSigLost_monitor (c : Carrier) (s : State) : (enterSigLost c s).monitor = s.monitor :=
    by simp [enterSigLost]
@[simp] theorem enterSigLost_staged (c : Carrier) (s : State) : (enterSigLost c s).staged = s.staged :=
    by simp [enterSigLost]
@[simp] theorem enterSigLost_working (c : Carrier) (s : State) : (enterSigLost c s).working = s.working :=
    by simp [enterSigLost]
@[simp] theorem enterSigLost_applyPending (c : Carrier) (s : State) :
    (enterSigLost c s).applyPending = s.applyPending :=
    by simp [enterSigLost]
@[simp] theorem enterSigLost_mapper (c : Carrier) (s : State) : (enterSigLost c s).mapper = s.mapper :=
    by simp [enterSigLost]
@[simp] theorem enterSigLost_fault (c : Carrier) (s : State) : (enterSigLost c s).fault = s.fault :=
    by simp [enterSigLost]
@[simp] theorem enterSigLost_hml (c : Carrier) (s : State) : (enterSigLost c s).hml = s.hml := by simp [enterSigLost]
@[simp] theorem enterSigLost_freeCount (c : Carrier) (s : State) : (enterSigLost c s).freeCount = s.freeCount :=
    by simp [enterSigLost]
@[simp] theorem enterSigLost_pending (c : Carrier) (s : State) : (enterSigLost c s).pending = s.pending :=
    by simp [enterSigLost]

/-! ### recoverSig -/

@[simp] theorem recoverSig_port (c : Carrier) (s : State) : (recoverSig c s).port = s.port := by simp [recoverSig]
@[simp] theorem recoverSig_intake (c : Carrier) (s : State) : (recoverSig c s).intake = s.intake :=
    by simp [recoverSig]
@[simp] theorem recoverSig_est (c : Carrier) (s : State) : (recoverSig c s).est = s.est := by simp [recoverSig]
@[simp] theorem recoverSig_monitor (c : Carrier) (s : State) : (recoverSig c s).monitor = s.monitor :=
    by simp [recoverSig]
@[simp] theorem recoverSig_staged (c : Carrier) (s : State) : (recoverSig c s).staged = s.staged :=
    by simp [recoverSig]
@[simp] theorem recoverSig_working (c : Carrier) (s : State) : (recoverSig c s).working = s.working :=
    by simp [recoverSig]
@[simp] theorem recoverSig_applyPending (c : Carrier) (s : State) : (recoverSig c s).applyPending = s.applyPending :=
    by simp [recoverSig]
@[simp] theorem recoverSig_lane (c : Carrier) (s : State) : (recoverSig c s).lane = s.lane := by simp [recoverSig]
@[simp] theorem recoverSig_mapper (c : Carrier) (s : State) : (recoverSig c s).mapper = s.mapper :=
    by simp [recoverSig]
@[simp] theorem recoverSig_fault (c : Carrier) (s : State) : (recoverSig c s).fault = s.fault := by simp [recoverSig]
@[simp] theorem recoverSig_hml (c : Carrier) (s : State) : (recoverSig c s).hml = s.hml := by simp [recoverSig]
@[simp] theorem recoverSig_freeCount (c : Carrier) (s : State) : (recoverSig c s).freeCount = s.freeCount :=
    by simp [recoverSig]
@[simp] theorem recoverSig_pending (c : Carrier) (s : State) : (recoverSig c s).pending = s.pending :=
    by simp [recoverSig]

/-! ### routeFull -/

@[simp] theorem routeFull_port (c : Carrier) (p : FieldParts) (ans : AnsKind) (s : State) :
    (routeFull c p ans s).port = s.port :=
    by simp [routeFull, routeToReceive, routeToLane]
@[simp] theorem routeFull_intake (c : Carrier) (p : FieldParts) (ans : AnsKind) (s : State) :
    (routeFull c p ans s).intake = s.intake :=
    by simp [routeFull, routeToReceive, routeToLane]
@[simp] theorem routeFull_est (c : Carrier) (p : FieldParts) (ans : AnsKind) (s : State) :
    (routeFull c p ans s).est = s.est :=
    by simp [routeFull, routeToReceive, routeToLane]
@[simp] theorem routeFull_monitor (c : Carrier) (p : FieldParts) (ans : AnsKind) (s : State) :
    (routeFull c p ans s).monitor = s.monitor :=
    by simp [routeFull, routeToReceive, routeToLane]
@[simp] theorem routeFull_staged (c : Carrier) (p : FieldParts) (ans : AnsKind) (s : State) :
    (routeFull c p ans s).staged = s.staged :=
    by simp [routeFull, routeToReceive, routeToLane]
@[simp] theorem routeFull_working (c : Carrier) (p : FieldParts) (ans : AnsKind) (s : State) :
    (routeFull c p ans s).working = s.working :=
    by simp [routeFull, routeToReceive, routeToLane]
@[simp] theorem routeFull_applyPending (c : Carrier) (p : FieldParts) (ans : AnsKind) (s : State) :
    (routeFull c p ans s).applyPending = s.applyPending :=
    by simp [routeFull, routeToReceive, routeToLane]
@[simp] theorem routeFull_sig (c : Carrier) (p : FieldParts) (ans : AnsKind) (s : State) :
    (routeFull c p ans s).sig = s.sig :=
    by simp [routeFull, routeToReceive, routeToLane]
@[simp] theorem routeFull_hml (c : Carrier) (p : FieldParts) (ans : AnsKind) (s : State) :
    (routeFull c p ans s).hml = s.hml :=
    by simp [routeFull, routeToReceive, routeToLane]
@[simp] theorem routeFull_freeCount (c : Carrier) (p : FieldParts) (ans : AnsKind) (s : State) :
    (routeFull c p ans s).freeCount = s.freeCount :=
    by simp [routeFull, routeToReceive, routeToLane]
@[simp] theorem routeFull_pending (c : Carrier) (p : FieldParts) (ans : AnsKind) (s : State) :
    (routeFull c p ans s).pending = s.pending :=
    by simp [routeFull, routeToReceive, routeToLane]

/-! ### routePart -/

@[simp] theorem routePart_port (c : Carrier) (p : FieldParts) (ans : AnsKind) (s : State) :
    (routePart c p ans s).port = s.port :=
    by simp [routePart, routeToReceive]
@[simp] theorem routePart_intake (c : Carrier) (p : FieldParts) (ans : AnsKind) (s : State) :
    (routePart c p ans s).intake = s.intake :=
    by simp [routePart, routeToReceive]
@[simp] theorem routePart_est (c : Carrier) (p : FieldParts) (ans : AnsKind) (s : State) :
    (routePart c p ans s).est = s.est :=
    by simp [routePart, routeToReceive]
@[simp] theorem routePart_monitor (c : Carrier) (p : FieldParts) (ans : AnsKind) (s : State) :
    (routePart c p ans s).monitor = s.monitor :=
    by simp [routePart, routeToReceive]
@[simp] theorem routePart_staged (c : Carrier) (p : FieldParts) (ans : AnsKind) (s : State) :
    (routePart c p ans s).staged = s.staged :=
    by simp [routePart, routeToReceive]
@[simp] theorem routePart_working (c : Carrier) (p : FieldParts) (ans : AnsKind) (s : State) :
    (routePart c p ans s).working = s.working :=
    by simp [routePart, routeToReceive]
@[simp] theorem routePart_applyPending (c : Carrier) (p : FieldParts) (ans : AnsKind) (s : State) :
    (routePart c p ans s).applyPending = s.applyPending :=
    by simp [routePart, routeToReceive]
@[simp] theorem routePart_sig (c : Carrier) (p : FieldParts) (ans : AnsKind) (s : State) :
    (routePart c p ans s).sig = s.sig :=
    by simp [routePart, routeToReceive]
@[simp] theorem routePart_hml (c : Carrier) (p : FieldParts) (ans : AnsKind) (s : State) :
    (routePart c p ans s).hml = s.hml :=
    by simp [routePart, routeToReceive]
@[simp] theorem routePart_freeCount (c : Carrier) (p : FieldParts) (ans : AnsKind) (s : State) :
    (routePart c p ans s).freeCount = s.freeCount :=
    by simp [routePart, routeToReceive]
@[simp] theorem routePart_pending (c : Carrier) (p : FieldParts) (ans : AnsKind) (s : State) :
    (routePart c p ans s).pending = s.pending :=
    by simp [routePart, routeToReceive]

/-! ### takeInvalid -/

@[simp] theorem takeInvalid_port (c : Carrier) (s : State) : (takeInvalid c s).port = s.port :=
    by unfold takeInvalid; dsimp only; (repeat' split) <;> simp
@[simp] theorem takeInvalid_intake (c : Carrier) (s : State) : (takeInvalid c s).intake = s.intake :=
    by unfold takeInvalid; dsimp only; (repeat' split) <;> simp
@[simp] theorem takeInvalid_est (c : Carrier) (s : State) : (takeInvalid c s).est = s.est :=
    by unfold takeInvalid; dsimp only; (repeat' split) <;> simp
@[simp] theorem takeInvalid_monitor (c : Carrier) (s : State) : (takeInvalid c s).monitor = s.monitor :=
    by unfold takeInvalid; dsimp only; (repeat' split) <;> simp
@[simp] theorem takeInvalid_staged (c : Carrier) (s : State) : (takeInvalid c s).staged = s.staged :=
    by unfold takeInvalid; dsimp only; (repeat' split) <;> simp
@[simp] theorem takeInvalid_working (c : Carrier) (s : State) : (takeInvalid c s).working = s.working :=
    by unfold takeInvalid; dsimp only; (repeat' split) <;> simp
@[simp] theorem takeInvalid_applyPending (c : Carrier) (s : State) : (takeInvalid c s).applyPending = s.applyPending :=
    by unfold takeInvalid; dsimp only; (repeat' split) <;> simp
@[simp] theorem takeInvalid_mapper (c : Carrier) (s : State) : (takeInvalid c s).mapper = s.mapper :=
    by unfold takeInvalid; dsimp only; (repeat' split) <;> simp
@[simp] theorem takeInvalid_fault (c : Carrier) (s : State) : (takeInvalid c s).fault = s.fault :=
    by unfold takeInvalid; dsimp only; (repeat' split) <;> simp
@[simp] theorem takeInvalid_hml (c : Carrier) (s : State) : (takeInvalid c s).hml = s.hml :=
    by unfold takeInvalid; dsimp only; (repeat' split) <;> simp
@[simp] theorem takeInvalid_freeCount (c : Carrier) (s : State) : (takeInvalid c s).freeCount = s.freeCount :=
    by unfold takeInvalid; dsimp only; (repeat' split) <;> simp
@[simp] theorem takeInvalid_pending (c : Carrier) (s : State) : (takeInvalid c s).pending = s.pending :=
    by unfold takeInvalid; dsimp only; (repeat' split) <;> simp

/-! ### takeValid -/

@[simp] theorem takeValid_port (c : Carrier) (f : RawField) (ans : AnsKind) (s : State) :
    (takeValid c f ans s).port = s.port :=
    by unfold takeValid; dsimp only; (repeat' split) <;> simp
@[simp] theorem takeValid_intake (c : Carrier) (f : RawField) (ans : AnsKind) (s : State) :
    (takeValid c f ans s).intake = s.intake :=
    by unfold takeValid; dsimp only; (repeat' split) <;> simp
@[simp] theorem takeValid_est (c : Carrier) (f : RawField) (ans : AnsKind) (s : State) :
    (takeValid c f ans s).est = s.est :=
    by unfold takeValid; dsimp only; (repeat' split) <;> simp
@[simp] theorem takeValid_monitor (c : Carrier) (f : RawField) (ans : AnsKind) (s : State) :
    (takeValid c f ans s).monitor = s.monitor :=
    by unfold takeValid; dsimp only; (repeat' split) <;> simp
@[simp] theorem takeValid_staged (c : Carrier) (f : RawField) (ans : AnsKind) (s : State) :
    (takeValid c f ans s).staged = s.staged :=
    by unfold takeValid; dsimp only; (repeat' split) <;> simp
@[simp] theorem takeValid_working (c : Carrier) (f : RawField) (ans : AnsKind) (s : State) :
    (takeValid c f ans s).working = s.working :=
    by unfold takeValid; dsimp only; (repeat' split) <;> simp
@[simp] theorem takeValid_applyPending (c : Carrier) (f : RawField) (ans : AnsKind) (s : State) :
    (takeValid c f ans s).applyPending = s.applyPending :=
    by unfold takeValid; dsimp only; (repeat' split) <;> simp
@[simp] theorem takeValid_hml (c : Carrier) (f : RawField) (ans : AnsKind) (s : State) :
    (takeValid c f ans s).hml = s.hml :=
    by unfold takeValid; dsimp only; (repeat' split) <;> simp
@[simp] theorem takeValid_freeCount (c : Carrier) (f : RawField) (ans : AnsKind) (s : State) :
    (takeValid c f ans s).freeCount = s.freeCount :=
    by unfold takeValid; dsimp only; (repeat' split) <;> simp
@[simp] theorem takeValid_pending (c : Carrier) (f : RawField) (ans : AnsKind) (s : State) :
    (takeValid c f ans s).pending = s.pending :=
    by unfold takeValid; dsimp only; (repeat' split) <;> simp

/-! ### handField -/

@[simp] theorem handField_port (c : Carrier) (field : Option RawField) (s : State) :
    (handField c field s).port = s.port :=
    by unfold handField; (repeat' split) <;> simp
@[simp] theorem handField_intake (c : Carrier) (field : Option RawField) (s : State) :
    (handField c field s).intake = s.intake :=
    by unfold handField; (repeat' split) <;> simp
@[simp] theorem handField_est (c : Carrier) (field : Option RawField) (s : State) : (handField c field s).est = s.est :=
    by unfold handField; (repeat' split) <;> simp
@[simp] theorem handField_monitor (c : Carrier) (field : Option RawField) (s : State) :
    (handField c field s).monitor = s.monitor :=
    by unfold handField; (repeat' split) <;> simp
@[simp] theorem handField_staged (c : Carrier) (field : Option RawField) (s : State) :
    (handField c field s).staged = s.staged :=
    by unfold handField; (repeat' split) <;> simp
@[simp] theorem handField_working (c : Carrier) (field : Option RawField) (s : State) :
    (handField c field s).working = s.working :=
    by unfold handField; (repeat' split) <;> simp
@[simp] theorem handField_applyPending (c : Carrier) (field : Option RawField) (s : State) :
    (handField c field s).applyPending = s.applyPending :=
    by unfold handField; (repeat' split) <;> simp
@[simp] theorem handField_hml (c : Carrier) (field : Option RawField) (s : State) : (handField c field s).hml = s.hml :=
    by unfold handField; (repeat' split) <;> simp
@[simp] theorem handField_freeCount (c : Carrier) (field : Option RawField) (s : State) :
    (handField c field s).freeCount = s.freeCount :=
    by unfold handField; (repeat' split) <;> simp
@[simp] theorem handField_pending (c : Carrier) (field : Option RawField) (s : State) :
    (handField c field s).pending = s.pending :=
    by unfold handField; (repeat' split) <;> simp

/-! ### takeReport -/

@[simp] theorem takeReport_port (c : Carrier) (a b : Option BranchPart) (errors : Nat) (s : State) :
    (takeReport c a b errors s).port = s.port :=
    by unfold takeReport; simp only; split <;> simp
@[simp] theorem takeReport_intake (c : Carrier) (a b : Option BranchPart) (errors : Nat) (s : State) :
    (takeReport c a b errors s).intake = s.intake :=
    by unfold takeReport; simp only; split <;> simp
@[simp] theorem takeReport_monitor (c : Carrier) (a b : Option BranchPart) (errors : Nat) (s : State) :
    (takeReport c a b errors s).monitor = s.monitor :=
    by unfold takeReport; simp only; split <;> simp
@[simp] theorem takeReport_staged (c : Carrier) (a b : Option BranchPart) (errors : Nat) (s : State) :
    (takeReport c a b errors s).staged = s.staged :=
    by unfold takeReport; simp only; split <;> simp
@[simp] theorem takeReport_working (c : Carrier) (a b : Option BranchPart) (errors : Nat) (s : State) :
    (takeReport c a b errors s).working = s.working :=
    by unfold takeReport; simp only; split <;> simp
@[simp] theorem takeReport_applyPending (c : Carrier) (a b : Option BranchPart) (errors : Nat) (s : State) :
    (takeReport c a b errors s).applyPending = s.applyPending :=
    by unfold takeReport; simp only; split <;> simp
@[simp] theorem takeReport_sig (c : Carrier) (a b : Option BranchPart) (errors : Nat) (s : State) :
    (takeReport c a b errors s).sig = s.sig :=
    by unfold takeReport; simp only; split <;> simp
@[simp] theorem takeReport_lane (c : Carrier) (a b : Option BranchPart) (errors : Nat) (s : State) :
    (takeReport c a b errors s).lane = s.lane :=
    by unfold takeReport; simp only; split <;> simp
@[simp] theorem takeReport_pcu (c : Carrier) (a b : Option BranchPart) (errors : Nat) (s : State) :
    (takeReport c a b errors s).pcu = s.pcu :=
    by unfold takeReport; simp only; split <;> simp
@[simp] theorem takeReport_mapper (c : Carrier) (a b : Option BranchPart) (errors : Nat) (s : State) :
    (takeReport c a b errors s).mapper = s.mapper :=
    by unfold takeReport; simp only; split <;> simp
@[simp] theorem takeReport_fault (c : Carrier) (a b : Option BranchPart) (errors : Nat) (s : State) :
    (takeReport c a b errors s).fault = s.fault :=
    by unfold takeReport; simp only; split <;> simp
@[simp] theorem takeReport_hml (c : Carrier) (a b : Option BranchPart) (errors : Nat) (s : State) :
    (takeReport c a b errors s).hml = s.hml :=
    by unfold takeReport; simp only; split <;> simp
@[simp] theorem takeReport_freeCount (c : Carrier) (a b : Option BranchPart) (errors : Nat) (s : State) :
    (takeReport c a b errors s).freeCount = s.freeCount :=
    by unfold takeReport; simp only; split <;> simp
@[simp] theorem takeReport_pending (c : Carrier) (a b : Option BranchPart) (errors : Nat) (s : State) :
    (takeReport c a b errors s).pending = s.pending :=
    by unfold takeReport; simp only; split <;> simp

/-! ### takeBlinds -/

@[simp] theorem takeBlinds_port (counted : Four Bool) (s : State) : (takeBlinds counted s).port = s.port := by
  refine foldl_keeps (fun t : State => t.port) _ (fun t c => ?_) _ _
  split <;> simp [takeBlind]
@[simp] theorem takeBlinds_intake (counted : Four Bool) (s : State) : (takeBlinds counted s).intake = s.intake := by
  refine foldl_keeps (fun t : State => t.intake) _ (fun t c => ?_) _ _
  split <;> simp [takeBlind]
@[simp] theorem takeBlinds_monitor (counted : Four Bool) (s : State) : (takeBlinds counted s).monitor = s.monitor := by
  refine foldl_keeps (fun t : State => t.monitor) _ (fun t c => ?_) _ _
  split <;> simp [takeBlind]
@[simp] theorem takeBlinds_staged (counted : Four Bool) (s : State) : (takeBlinds counted s).staged = s.staged := by
  refine foldl_keeps (fun t : State => t.staged) _ (fun t c => ?_) _ _
  split <;> simp [takeBlind]
@[simp] theorem takeBlinds_working (counted : Four Bool) (s : State) : (takeBlinds counted s).working = s.working := by
  refine foldl_keeps (fun t : State => t.working) _ (fun t c => ?_) _ _
  split <;> simp [takeBlind]
@[simp] theorem takeBlinds_applyPending (counted : Four Bool) (s : State) :
    (takeBlinds counted s).applyPending = s.applyPending := by
  refine foldl_keeps (fun t : State => t.applyPending) _ (fun t c => ?_) _ _
  split <;> simp [takeBlind]
@[simp] theorem takeBlinds_sig (counted : Four Bool) (s : State) : (takeBlinds counted s).sig = s.sig := by
  refine foldl_keeps (fun t : State => t.sig) _ (fun t c => ?_) _ _
  split <;> simp [takeBlind]
@[simp] theorem takeBlinds_lane (counted : Four Bool) (s : State) : (takeBlinds counted s).lane = s.lane := by
  refine foldl_keeps (fun t : State => t.lane) _ (fun t c => ?_) _ _
  split <;> simp [takeBlind]
@[simp] theorem takeBlinds_pcu (counted : Four Bool) (s : State) : (takeBlinds counted s).pcu = s.pcu := by
  refine foldl_keeps (fun t : State => t.pcu) _ (fun t c => ?_) _ _
  split <;> simp [takeBlind]
@[simp] theorem takeBlinds_mapper (counted : Four Bool) (s : State) : (takeBlinds counted s).mapper = s.mapper := by
  refine foldl_keeps (fun t : State => t.mapper) _ (fun t c => ?_) _ _
  split <;> simp [takeBlind]
@[simp] theorem takeBlinds_fault (counted : Four Bool) (s : State) : (takeBlinds counted s).fault = s.fault := by
  refine foldl_keeps (fun t : State => t.fault) _ (fun t c => ?_) _ _
  split <;> simp [takeBlind]
@[simp] theorem takeBlinds_hml (counted : Four Bool) (s : State) : (takeBlinds counted s).hml = s.hml := by
  refine foldl_keeps (fun t : State => t.hml) _ (fun t c => ?_) _ _
  split <;> simp [takeBlind]
@[simp] theorem takeBlinds_freeCount (counted : Four Bool) (s : State) :
    (takeBlinds counted s).freeCount = s.freeCount := by
  refine foldl_keeps (fun t : State => t.freeCount) _ (fun t c => ?_) _ _
  split <;> simp [takeBlind]
@[simp] theorem takeBlinds_pending (counted : Four Bool) (s : State) : (takeBlinds counted s).pending = s.pending := by
  refine foldl_keeps (fun t : State => t.pending) _ (fun t c => ?_) _ _
  split <;> simp [takeBlind]

/-! ### takeNotices -/

@[simp] theorem takeNotices_port (missing : Four Bool) (s : State) : (takeNotices missing s).port = s.port := by
  refine foldl_keeps (fun t : State => t.port) _ (fun t c => ?_) _ _
  split <;> simp
@[simp] theorem takeNotices_intake (missing : Four Bool) (s : State) : (takeNotices missing s).intake = s.intake := by
  refine foldl_keeps (fun t : State => t.intake) _ (fun t c => ?_) _ _
  split <;> simp
@[simp] theorem takeNotices_est (missing : Four Bool) (s : State) : (takeNotices missing s).est = s.est := by
  refine foldl_keeps (fun t : State => t.est) _ (fun t c => ?_) _ _
  split <;> simp
@[simp] theorem takeNotices_monitor (missing : Four Bool) (s : State) :
    (takeNotices missing s).monitor = s.monitor := by
  refine foldl_keeps (fun t : State => t.monitor) _ (fun t c => ?_) _ _
  split <;> simp
@[simp] theorem takeNotices_staged (missing : Four Bool) (s : State) : (takeNotices missing s).staged = s.staged := by
  refine foldl_keeps (fun t : State => t.staged) _ (fun t c => ?_) _ _
  split <;> simp
@[simp] theorem takeNotices_working (missing : Four Bool) (s : State) :
    (takeNotices missing s).working = s.working := by
  refine foldl_keeps (fun t : State => t.working) _ (fun t c => ?_) _ _
  split <;> simp
@[simp] theorem takeNotices_applyPending (missing : Four Bool) (s : State) :
    (takeNotices missing s).applyPending = s.applyPending := by
  refine foldl_keeps (fun t : State => t.applyPending) _ (fun t c => ?_) _ _
  split <;> simp
@[simp] theorem takeNotices_hml (missing : Four Bool) (s : State) : (takeNotices missing s).hml = s.hml := by
  refine foldl_keeps (fun t : State => t.hml) _ (fun t c => ?_) _ _
  split <;> simp
@[simp] theorem takeNotices_freeCount (missing : Four Bool) (s : State) :
    (takeNotices missing s).freeCount = s.freeCount := by
  refine foldl_keeps (fun t : State => t.freeCount) _ (fun t c => ?_) _ _
  split <;> simp
@[simp] theorem takeNotices_pending (missing : Four Bool) (s : State) :
    (takeNotices missing s).pending = s.pending := by
  refine foldl_keeps (fun t : State => t.pending) _ (fun t c => ?_) _ _
  split <;> simp

/-! ### rauWork -/

@[simp] theorem rauWork_port (s : State) : (rauWork s).port = s.port := rfl
@[simp] theorem rauWork_intake (s : State) : (rauWork s).intake = s.intake := rfl
@[simp] theorem rauWork_est (s : State) : (rauWork s).est = s.est := rfl
@[simp] theorem rauWork_monitor (s : State) : (rauWork s).monitor = s.monitor := rfl
@[simp] theorem rauWork_staged (s : State) : (rauWork s).staged = s.staged := rfl
@[simp] theorem rauWork_working (s : State) : (rauWork s).working = s.working := rfl
@[simp] theorem rauWork_applyPending (s : State) : (rauWork s).applyPending = s.applyPending := rfl
@[simp] theorem rauWork_sig (s : State) : (rauWork s).sig = s.sig := rfl
@[simp] theorem rauWork_lane (s : State) : (rauWork s).lane = s.lane := rfl
@[simp] theorem rauWork_pcu (s : State) : (rauWork s).pcu = s.pcu := rfl
@[simp] theorem rauWork_mapper (s : State) : (rauWork s).mapper = s.mapper := rfl
@[simp] theorem rauWork_fault (s : State) : (rauWork s).fault = s.fault := rfl
@[simp] theorem rauWork_hml (s : State) : (rauWork s).hml = s.hml := rfl
@[simp] theorem rauWork_freeCount (s : State) : (rauWork s).freeCount = s.freeCount := rfl
@[simp] theorem rauWork_pending (s : State) : (rauWork s).pending = s.pending := rfl

/-! ### mapperWork -/

@[simp] theorem mapperWork_port (s : State) : (mapperWork s).port = s.port := rfl
@[simp] theorem mapperWork_intake (s : State) : (mapperWork s).intake = s.intake := rfl
@[simp] theorem mapperWork_est (s : State) : (mapperWork s).est = s.est := rfl
@[simp] theorem mapperWork_monitor (s : State) : (mapperWork s).monitor = s.monitor := rfl
@[simp] theorem mapperWork_staged (s : State) : (mapperWork s).staged = s.staged := rfl
@[simp] theorem mapperWork_working (s : State) : (mapperWork s).working = s.working := rfl
@[simp] theorem mapperWork_applyPending (s : State) : (mapperWork s).applyPending = s.applyPending := rfl
@[simp] theorem mapperWork_rau (s : State) : (mapperWork s).rau = s.rau := rfl
@[simp] theorem mapperWork_sig (s : State) : (mapperWork s).sig = s.sig := rfl
@[simp] theorem mapperWork_lane (s : State) : (mapperWork s).lane = s.lane := rfl
@[simp] theorem mapperWork_pcu (s : State) : (mapperWork s).pcu = s.pcu := rfl
@[simp] theorem mapperWork_fault (s : State) : (mapperWork s).fault = s.fault := rfl
@[simp] theorem mapperWork_hml (s : State) : (mapperWork s).hml = s.hml := rfl
@[simp] theorem mapperWork_freeCount (s : State) : (mapperWork s).freeCount = s.freeCount := rfl
@[simp] theorem mapperWork_pending (s : State) : (mapperWork s).pending = s.pending := rfl

/-! ### powerWork -/

@[simp] theorem powerWork_port (s : State) : (powerWork s).port = s.port := rfl
@[simp] theorem powerWork_intake (s : State) : (powerWork s).intake = s.intake := rfl
@[simp] theorem powerWork_est (s : State) : (powerWork s).est = s.est := rfl
@[simp] theorem powerWork_monitor (s : State) : (powerWork s).monitor = s.monitor := rfl
@[simp] theorem powerWork_staged (s : State) : (powerWork s).staged = s.staged := rfl
@[simp] theorem powerWork_working (s : State) : (powerWork s).working = s.working := rfl
@[simp] theorem powerWork_applyPending (s : State) : (powerWork s).applyPending = s.applyPending := rfl
@[simp] theorem powerWork_rau (s : State) : (powerWork s).rau = s.rau := rfl
@[simp] theorem powerWork_sig (s : State) : (powerWork s).sig = s.sig := rfl
@[simp] theorem powerWork_lane (s : State) : (powerWork s).lane = s.lane := rfl
@[simp] theorem powerWork_mapper (s : State) : (powerWork s).mapper = s.mapper := rfl
@[simp] theorem powerWork_fault (s : State) : (powerWork s).fault = s.fault := rfl
@[simp] theorem powerWork_events (s : State) : (powerWork s).events = s.events := rfl
@[simp] theorem powerWork_hml (s : State) : (powerWork s).hml = s.hml := rfl
@[simp] theorem powerWork_freeCount (s : State) : (powerWork s).freeCount = s.freeCount := rfl
@[simp] theorem powerWork_pending (s : State) : (powerWork s).pending = s.pending := rfl

/-! ### laneStep1 -/

@[simp] theorem laneStep1_port (s : State) : (laneStep1 s).port = s.port := rfl
@[simp] theorem laneStep1_intake (s : State) : (laneStep1 s).intake = s.intake := rfl
@[simp] theorem laneStep1_est (s : State) : (laneStep1 s).est = s.est := rfl
@[simp] theorem laneStep1_monitor (s : State) : (laneStep1 s).monitor = s.monitor := rfl
@[simp] theorem laneStep1_staged (s : State) : (laneStep1 s).staged = s.staged := rfl
@[simp] theorem laneStep1_working (s : State) : (laneStep1 s).working = s.working := rfl
@[simp] theorem laneStep1_applyPending (s : State) : (laneStep1 s).applyPending = s.applyPending := rfl
@[simp] theorem laneStep1_rau (s : State) : (laneStep1 s).rau = s.rau := rfl
@[simp] theorem laneStep1_sig (s : State) : (laneStep1 s).sig = s.sig := rfl
@[simp] theorem laneStep1_pcu (s : State) : (laneStep1 s).pcu = s.pcu := rfl
@[simp] theorem laneStep1_mapper (s : State) : (laneStep1 s).mapper = s.mapper := rfl
@[simp] theorem laneStep1_fault (s : State) : (laneStep1 s).fault = s.fault := rfl
@[simp] theorem laneStep1_hml (s : State) : (laneStep1 s).hml = s.hml := rfl
@[simp] theorem laneStep1_freeCount (s : State) : (laneStep1 s).freeCount = s.freeCount := rfl
@[simp] theorem laneStep1_pending (s : State) : (laneStep1 s).pending = s.pending := rfl

/-! ### handAnnouncement -/

@[simp] theorem handAnnouncement_port (s : State) : (handAnnouncement s).port = s.port :=
    by unfold handAnnouncement; split <;> simp
@[simp] theorem handAnnouncement_intake (s : State) : (handAnnouncement s).intake = s.intake :=
    by unfold handAnnouncement; split <;> simp
@[simp] theorem handAnnouncement_est (s : State) : (handAnnouncement s).est = s.est :=
    by unfold handAnnouncement; split <;> simp
@[simp] theorem handAnnouncement_monitor (s : State) : (handAnnouncement s).monitor = s.monitor :=
    by unfold handAnnouncement; split <;> simp
@[simp] theorem handAnnouncement_staged (s : State) : (handAnnouncement s).staged = s.staged :=
    by unfold handAnnouncement; split <;> simp
@[simp] theorem handAnnouncement_working (s : State) : (handAnnouncement s).working = s.working :=
    by unfold handAnnouncement; split <;> simp
@[simp] theorem handAnnouncement_applyPending (s : State) : (handAnnouncement s).applyPending = s.applyPending :=
    by unfold handAnnouncement; split <;> simp
@[simp] theorem handAnnouncement_rau (s : State) : (handAnnouncement s).rau = s.rau :=
    by unfold handAnnouncement; split <;> simp
@[simp] theorem handAnnouncement_sig (s : State) : (handAnnouncement s).sig = s.sig :=
    by unfold handAnnouncement; split <;> simp
@[simp] theorem handAnnouncement_lane (s : State) : (handAnnouncement s).lane = s.lane :=
    by unfold handAnnouncement; split <;> simp
@[simp] theorem handAnnouncement_fault (s : State) : (handAnnouncement s).fault = s.fault :=
    by unfold handAnnouncement; split <;> simp
@[simp] theorem handAnnouncement_events (s : State) : (handAnnouncement s).events = s.events :=
    by unfold handAnnouncement; split <;> simp
@[simp] theorem handAnnouncement_hml (s : State) : (handAnnouncement s).hml = s.hml :=
    by unfold handAnnouncement; split <;> simp
@[simp] theorem handAnnouncement_freeCount (s : State) : (handAnnouncement s).freeCount = s.freeCount :=
    by unfold handAnnouncement; split <;> simp
@[simp] theorem handAnnouncement_pending (s : State) : (handAnnouncement s).pending = s.pending :=
    by unfold handAnnouncement; split <;> simp

/-! ### laneStep3 -/

@[simp] theorem laneStep3_port (n : FrameNo) (s : State) : (laneStep3 n s).port = s.port := by simp [laneStep3]
@[simp] theorem laneStep3_intake (n : FrameNo) (s : State) : (laneStep3 n s).intake = s.intake := by simp [laneStep3]
@[simp] theorem laneStep3_est (n : FrameNo) (s : State) : (laneStep3 n s).est = s.est := by simp [laneStep3]
@[simp] theorem laneStep3_monitor (n : FrameNo) (s : State) : (laneStep3 n s).monitor = s.monitor :=
    by simp [laneStep3]
@[simp] theorem laneStep3_staged (n : FrameNo) (s : State) : (laneStep3 n s).staged = s.staged := by simp [laneStep3]
@[simp] theorem laneStep3_working (n : FrameNo) (s : State) : (laneStep3 n s).working = s.working :=
    by simp [laneStep3]
@[simp] theorem laneStep3_applyPending (n : FrameNo) (s : State) : (laneStep3 n s).applyPending = s.applyPending :=
    by simp [laneStep3]
@[simp] theorem laneStep3_rau (n : FrameNo) (s : State) : (laneStep3 n s).rau = s.rau := by simp [laneStep3]
@[simp] theorem laneStep3_sig (n : FrameNo) (s : State) : (laneStep3 n s).sig = s.sig := by simp [laneStep3]
@[simp] theorem laneStep3_fault (n : FrameNo) (s : State) : (laneStep3 n s).fault = s.fault := by simp [laneStep3]
@[simp] theorem laneStep3_events (n : FrameNo) (s : State) : (laneStep3 n s).events = s.events := by simp [laneStep3]
@[simp] theorem laneStep3_hml (n : FrameNo) (s : State) : (laneStep3 n s).hml = s.hml := by simp [laneStep3]
@[simp] theorem laneStep3_freeCount (n : FrameNo) (s : State) : (laneStep3 n s).freeCount = s.freeCount :=
    by simp [laneStep3]
@[simp] theorem laneStep3_pending (n : FrameNo) (s : State) : (laneStep3 n s).pending = s.pending :=
    by simp [laneStep3]

/-! ### laneStep4 -/

@[simp] theorem laneStep4_port (n : FrameNo) (s : State) : (laneStep4 n s).port = s.port := by simp [laneStep4]
@[simp] theorem laneStep4_intake (n : FrameNo) (s : State) : (laneStep4 n s).intake = s.intake := by simp [laneStep4]
@[simp] theorem laneStep4_est (n : FrameNo) (s : State) : (laneStep4 n s).est = s.est := by simp [laneStep4]
@[simp] theorem laneStep4_monitor (n : FrameNo) (s : State) : (laneStep4 n s).monitor = s.monitor :=
    by simp [laneStep4]
@[simp] theorem laneStep4_staged (n : FrameNo) (s : State) : (laneStep4 n s).staged = s.staged := by simp [laneStep4]
@[simp] theorem laneStep4_working (n : FrameNo) (s : State) : (laneStep4 n s).working = s.working :=
    by simp [laneStep4]
@[simp] theorem laneStep4_applyPending (n : FrameNo) (s : State) : (laneStep4 n s).applyPending = s.applyPending :=
    by simp [laneStep4]
@[simp] theorem laneStep4_rau (n : FrameNo) (s : State) : (laneStep4 n s).rau = s.rau := by simp [laneStep4]
@[simp] theorem laneStep4_sig (n : FrameNo) (s : State) : (laneStep4 n s).sig = s.sig := by simp [laneStep4]
@[simp] theorem laneStep4_fault (n : FrameNo) (s : State) : (laneStep4 n s).fault = s.fault := by simp [laneStep4]
@[simp] theorem laneStep4_events (n : FrameNo) (s : State) : (laneStep4 n s).events = s.events := by simp [laneStep4]
@[simp] theorem laneStep4_hml (n : FrameNo) (s : State) : (laneStep4 n s).hml = s.hml := by simp [laneStep4]
@[simp] theorem laneStep4_freeCount (n : FrameNo) (s : State) : (laneStep4 n s).freeCount = s.freeCount :=
    by simp [laneStep4]
@[simp] theorem laneStep4_pending (n : FrameNo) (s : State) : (laneStep4 n s).pending = s.pending :=
    by simp [laneStep4]

/-! ### graceWork -/

@[simp] theorem graceWork_port (s : State) : (graceWork s).port = s.port := rfl
@[simp] theorem graceWork_intake (s : State) : (graceWork s).intake = s.intake := rfl
@[simp] theorem graceWork_est (s : State) : (graceWork s).est = s.est := rfl
@[simp] theorem graceWork_staged (s : State) : (graceWork s).staged = s.staged := rfl
@[simp] theorem graceWork_working (s : State) : (graceWork s).working = s.working := rfl
@[simp] theorem graceWork_applyPending (s : State) : (graceWork s).applyPending = s.applyPending := rfl
@[simp] theorem graceWork_rau (s : State) : (graceWork s).rau = s.rau := rfl
@[simp] theorem graceWork_sig (s : State) : (graceWork s).sig = s.sig := rfl
@[simp] theorem graceWork_lane (s : State) : (graceWork s).lane = s.lane := rfl
@[simp] theorem graceWork_pcu (s : State) : (graceWork s).pcu = s.pcu := rfl
@[simp] theorem graceWork_mapper (s : State) : (graceWork s).mapper = s.mapper := rfl
@[simp] theorem graceWork_fault (s : State) : (graceWork s).fault = s.fault := rfl
@[simp] theorem graceWork_events (s : State) : (graceWork s).events = s.events := rfl
@[simp] theorem graceWork_hml (s : State) : (graceWork s).hml = s.hml := rfl
@[simp] theorem graceWork_freeCount (s : State) : (graceWork s).freeCount = s.freeCount := rfl
@[simp] theorem graceWork_pending (s : State) : (graceWork s).pending = s.pending := rfl

/-! ### scanWork -/

@[simp] theorem scanWork_port (n : FrameNo) (pass : Carrier → Bool) (s : State) : (scanWork n pass s).port = s.port :=
    rfl
@[simp] theorem scanWork_intake (n : FrameNo) (pass : Carrier → Bool) (s : State) :
    (scanWork n pass s).intake = s.intake :=
    rfl
@[simp] theorem scanWork_est (n : FrameNo) (pass : Carrier → Bool) (s : State) : (scanWork n pass s).est = s.est :=
    rfl
@[simp] theorem scanWork_staged (n : FrameNo) (pass : Carrier → Bool) (s : State) :
    (scanWork n pass s).staged = s.staged :=
    rfl
@[simp] theorem scanWork_working (n : FrameNo) (pass : Carrier → Bool) (s : State) :
    (scanWork n pass s).working = s.working :=
    rfl
@[simp] theorem scanWork_applyPending (n : FrameNo) (pass : Carrier → Bool) (s : State) :
    (scanWork n pass s).applyPending = s.applyPending :=
    rfl
@[simp] theorem scanWork_rau (n : FrameNo) (pass : Carrier → Bool) (s : State) : (scanWork n pass s).rau = s.rau :=
    rfl
@[simp] theorem scanWork_sig (n : FrameNo) (pass : Carrier → Bool) (s : State) : (scanWork n pass s).sig = s.sig :=
    rfl
@[simp] theorem scanWork_lane (n : FrameNo) (pass : Carrier → Bool) (s : State) : (scanWork n pass s).lane = s.lane :=
    rfl
@[simp] theorem scanWork_pcu (n : FrameNo) (pass : Carrier → Bool) (s : State) : (scanWork n pass s).pcu = s.pcu :=
    rfl
@[simp] theorem scanWork_mapper (n : FrameNo) (pass : Carrier → Bool) (s : State) :
    (scanWork n pass s).mapper = s.mapper :=
    rfl
@[simp] theorem scanWork_fault (n : FrameNo) (pass : Carrier → Bool) (s : State) :
    (scanWork n pass s).fault = s.fault :=
    rfl
@[simp] theorem scanWork_hml (n : FrameNo) (pass : Carrier → Bool) (s : State) : (scanWork n pass s).hml = s.hml :=
    rfl
@[simp] theorem scanWork_freeCount (n : FrameNo) (pass : Carrier → Bool) (s : State) :
    (scanWork n pass s).freeCount = s.freeCount :=
    rfl
@[simp] theorem scanWork_pending (n : FrameNo) (pass : Carrier → Bool) (s : State) :
    (scanWork n pass s).pending = s.pending :=
    rfl

/-! ### commitMonitor -/

@[simp] theorem commitMonitor_port (old : WorkingSet) (s : State) : (commitMonitor old s).port = s.port := by
  refine foldl_keeps (fun t : State => t.port) (fun t c => commitMonitorCarrier old c t) (fun t c => ?_) _ _
  rfl
@[simp] theorem commitMonitor_intake (old : WorkingSet) (s : State) : (commitMonitor old s).intake = s.intake := by
  refine foldl_keeps (fun t : State => t.intake) (fun t c => commitMonitorCarrier old c t) (fun t c => ?_) _ _
  rfl
@[simp] theorem commitMonitor_est (old : WorkingSet) (s : State) : (commitMonitor old s).est = s.est := by
  refine foldl_keeps (fun t : State => t.est) (fun t c => commitMonitorCarrier old c t) (fun t c => ?_) _ _
  rfl
@[simp] theorem commitMonitor_staged (old : WorkingSet) (s : State) : (commitMonitor old s).staged = s.staged := by
  refine foldl_keeps (fun t : State => t.staged) (fun t c => commitMonitorCarrier old c t) (fun t c => ?_) _ _
  rfl
@[simp] theorem commitMonitor_working (old : WorkingSet) (s : State) : (commitMonitor old s).working = s.working := by
  refine foldl_keeps (fun t : State => t.working) (fun t c => commitMonitorCarrier old c t) (fun t c => ?_) _ _
  rfl
@[simp] theorem commitMonitor_applyPending (old : WorkingSet) (s : State) :
    (commitMonitor old s).applyPending = s.applyPending := by
  refine foldl_keeps (fun t : State => t.applyPending) (fun t c => commitMonitorCarrier old c t) (fun t c => ?_) _ _
  rfl
@[simp] theorem commitMonitor_rau (old : WorkingSet) (s : State) : (commitMonitor old s).rau = s.rau := by
  refine foldl_keeps (fun t : State => t.rau) (fun t c => commitMonitorCarrier old c t) (fun t c => ?_) _ _
  rfl
@[simp] theorem commitMonitor_sig (old : WorkingSet) (s : State) : (commitMonitor old s).sig = s.sig := by
  refine foldl_keeps (fun t : State => t.sig) (fun t c => commitMonitorCarrier old c t) (fun t c => ?_) _ _
  rfl
@[simp] theorem commitMonitor_lane (old : WorkingSet) (s : State) : (commitMonitor old s).lane = s.lane := by
  refine foldl_keeps (fun t : State => t.lane) (fun t c => commitMonitorCarrier old c t) (fun t c => ?_) _ _
  rfl
@[simp] theorem commitMonitor_pcu (old : WorkingSet) (s : State) : (commitMonitor old s).pcu = s.pcu := by
  refine foldl_keeps (fun t : State => t.pcu) (fun t c => commitMonitorCarrier old c t) (fun t c => ?_) _ _
  rfl
@[simp] theorem commitMonitor_mapper (old : WorkingSet) (s : State) : (commitMonitor old s).mapper = s.mapper := by
  refine foldl_keeps (fun t : State => t.mapper) (fun t c => commitMonitorCarrier old c t) (fun t c => ?_) _ _
  rfl
@[simp] theorem commitMonitor_fault (old : WorkingSet) (s : State) : (commitMonitor old s).fault = s.fault := by
  refine foldl_keeps (fun t : State => t.fault) (fun t c => commitMonitorCarrier old c t) (fun t c => ?_) _ _
  rfl
@[simp] theorem commitMonitor_hml (old : WorkingSet) (s : State) : (commitMonitor old s).hml = s.hml := by
  refine foldl_keeps (fun t : State => t.hml) (fun t c => commitMonitorCarrier old c t) (fun t c => ?_) _ _
  rfl
@[simp] theorem commitMonitor_freeCount (old : WorkingSet) (s : State) :
    (commitMonitor old s).freeCount = s.freeCount := by
  refine foldl_keeps (fun t : State => t.freeCount) (fun t c => commitMonitorCarrier old c t) (fun t c => ?_) _ _
  rfl
@[simp] theorem commitMonitor_pending (old : WorkingSet) (s : State) : (commitMonitor old s).pending = s.pending := by
  refine foldl_keeps (fun t : State => t.pending) (fun t c => commitMonitorCarrier old c t) (fun t c => ?_) _ _
  rfl

/-! ### commitWork -/

@[simp] theorem commitWork_staged (n : FrameNo) (s : State) :
    (commitWork n s).staged = s.staged :=
    by simp [commitWork, commitLane, commitConfiguration, commitEst, commitRau, commitMapper,
      commitPower, commitSig, commitIntake, commitFarFault, commitPort]
@[simp] theorem commitWork_hml (n : FrameNo) (s : State) :
    (commitWork n s).hml = s.hml :=
    by simp [commitWork, commitLane, commitConfiguration, commitEst, commitRau, commitMapper,
      commitPower, commitSig, commitIntake, commitFarFault, commitPort]
@[simp] theorem commitWork_pending (n : FrameNo) (s : State) :
    (commitWork n s).pending = s.pending :=
    by simp [commitWork, commitLane, commitConfiguration, commitEst, commitRau, commitMapper,
      commitPower, commitSig, commitIntake, commitFarFault, commitPort]

/-! ### laneWork -/

@[simp] theorem laneWork_staged (n : FrameNo) (s : State) : (laneWork n s).staged = s.staged :=
    by unfold laneWork; simp only; (repeat' split) <;> simp
@[simp] theorem laneWork_hml (n : FrameNo) (s : State) : (laneWork n s).hml = s.hml :=
    by unfold laneWork; simp only; (repeat' split) <;> simp
@[simp] theorem laneWork_pending (n : FrameNo) (s : State) : (laneWork n s).pending = s.pending :=
    by unfold laneWork; simp only; (repeat' split) <;> simp

/-! ### restoreBlocks -/

@[simp] theorem restoreBlocks_port (n : FrameNo) (lost s : State) : (restoreBlocks n lost s).port = s.port :=
    by simp [restoreBlocks]
@[simp] theorem restoreBlocks_intake (n : FrameNo) (lost s : State) : (restoreBlocks n lost s).intake = s.intake :=
    by simp [restoreBlocks]
@[simp] theorem restoreBlocks_est (n : FrameNo) (lost s : State) : (restoreBlocks n lost s).est = s.est :=
    by simp [restoreBlocks]
@[simp] theorem restoreBlocks_monitor (n : FrameNo) (lost s : State) : (restoreBlocks n lost s).monitor = s.monitor :=
    by simp [restoreBlocks]
@[simp] theorem restoreBlocks_staged (n : FrameNo) (lost s : State) : (restoreBlocks n lost s).staged = s.staged :=
    by simp [restoreBlocks]
@[simp] theorem restoreBlocks_working (n : FrameNo) (lost s : State) : (restoreBlocks n lost s).working = s.working :=
    by simp [restoreBlocks]
@[simp] theorem restoreBlocks_applyPending (n : FrameNo) (lost s : State) :
    (restoreBlocks n lost s).applyPending = s.applyPending :=
    by simp [restoreBlocks]
@[simp] theorem restoreBlocks_sig (n : FrameNo) (lost s : State) : (restoreBlocks n lost s).sig = s.sig :=
    by simp [restoreBlocks]
@[simp] theorem restoreBlocks_fault (n : FrameNo) (lost s : State) : (restoreBlocks n lost s).fault = s.fault :=
    by simp [restoreBlocks]
@[simp] theorem restoreBlocks_events (n : FrameNo) (lost s : State) : (restoreBlocks n lost s).events = s.events :=
    by simp [restoreBlocks]
@[simp] theorem restoreBlocks_hml (n : FrameNo) (lost s : State) : (restoreBlocks n lost s).hml = s.hml :=
    by simp [restoreBlocks]
@[simp] theorem restoreBlocks_freeCount (n : FrameNo) (lost s : State) :
    (restoreBlocks n lost s).freeCount = s.freeCount :=
    by simp [restoreBlocks]
@[simp] theorem restoreBlocks_pending (n : FrameNo) (lost s : State) : (restoreBlocks n lost s).pending = s.pending :=
    by simp [restoreBlocks]

/-! ### deliver -/

@[simp] theorem deliver_intake (n : FrameNo) (s : State) : (deliver n s).intake = s.intake := rfl
@[simp] theorem deliver_est (n : FrameNo) (s : State) : (deliver n s).est = s.est := rfl
@[simp] theorem deliver_monitor (n : FrameNo) (s : State) : (deliver n s).monitor = s.monitor := rfl
@[simp] theorem deliver_staged (n : FrameNo) (s : State) : (deliver n s).staged = s.staged := rfl
@[simp] theorem deliver_working (n : FrameNo) (s : State) : (deliver n s).working = s.working := rfl
@[simp] theorem deliver_applyPending (n : FrameNo) (s : State) : (deliver n s).applyPending = s.applyPending := rfl
@[simp] theorem deliver_rau (n : FrameNo) (s : State) : (deliver n s).rau = s.rau := rfl
@[simp] theorem deliver_sig (n : FrameNo) (s : State) : (deliver n s).sig = s.sig := rfl
@[simp] theorem deliver_lane (n : FrameNo) (s : State) : (deliver n s).lane = s.lane := rfl
@[simp] theorem deliver_pcu (n : FrameNo) (s : State) : (deliver n s).pcu = s.pcu := rfl
@[simp] theorem deliver_mapper (n : FrameNo) (s : State) : (deliver n s).mapper = s.mapper := rfl
@[simp] theorem deliver_fault (n : FrameNo) (s : State) : (deliver n s).fault = s.fault := rfl
@[simp] theorem deliver_events (n : FrameNo) (s : State) : (deliver n s).events = s.events := rfl
@[simp] theorem deliver_hml (n : FrameNo) (s : State) : (deliver n s).hml = s.hml := rfl
@[simp] theorem deliver_freeCount (n : FrameNo) (s : State) : (deliver n s).freeCount = s.freeCount := rfl
@[simp] theorem deliver_pending (n : FrameNo) (s : State) : (deliver n s).pending = s.pending := rfl

/-! ### startWatch -/

@[simp] theorem startWatch_intake (s : State) : (startWatch s).intake = s.intake := rfl
@[simp] theorem startWatch_est (s : State) : (startWatch s).est = s.est := rfl
@[simp] theorem startWatch_monitor (s : State) : (startWatch s).monitor = s.monitor := rfl
@[simp] theorem startWatch_staged (s : State) : (startWatch s).staged = s.staged := rfl
@[simp] theorem startWatch_working (s : State) : (startWatch s).working = s.working := rfl
@[simp] theorem startWatch_applyPending (s : State) : (startWatch s).applyPending = s.applyPending := rfl
@[simp] theorem startWatch_rau (s : State) : (startWatch s).rau = s.rau := rfl
@[simp] theorem startWatch_sig (s : State) : (startWatch s).sig = s.sig := rfl
@[simp] theorem startWatch_lane (s : State) : (startWatch s).lane = s.lane := rfl
@[simp] theorem startWatch_pcu (s : State) : (startWatch s).pcu = s.pcu := rfl
@[simp] theorem startWatch_mapper (s : State) : (startWatch s).mapper = s.mapper := rfl
@[simp] theorem startWatch_fault (s : State) : (startWatch s).fault = s.fault := rfl
@[simp] theorem startWatch_events (s : State) : (startWatch s).events = s.events := rfl
@[simp] theorem startWatch_hml (s : State) : (startWatch s).hml = s.hml := rfl
@[simp] theorem startWatch_freeCount (s : State) : (startWatch s).freeCount = s.freeCount := rfl
@[simp] theorem startWatch_pending (s : State) : (startWatch s).pending = s.pending := rfl

/-! ### adoptFrame -/

@[simp] theorem adoptFrame_intake (n cur : FrameNo) (s : State) : (adoptFrame n cur s).intake = s.intake :=
    by unfold adoptFrame; dsimp only; split <;> rfl
@[simp] theorem adoptFrame_est (n cur : FrameNo) (s : State) : (adoptFrame n cur s).est = s.est :=
    by unfold adoptFrame; dsimp only; split <;> rfl
@[simp] theorem adoptFrame_monitor (n cur : FrameNo) (s : State) : (adoptFrame n cur s).monitor = s.monitor :=
    by unfold adoptFrame; dsimp only; split <;> rfl
@[simp] theorem adoptFrame_staged (n cur : FrameNo) (s : State) : (adoptFrame n cur s).staged = s.staged :=
    by unfold adoptFrame; dsimp only; split <;> rfl
@[simp] theorem adoptFrame_working (n cur : FrameNo) (s : State) : (adoptFrame n cur s).working = s.working :=
    by unfold adoptFrame; dsimp only; split <;> rfl
@[simp] theorem adoptFrame_applyPending (n cur : FrameNo) (s : State) :
    (adoptFrame n cur s).applyPending = s.applyPending :=
    by unfold adoptFrame; dsimp only; split <;> rfl
@[simp] theorem adoptFrame_rau (n cur : FrameNo) (s : State) : (adoptFrame n cur s).rau = s.rau :=
    by unfold adoptFrame; dsimp only; split <;> rfl
@[simp] theorem adoptFrame_sig (n cur : FrameNo) (s : State) : (adoptFrame n cur s).sig = s.sig :=
    by unfold adoptFrame; dsimp only; split <;> rfl
@[simp] theorem adoptFrame_lane (n cur : FrameNo) (s : State) : (adoptFrame n cur s).lane = s.lane :=
    by unfold adoptFrame; dsimp only; split <;> rfl
@[simp] theorem adoptFrame_pcu (n cur : FrameNo) (s : State) : (adoptFrame n cur s).pcu = s.pcu :=
    by unfold adoptFrame; dsimp only; split <;> rfl
@[simp] theorem adoptFrame_mapper (n cur : FrameNo) (s : State) : (adoptFrame n cur s).mapper = s.mapper :=
    by unfold adoptFrame; dsimp only; split <;> rfl
@[simp] theorem adoptFrame_fault (n cur : FrameNo) (s : State) : (adoptFrame n cur s).fault = s.fault :=
    by unfold adoptFrame; dsimp only; split <;> rfl
@[simp] theorem adoptFrame_hml (n cur : FrameNo) (s : State) : (adoptFrame n cur s).hml = s.hml :=
    by unfold adoptFrame; dsimp only; split <;> rfl
@[simp] theorem adoptFrame_freeCount (n cur : FrameNo) (s : State) : (adoptFrame n cur s).freeCount = s.freeCount :=
    by unfold adoptFrame; dsimp only; split <;> rfl
@[simp] theorem adoptFrame_pending (n cur : FrameNo) (s : State) : (adoptFrame n cur s).pending = s.pending :=
    by unfold adoptFrame; dsimp only; split <;> rfl

/-! ### hmlError -/

@[simp] theorem hmlError_port (cause : HmlCause) (s : State) : (hmlError cause s).port = s.port := rfl
@[simp] theorem hmlError_intake (cause : HmlCause) (s : State) : (hmlError cause s).intake = s.intake := rfl
@[simp] theorem hmlError_est (cause : HmlCause) (s : State) : (hmlError cause s).est = s.est := rfl
@[simp] theorem hmlError_monitor (cause : HmlCause) (s : State) : (hmlError cause s).monitor = s.monitor := rfl
@[simp] theorem hmlError_staged (cause : HmlCause) (s : State) : (hmlError cause s).staged = s.staged := rfl
@[simp] theorem hmlError_working (cause : HmlCause) (s : State) : (hmlError cause s).working = s.working := rfl
@[simp] theorem hmlError_applyPending (cause : HmlCause) (s : State) :
    (hmlError cause s).applyPending = s.applyPending :=
    rfl
@[simp] theorem hmlError_rau (cause : HmlCause) (s : State) : (hmlError cause s).rau = s.rau := rfl
@[simp] theorem hmlError_sig (cause : HmlCause) (s : State) : (hmlError cause s).sig = s.sig := rfl
@[simp] theorem hmlError_lane (cause : HmlCause) (s : State) : (hmlError cause s).lane = s.lane := rfl
@[simp] theorem hmlError_pcu (cause : HmlCause) (s : State) : (hmlError cause s).pcu = s.pcu := rfl
@[simp] theorem hmlError_mapper (cause : HmlCause) (s : State) : (hmlError cause s).mapper = s.mapper := rfl
@[simp] theorem hmlError_fault (cause : HmlCause) (s : State) : (hmlError cause s).fault = s.fault := rfl
@[simp] theorem hmlError_hml (cause : HmlCause) (s : State) : (hmlError cause s).hml = s.hml := rfl
@[simp] theorem hmlError_freeCount (cause : HmlCause) (s : State) : (hmlError cause s).freeCount = s.freeCount := rfl
@[simp] theorem hmlError_pending (cause : HmlCause) (s : State) : (hmlError cause s).pending = s.pending := rfl

/-! ### sendReply -/

@[simp] theorem sendReply_port (kind tag : Byte) (payload : List Byte) (resets : Bool) (s : State) :
    (sendReply kind tag payload resets s).port = s.port :=
    rfl
@[simp] theorem sendReply_intake (kind tag : Byte) (payload : List Byte) (resets : Bool) (s : State) :
    (sendReply kind tag payload resets s).intake = s.intake :=
    rfl
@[simp] theorem sendReply_est (kind tag : Byte) (payload : List Byte) (resets : Bool) (s : State) :
    (sendReply kind tag payload resets s).est = s.est :=
    rfl
@[simp] theorem sendReply_monitor (kind tag : Byte) (payload : List Byte) (resets : Bool) (s : State) :
    (sendReply kind tag payload resets s).monitor = s.monitor :=
    rfl
@[simp] theorem sendReply_staged (kind tag : Byte) (payload : List Byte) (resets : Bool) (s : State) :
    (sendReply kind tag payload resets s).staged = s.staged :=
    rfl
@[simp] theorem sendReply_working (kind tag : Byte) (payload : List Byte) (resets : Bool) (s : State) :
    (sendReply kind tag payload resets s).working = s.working :=
    rfl
@[simp] theorem sendReply_applyPending (kind tag : Byte) (payload : List Byte) (resets : Bool) (s : State) :
    (sendReply kind tag payload resets s).applyPending = s.applyPending :=
    rfl
@[simp] theorem sendReply_rau (kind tag : Byte) (payload : List Byte) (resets : Bool) (s : State) :
    (sendReply kind tag payload resets s).rau = s.rau :=
    rfl
@[simp] theorem sendReply_sig (kind tag : Byte) (payload : List Byte) (resets : Bool) (s : State) :
    (sendReply kind tag payload resets s).sig = s.sig :=
    rfl
@[simp] theorem sendReply_lane (kind tag : Byte) (payload : List Byte) (resets : Bool) (s : State) :
    (sendReply kind tag payload resets s).lane = s.lane :=
    rfl
@[simp] theorem sendReply_pcu (kind tag : Byte) (payload : List Byte) (resets : Bool) (s : State) :
    (sendReply kind tag payload resets s).pcu = s.pcu :=
    rfl
@[simp] theorem sendReply_mapper (kind tag : Byte) (payload : List Byte) (resets : Bool) (s : State) :
    (sendReply kind tag payload resets s).mapper = s.mapper :=
    rfl
@[simp] theorem sendReply_fault (kind tag : Byte) (payload : List Byte) (resets : Bool) (s : State) :
    (sendReply kind tag payload resets s).fault = s.fault :=
    rfl
@[simp] theorem sendReply_events (kind tag : Byte) (payload : List Byte) (resets : Bool) (s : State) :
    (sendReply kind tag payload resets s).events = s.events :=
    rfl
@[simp] theorem sendReply_freeCount (kind tag : Byte) (payload : List Byte) (resets : Bool) (s : State) :
    (sendReply kind tag payload resets s).freeCount = s.freeCount :=
    rfl
@[simp] theorem sendReply_pending (kind tag : Byte) (payload : List Byte) (resets : Bool) (s : State) :
    (sendReply kind tag payload resets s).pending = s.pending :=
    rfl

/-! ### setReceiver -/

@[simp] theorem setReceiver_port (r : Receiver) (s : State) : (setReceiver r s).port = s.port := rfl
@[simp] theorem setReceiver_intake (r : Receiver) (s : State) : (setReceiver r s).intake = s.intake := rfl
@[simp] theorem setReceiver_est (r : Receiver) (s : State) : (setReceiver r s).est = s.est := rfl
@[simp] theorem setReceiver_monitor (r : Receiver) (s : State) : (setReceiver r s).monitor = s.monitor := rfl
@[simp] theorem setReceiver_staged (r : Receiver) (s : State) : (setReceiver r s).staged = s.staged := rfl
@[simp] theorem setReceiver_working (r : Receiver) (s : State) : (setReceiver r s).working = s.working := rfl
@[simp] theorem setReceiver_applyPending (r : Receiver) (s : State) : (setReceiver r s).applyPending = s.applyPending :=
    rfl
@[simp] theorem setReceiver_rau (r : Receiver) (s : State) : (setReceiver r s).rau = s.rau := rfl
@[simp] theorem setReceiver_sig (r : Receiver) (s : State) : (setReceiver r s).sig = s.sig := rfl
@[simp] theorem setReceiver_lane (r : Receiver) (s : State) : (setReceiver r s).lane = s.lane := rfl
@[simp] theorem setReceiver_pcu (r : Receiver) (s : State) : (setReceiver r s).pcu = s.pcu := rfl
@[simp] theorem setReceiver_mapper (r : Receiver) (s : State) : (setReceiver r s).mapper = s.mapper := rfl
@[simp] theorem setReceiver_fault (r : Receiver) (s : State) : (setReceiver r s).fault = s.fault := rfl
@[simp] theorem setReceiver_events (r : Receiver) (s : State) : (setReceiver r s).events = s.events := rfl
@[simp] theorem setReceiver_freeCount (r : Receiver) (s : State) : (setReceiver r s).freeCount = s.freeCount := rfl
@[simp] theorem setReceiver_pending (r : Receiver) (s : State) : (setReceiver r s).pending = s.pending := rfl

/-! ### takeFrameLoss -/

@[simp] theorem muteSettings_intake (s : State) : (muteSettings s).intake = s.intake := by
  unfold muteSettings; split <;> rfl
@[simp] theorem muteSettings_est (s : State) : (muteSettings s).est = s.est := by
  unfold muteSettings; split <;> rfl
@[simp] theorem muteSettings_monitor (s : State) : (muteSettings s).monitor = s.monitor := by
  unfold muteSettings; split <;> rfl
@[simp] theorem muteSettings_staged (s : State) : (muteSettings s).staged = s.staged := by
  unfold muteSettings; split <;> rfl
@[simp] theorem muteSettings_working (s : State) : (muteSettings s).working = s.working := by
  unfold muteSettings; split <;> rfl
@[simp] theorem muteSettings_applyPending (s : State) : (muteSettings s).applyPending = s.applyPending := by
  unfold muteSettings; split <;> rfl
@[simp] theorem muteSettings_rau (s : State) : (muteSettings s).rau = s.rau := by
  unfold muteSettings; split <;> rfl
@[simp] theorem muteSettings_sig (s : State) : (muteSettings s).sig = s.sig := by
  unfold muteSettings; split <;> rfl
@[simp] theorem muteSettings_lane (s : State) : (muteSettings s).lane = s.lane := by
  unfold muteSettings; split <;> rfl
@[simp] theorem muteSettings_pcu (s : State) : (muteSettings s).pcu = s.pcu := by
  unfold muteSettings; split <;> rfl
@[simp] theorem muteSettings_mapper (s : State) : (muteSettings s).mapper = s.mapper := by
  unfold muteSettings; split <;> rfl
@[simp] theorem muteSettings_fault (s : State) : (muteSettings s).fault = s.fault := by
  unfold muteSettings; split <;> rfl
@[simp] theorem muteSettings_events (s : State) : (muteSettings s).events = s.events := by
  unfold muteSettings; split <;> rfl
@[simp] theorem muteSettings_hml (s : State) : (muteSettings s).hml = s.hml := by
  unfold muteSettings; split <;> rfl
@[simp] theorem muteSettings_freeCount (s : State) : (muteSettings s).freeCount = s.freeCount := by
  unfold muteSettings; split <;> rfl
@[simp] theorem muteSettings_pending (s : State) : (muteSettings s).pending = s.pending := by
  unfold muteSettings; split <;> rfl
@[simp] theorem takeFrameLoss_intake (s : State) : (takeFrameLoss s).intake = s.intake :=
    by simp [takeFrameLoss, lossEst, lossSig, lossMapper]
@[simp] theorem takeFrameLoss_monitor (s : State) : (takeFrameLoss s).monitor = s.monitor :=
    by simp [takeFrameLoss, lossEst, lossSig, lossMapper]
@[simp] theorem takeFrameLoss_staged (s : State) : (takeFrameLoss s).staged = s.staged :=
    by simp [takeFrameLoss, lossEst, lossSig, lossMapper]
@[simp] theorem takeFrameLoss_working (s : State) : (takeFrameLoss s).working = s.working :=
    by simp [takeFrameLoss, lossEst, lossSig, lossMapper]
@[simp] theorem takeFrameLoss_applyPending (s : State) : (takeFrameLoss s).applyPending = s.applyPending :=
    by simp [takeFrameLoss, lossEst, lossSig, lossMapper]
@[simp] theorem takeFrameLoss_hml (s : State) : (takeFrameLoss s).hml = s.hml :=
    by simp [takeFrameLoss, lossEst, lossSig, lossMapper]
@[simp] theorem takeFrameLoss_freeCount (s : State) : (takeFrameLoss s).freeCount = s.freeCount :=
    by simp [takeFrameLoss, lossEst, lossSig, lossMapper]
@[simp] theorem takeFrameLoss_pending (s : State) : (takeFrameLoss s).pending = s.pending :=
    by simp [takeFrameLoss, lossEst, lossSig, lossMapper]

end Sys2Proof.Machine
end

