-- ==== Sys2Proof/Laws/Events.lean ====
section
/-!
SUPPORT. What the Event Latch Table's operations can do (R184), said once: one report, a list of reports, and the
`LatchedAfter` of the statements.
-/
namespace Sys2Proof.Machine

theorem mem_insertEntry (x y : EventEntry) (l : List EventEntry) : y ∈ insertEntry x l ↔ y = x ∨ y ∈ l := by
  induction l with
  | nil => simp [insertEntry]
  | cons z zs ih =>
    simp only [insertEntry]
    split
    · simp
    · simp only [List.mem_cons, ih]; tauto

theorem length_insertEntry (x : EventEntry) (l : List EventEntry) : (insertEntry x l).length = l.length + 1 := by
  induction l with
  | nil => rfl
  | cons z zs ih => simp only [insertEntry]; split <;> simp [ih]

/-- Everything one report can do: it is dropped, or it puts its entry into the table. -/
theorem latch_cases (frame : Option FrameNo) (t : EventTable) (r : Report) :
    (latch frame t r = t ∧
      ((t.mode r.kind).on = false ∨ (t.mode r.kind).edge.selects r.edge = false ∨ t.latched r.kind r.index = true)) ∨
    ((t.mode r.kind).on = true ∧ (t.mode r.kind).edge.selects r.edge = true ∧ t.latched r.kind r.index = false ∧
      latch frame t r = { t with
        entries := insertEntry { kind := r.kind, index := r.index, edge := r.edge, frame := frame } t.entries }) := by
  cases h1 : (t.mode r.kind).on <;> cases h2 : (t.mode r.kind).edge.selects r.edge <;>
    cases h3 : t.latched r.kind r.index <;> simp [latch, h1, h2, h3]

@[simp] theorem latch_modes (frame : Option FrameNo) (t : EventTable) (r : Report) :
    (latch frame t r).modes = t.modes := by
  unfold latch; split <;> rfl

@[simp] theorem latchAll_modes (frame : Option FrameNo) (t : EventTable) (rs : List Report) :
    (latchAll frame t rs).modes = t.modes := by
  unfold latchAll
  induction rs generalizing t with
  | nil => rfl
  | cons r rs ih => rw [List.foldl_cons, ih, latch_modes]

theorem latch_mode (frame : Option FrameNo) (t : EventTable) (r : Report) (k : EventKind) :
    (latch frame t r).mode k = t.mode k := by simp [EventTable.mode]

theorem latchAll_mode (frame : Option FrameNo) (t : EventTable) (rs : List Report) (k : EventKind) :
    (latchAll frame t rs).mode k = t.mode k := by simp [EventTable.mode]

/-- A latched pair stays latched under a report. -/
theorem latched_latch (frame : Option FrameNo) (t : EventTable) (r : Report) (k : EventKind) (i : Nat)
    (h : t.latched k i = true) : (latch frame t r).latched k i = true := by
  rcases latch_cases frame t r with ⟨e, -⟩ | ⟨-, -, -, e⟩
  · rw [e]; exact h
  · rw [e]
    simp only [EventTable.latched, List.any_eq_true] at h ⊢
    obtain ⟨x, hx, hk⟩ := h
    exact ⟨x, (mem_insertEntry _ _ _).2 (.inr hx), hk⟩

/-- A latched pair stays latched under a list of reports. -/
theorem latched_latchAll (frame : Option FrameNo) (t : EventTable) (rs : List Report) (k : EventKind) (i : Nat)
    (h : t.latched k i = true) : (latchAll frame t rs).latched k i = true := by
  unfold latchAll
  induction rs generalizing t with
  | nil => exact h
  | cons r rs ih => exact ih _ (latched_latch frame t r k i h)

/-- A report of an enabled kind with a selected edge leaves its pair latched. -/
theorem latched_of_latch (frame : Option FrameNo) (t : EventTable) (r : Report) (hon : (t.mode r.kind).on = true)
    (hedge : (t.mode r.kind).edge.selects r.edge = true) : (latch frame t r).latched r.kind r.index = true := by
  rcases latch_cases frame t r with ⟨e, h | h | h⟩ | ⟨-, -, -, e⟩
  · rw [hon] at h; exact absurd h (by decide)
  · rw [hedge] at h; exact absurd h (by decide)
  · rw [e]; exact h
  · rw [e]
    simp only [EventTable.latched, List.any_eq_true]
    exact ⟨_, (mem_insertEntry _ _ _).2 (.inl rfl), by simp⟩

/-- A report among a list of reports leaves its pair latched. -/
theorem latched_of_mem (frame : Option FrameNo) (t : EventTable) (rs : List Report) (r : Report) (hr : r ∈ rs)
    (hon : (t.mode r.kind).on = true) (hedge : (t.mode r.kind).edge.selects r.edge = true) :
    (latchAll frame t rs).latched r.kind r.index = true := by
  unfold latchAll
  induction rs generalizing t with
  | nil => cases hr
  | cons q rs ih =>
    rw [List.foldl_cons]
    rcases List.mem_cons.1 hr with rfl | hr
    · exact latched_latchAll _ _ rs _ _ (latched_of_latch frame t r hon hedge)
    · exact ih _ hr (by rw [latch_mode]; exact hon) (by rw [latch_mode]; exact hedge)

/-- `LatchedAfter` of a report made in a list. -/
theorem latchedAfter_of_mem (frame : Option FrameNo) (t : EventTable) (rs : List Report) (r : Report) (hr : r ∈ rs) :
    LatchedAfter t (latchAll frame t rs) r.kind r.index r.edge :=
  latched_of_mem frame t rs r hr

/-- `LatchedAfter` lasts through later reports. -/
theorem LatchedAfter.latchAll {a b : EventTable} {k : EventKind} {i : Nat} {e : Option Edge} (h : LatchedAfter a b k i e)
    (frame : Option FrameNo) (rs : List Report) : LatchedAfter a (latchAll frame b rs) k i e :=
  fun hon hedge => latched_latchAll frame b rs k i (h hon hedge)

/-- A list of reports that names no pair (k, i) leaves that pair as it is. -/
theorem latched_latchAll_of_not_mem (frame : Option FrameNo) (t : EventTable) (rs : List Report) (k : EventKind) (i : Nat)
    (h : ∀ r ∈ rs, r.kind ≠ k ∨ r.index ≠ i) : (latchAll frame t rs).latched k i = t.latched k i := by
  unfold Machine.latchAll
  induction rs generalizing t with
  | nil => rfl
  | cons r rs ih =>
    rw [List.foldl_cons, ih _ fun q hq => h q (List.mem_cons_of_mem _ hq)]
    rcases latch_cases frame t r with ⟨e, -⟩ | ⟨-, -, -, e⟩
    · rw [e]
    · have hr := h r (List.mem_cons_self ..)
      rw [e, Bool.eq_iff_iff]
      simp only [EventTable.latched, List.any_eq_true, mem_insertEntry]
      constructor
      · rintro ⟨x, rfl | hx, hk⟩
        · simp only [Bool.and_eq_true, decide_eq_true_eq] at hk
          rcases hr with hr | hr
          · exact absurd hk.1 hr
          · exact absurd hk.2 hr
        · exact ⟨x, hx, hk⟩
      · rintro ⟨x, hx, hk⟩
        exact ⟨x, .inr hx, hk⟩

end Sys2Proof.Machine
end

