-- ==== Sys2Proof/Laws/Host.lean ====
section
/-!
SUPPORT. How a host message is taken (R179), said once for every message: the command of a message is its good frame;
during a reply, or while the line is low, it does no more than latch; and a taken one acts and hands over one reply.
-/
namespace Sys2Proof.Machine

/-- The command of a message is its good frame. -/
theorem exec_messageCommand (m : Message) (tag : Byte) (payload : List Byte) (s : State) :
    exec (messageCommand m tag payload) s = .next (takeMessage m tag payload s) := by cases m <;> rfl

/-- A KIND names its message, and no other KIND does. -/
@[simp] theorem ofKind?_kind (m : Message) : Message.ofKind? m.kind = some m := by cases m <;> decide

/-- A KIND that no message has names none. -/
theorem ofKind?_none (kind : Byte) (h : ∀ m : Message, m.kind ≠ kind) : Message.ofKind? kind = none := by
  unfold Message.ofKind?
  rw [List.find?_eq_none]
  intro m _
  simpa using h m

/-- A frame of a message's KIND is that message's. -/
theorem takeFrame_kind (m : Message) (tag : Byte) (payload : List Byte) (s : State) :
    takeFrame m.kind tag payload s = takeMessage m tag payload s := by simp [takeFrame]

/-- Everything the taking of a good frame can do. -/
theorem takeGoodFrame_cases (kind tag : Byte) (act : State → State × List Byte) (resets : List Byte → Bool)
    (s : State) :
    (s.hml.lineLow = true ∧ takeGoodFrame kind tag act resets s = s) ∨
    (s.hml.lineLow = false ∧ s.hml.transmitter ≠ .idle ∧
      takeGoodFrame kind tag act resets s = hmlError .overrun s) ∨
    (Answering s ∧
      takeGoodFrame kind tag act resets s = sendReply kind tag (act s).2 (resets (act s).2) (act s).1) := by
  unfold takeGoodFrame Answering
  cases hl : s.hml.lineLow
  · cases ht : s.hml.transmitter <;> simp
  · simp

/-- A message that is taken acts and is answered. -/
theorem takeMessage_of_answering (m : Message) (tag : Byte) (payload : List Byte) (s : State) (h : Answering s) :
    takeMessage m tag payload s =
      sendReply m.kind tag (messageAct m payload s).2 (resetsAfter m (messageAct m payload s).2)
        (messageAct m payload s).1 := by
  rcases takeGoodFrame_cases m.kind tag (messageAct m payload) (resetsAfter m) s with ⟨hl, -⟩ | ⟨-, ht, -⟩ | ⟨-, e⟩
  · rw [h.1] at hl; exact absurd hl (by decide)
  · exact absurd h.2 ht
  · exact e

/-- `answered` is the reply of a message that does not reset. -/
theorem answered_eq_sendReply (kind tag : Byte) (reply : List Byte) (s : State) :
    answered kind tag reply s = .next (sendReply kind tag reply false s) := rfl

end Sys2Proof.Machine
end

