-- ==== Sys2Proof/Laws/Lane.lean ====
section
/-!
SUPPORT. What the Change Lane's operations on one carrier's items leave alone, and what a re-check and an intake can
leave in the pending table.
-/
namespace Sys2Proof.Machine

@[simp] theorem giveAnswer_active (kind : AnsKind) (seq : Seq) (x : LaneCarrier) :
    (giveAnswer kind seq x).active = x.active := by cases kind <;> rfl
@[simp] theorem giveAnswer_hold (kind : AnsKind) (seq : Seq) (x : LaneCarrier) :
    (giveAnswer kind seq x).hold = x.hold := by cases kind <;> rfl
@[simp] theorem giveAnswer_entry (kind : AnsKind) (seq : Seq) (x : LaneCarrier) :
    (giveAnswer kind seq x).entry = x.entry := by cases kind <;> rfl
@[simp] theorem giveAnswer_answer (kind : AnsKind) (seq : Seq) (x : LaneCarrier) :
    (giveAnswer kind seq x).answer = { kind := kind, seq := seq } := by cases kind <;> rfl

@[simp] theorem refuseEntry_active (e : Entry) (x : LaneCarrier) : (refuseEntry e x).active = x.active := by
  unfold refuseEntry; split <;> simp
@[simp] theorem refuseEntry_hold (e : Entry) (x : LaneCarrier) : (refuseEntry e x).hold = x.hold := by
  unfold refuseEntry; split <;> simp
@[simp] theorem refuseEntry_entry (e : Entry) (x : LaneCarrier) : (refuseEntry e x).entry = none := by
  unfold refuseEntry; split <;> simp

@[simp] theorem recheckEntry_active (ceiling T : Nat) (x : LaneCarrier) :
    (recheckEntry ceiling T x).active = x.active := by
  unfold recheckEntry; split <;> (try dsimp only) <;> (try split) <;> simp
@[simp] theorem recheckEntry_hold (ceiling T : Nat) (x : LaneCarrier) : (recheckEntry ceiling T x).hold = x.hold := by
  unfold recheckEntry; split <;> (try dsimp only) <;> (try split) <;> simp

/-- What a re-check leaves keeps the step rules against TX active and the ceiling (R129). -/
theorem recheckEntry_entry (ceiling T : Nat) (x : LaneCarrier) :
    ∀ e ∈ (recheckEntry ceiling T x).entry,
      (e.isOwn = false → e.kind = .up → e.target = x.active + 1 ∧ e.target ≤ ceiling) ∧
      (e.isOwn = true ∨ e.kind ≠ .up → e.target < x.active ∧ e.target ≤ ceiling) := by
  intro e he
  unfold recheckEntry at he
  split at he
  · next h => rw [h] at he; cases he
  · next seq t arrival restored h =>
    split at he
    · next hc =>
      rw [h] at he; cases he
      simp only [Bool.and_eq_true, decide_eq_true_eq] at hc
      exact ⟨fun _ _ => hc, fun h => by rcases h with h | h <;> simp [Entry.isOwn, Entry.kind] at h⟩
    · simp at he
  · next seq k t arrival restored hne h =>
    dsimp only at he
    split at he
    · next hc =>
      cases he
      have hk : k ≠ .up := fun hk => hne hk
      exact ⟨fun _ h => absurd h hk, fun _ => ⟨hc, by simp only [Entry.target]; omega⟩⟩
    · simp at he
  · next maker k t ab h =>
    dsimp only at he
    split at he
    · next hc =>
      cases he
      exact ⟨fun h => by simp [Entry.isOwn] at h, fun _ => ⟨hc, by simp only [Entry.target]; omega⟩⟩
    · simp at he

@[simp] theorem intakeRequest_active (ceiling T : Nat) (aborted : Bool) (frame : Option FrameNo) (kind : ReqKind)
    (seq : Seq) (target : Nat) (x : LaneCarrier) :
    (intakeRequest ceiling T aborted frame kind seq target x).active = x.active := by
  unfold intakeRequest; (repeat' split) <;> simp <;> split <;> simp
@[simp] theorem intakeRequest_hold (ceiling T : Nat) (aborted : Bool) (frame : Option FrameNo) (kind : ReqKind)
    (seq : Seq) (target : Nat) (x : LaneCarrier) :
    (intakeRequest ceiling T aborted frame kind seq target x).hold = x.hold := by
  unfold intakeRequest; (repeat' split) <;> simp <;> split <;> simp

@[simp] theorem intakeOwn_active (maker : Internal) (kind : ChangeKind) (target : Nat) (x : LaneCarrier) :
    (intakeOwn maker kind target x).active = x.active := by
  unfold intakeOwn; split <;> simp
@[simp] theorem intakeOwn_hold (maker : Internal) (kind : ChangeKind) (target : Nat) (x : LaneCarrier) :
    (intakeOwn maker kind target x).hold = x.hold := by
  unfold intakeOwn; split <;> simp

/-- An intake of an internal entry leaves an internal entry (R128). -/
theorem intakeOwn_entry (maker : Internal) (kind : ChangeKind) (target : Nat) (x : LaneCarrier) :
    ∃ m k t ab, (intakeOwn maker kind target x).entry = some (.own m k t ab) ∧ t ≤ target := by
  unfold intakeOwn
  split
  · exact ⟨_, _, _, _, rfl, le_refl _⟩
  · exact ⟨maker, kind, target, none, by simp, le_refl _⟩
  · exact ⟨_, _, _, _, rfl, Nat.min_le_right ..⟩
  · exact ⟨_, _, _, _, rfl, Nat.min_le_right ..⟩

@[simp] theorem grantEntry_active (x : LaneCarrier) : (grantEntry x).active = x.active := by
  unfold grantEntry; (repeat' split) <;> simp
@[simp] theorem grantEntry_hold (x : LaneCarrier) : (grantEntry x).hold = x.hold := by
  unfold grantEntry; (repeat' split) <;> simp
theorem grantEntry_entry (x : LaneCarrier) : (grantEntry x).entry = none := by
  unfold grantEntry
  split
  · split <;> simp
  · next h => exact h

end Sys2Proof.Machine
end

