-- ==== Sys2Proof/WellFormed.lean ====
section
/-!
DEFINITION. The checks that a command's operands meet when the spec's transactions, events and messages can carry
them.
-/
namespace Sys2Proof

open Sys2Proof.Machine

/-- A hand-over time's place in a frame start. -/
def HandoverTime.rank : HandoverTime → Nat
  | .beforeBlocks => 0 | .beforeFields => 1 | .last => 2

/-- Blind reports come no later than missing notices: step 4 of R3 before step 5. -/
def FrameOrder.ok (o : FrameOrder) : Bool := o.reports.rank ≤ o.notices.rank

/-- A payload fits in a frame: LEN counts KIND, TAG and payload and is at most 250 (11.6, Envelope). -/
def payloadFits (payload : List Byte) : Bool := payload.length ≤ 248

/-- A KIND that names no message (R179). -/
def namesNoMessage (kind : Byte) : Bool := (Message.ofKind? kind).isNone

/-- The payload of a host message; none for the other commands. -/
def Instr.payload? : Instr → Option (List Byte)
  | .frameStart _ _ => none
  | .blindReport _ => none
  | .graceExpiry _ => none
  | .pingpongWindowExpiry _ => none
  | .rxSwitch _ => none
  | .requestTimeout _ => none
  | .announcementSwitch => none
  | .pcuShadowLoad _ => none
  | .mapShadowLoad => none
  | .commit => none
  | .frameLoss => none
  | .carrierReport _ _ _ _ _ => none
  | .fieldIn _ _ => none
  | .faultInputChange _ => none
  | .powerOnReset _ _ => none
  | .hmlReceiveTimeout => none
  | .lineClear => none
  | .hmlFrameRejected _ => none
  | .replySent => none
  | .badKindMessage _ _ p => some p
  | .identify _ p => some p
  | .readStaged _ p => some p
  | .readWorking _ p => some p
  | .stageLink _ p => some p
  | .stageCarrier _ p => some p
  | .stageProfile _ p => some p
  | .stageTableLength _ p => some p
  | .stageClass _ p => some p
  | .apply _ p => some p
  | .readCarrier _ p => some p
  | .readBranches _ p => some p
  | .readLane _ p => some p
  | .readMap _ p => some p
  | .setPause _ p => some p
  | .setCombine _ p => some p
  | .setTxHold _ p => some p
  | .abort _ p => some p
  | .resume _ p => some p
  | .readEvents _ p => some p
  | .clearEvents _ p => some p
  | .setEventMode _ p => some p
  | .reset _ p => some p
  | .hmlByte _ _ => none
  | .lineReturnsHigh => none

/-- The checks of one command beside its payload's length. -/
def Instr.operandsOk : Instr → Bool
  | .frameStart _ order => order.ok
  | .badKindMessage kind _ _ => namesNoMessage kind
  | .blindReport _ | .graceExpiry _ | .pingpongWindowExpiry _ | .rxSwitch _ | .requestTimeout _
  | .announcementSwitch | .pcuShadowLoad _ | .mapShadowLoad | .commit | .frameLoss | .carrierReport _ _ _ _ _
  | .fieldIn _ _ | .faultInputChange _ | .powerOnReset _ _ | .hmlReceiveTimeout | .lineClear
  | .hmlFrameRejected _ | .replySent | .identify _ _ | .readStaged _ _ | .readWorking _ _ | .stageLink _ _
  | .stageCarrier _ _ | .stageProfile _ _ | .stageTableLength _ _ | .stageClass _ _ | .apply _ _
  | .readCarrier _ _ | .readBranches _ _ | .readLane _ _ | .readMap _ _ | .setPause _ _ | .setCombine _ _
  | .setTxHold _ _ | .abort _ _ | .resume _ _ | .readEvents _ _ | .clearEvents _ _ | .setEventMode _ _
  | .reset _ _ | .hmlByte _ _ | .lineReturnsHigh => true

/-- The command is well formed. -/
def Instr.wellFormed (i : Instr) : Bool :=
  i.operandsOk && (match i.payload? with
    | some p => payloadFits p
    | none => true)

end Sys2Proof
end

