-- ==== Sys2Proof/Laws/PerInstr.lean ====
section
/-!
SUPPORT. The family `MessageFrame`, made per command: a command that is a good frame of a message carries that message's
payload, names it by a KIND that no other message has, and is well formed exactly when the payload fits in a frame
(11.6, Envelope and KIND table).
-/
open Sys2Proof Sys2Proof.Machine

/-- What the family says of one command. -/
def Sys2Proof.Laws.MessageFrame.Statement (i : Instr) : Prop :=
  ∀ (m : Message) (tag : Byte) (payload : List Byte), messageCommand m tag payload = i →
    i.payload? = some payload ∧ Message.ofKind? m.kind = some m ∧ (i.wellFormed = true ↔ payload.length ≤ 248)

/-- The family holds of every message. -/
theorem Sys2Proof.Laws.messageFrame_of_message (i : Instr) : Sys2Proof.Laws.MessageFrame.Statement i := by
  intro m tag payload h
  subst h
  refine ⟨by cases m <;> rfl, by cases m <;> decide, ?_⟩
  cases m <;> simp [messageCommand, Instr.wellFormed, Instr.operandsOk, Instr.payload?, payloadFits]

theorem Sys2Proof.Laws.MessageFrame.frameStart (n : FrameNo) (order : FrameOrder) :
    Sys2Proof.Laws.MessageFrame.Statement (.frameStart n order) := Sys2Proof.Laws.messageFrame_of_message _

theorem Sys2Proof.Laws.MessageFrame.blindReport (c : Carrier) :
    Sys2Proof.Laws.MessageFrame.Statement (.blindReport c) := Sys2Proof.Laws.messageFrame_of_message _

theorem Sys2Proof.Laws.MessageFrame.graceExpiry (c : Carrier) :
    Sys2Proof.Laws.MessageFrame.Statement (.graceExpiry c) := Sys2Proof.Laws.messageFrame_of_message _

theorem Sys2Proof.Laws.MessageFrame.pingpongWindowExpiry (c : Carrier) :
    Sys2Proof.Laws.MessageFrame.Statement (.pingpongWindowExpiry c) := Sys2Proof.Laws.messageFrame_of_message _

theorem Sys2Proof.Laws.MessageFrame.rxSwitch (c : Carrier) :
    Sys2Proof.Laws.MessageFrame.Statement (.rxSwitch c) := Sys2Proof.Laws.messageFrame_of_message _

theorem Sys2Proof.Laws.MessageFrame.requestTimeout (c : Carrier) :
    Sys2Proof.Laws.MessageFrame.Statement (.requestTimeout c) := Sys2Proof.Laws.messageFrame_of_message _

theorem Sys2Proof.Laws.MessageFrame.announcementSwitch :
    Sys2Proof.Laws.MessageFrame.Statement .announcementSwitch := Sys2Proof.Laws.messageFrame_of_message _

theorem Sys2Proof.Laws.MessageFrame.pcuShadowLoad (c : Carrier) :
    Sys2Proof.Laws.MessageFrame.Statement (.pcuShadowLoad c) := Sys2Proof.Laws.messageFrame_of_message _

theorem Sys2Proof.Laws.MessageFrame.mapShadowLoad :
    Sys2Proof.Laws.MessageFrame.Statement .mapShadowLoad := Sys2Proof.Laws.messageFrame_of_message _

theorem Sys2Proof.Laws.MessageFrame.commit :
    Sys2Proof.Laws.MessageFrame.Statement .commit := Sys2Proof.Laws.messageFrame_of_message _

theorem Sys2Proof.Laws.MessageFrame.frameLoss :
    Sys2Proof.Laws.MessageFrame.Statement .frameLoss := Sys2Proof.Laws.messageFrame_of_message _

theorem Sys2Proof.Laws.MessageFrame.carrierReport (c : Carrier) (f : FrameNo) (a b : Option BranchPart) (errors : BitVec 8) :
    Sys2Proof.Laws.MessageFrame.Statement (.carrierReport c f a b errors) := Sys2Proof.Laws.messageFrame_of_message _

theorem Sys2Proof.Laws.MessageFrame.fieldIn (c : Carrier) (field : Option RawField) :
    Sys2Proof.Laws.MessageFrame.Statement (.fieldIn c field) := Sys2Proof.Laws.messageFrame_of_message _

theorem Sys2Proof.Laws.MessageFrame.faultInputChange (asserted : Bool) :
    Sys2Proof.Laws.MessageFrame.Statement (.faultInputChange asserted) := Sys2Proof.Laws.messageFrame_of_message _

theorem Sys2Proof.Laws.MessageFrame.powerOnReset (straps : BitVec 2) (fault : Bool) :
    Sys2Proof.Laws.MessageFrame.Statement (.powerOnReset straps fault) := Sys2Proof.Laws.messageFrame_of_message _

theorem Sys2Proof.Laws.MessageFrame.hmlReceiveTimeout :
    Sys2Proof.Laws.MessageFrame.Statement .hmlReceiveTimeout := Sys2Proof.Laws.messageFrame_of_message _

theorem Sys2Proof.Laws.MessageFrame.lineClear :
    Sys2Proof.Laws.MessageFrame.Statement .lineClear := Sys2Proof.Laws.messageFrame_of_message _

theorem Sys2Proof.Laws.MessageFrame.hmlFrameRejected (reason : RejectReason) :
    Sys2Proof.Laws.MessageFrame.Statement (.hmlFrameRejected reason) := Sys2Proof.Laws.messageFrame_of_message _

theorem Sys2Proof.Laws.MessageFrame.replySent :
    Sys2Proof.Laws.MessageFrame.Statement .replySent := Sys2Proof.Laws.messageFrame_of_message _

theorem Sys2Proof.Laws.MessageFrame.badKindMessage (kind tag : Byte) (payload : List Byte) :
    Sys2Proof.Laws.MessageFrame.Statement (.badKindMessage kind tag payload) := Sys2Proof.Laws.messageFrame_of_message _

theorem Sys2Proof.Laws.MessageFrame.identify (tag : Byte) (payload : List Byte) :
    Sys2Proof.Laws.MessageFrame.Statement (.identify tag payload) := Sys2Proof.Laws.messageFrame_of_message _

theorem Sys2Proof.Laws.MessageFrame.readStaged (tag : Byte) (payload : List Byte) :
    Sys2Proof.Laws.MessageFrame.Statement (.readStaged tag payload) := Sys2Proof.Laws.messageFrame_of_message _

theorem Sys2Proof.Laws.MessageFrame.readWorking (tag : Byte) (payload : List Byte) :
    Sys2Proof.Laws.MessageFrame.Statement (.readWorking tag payload) := Sys2Proof.Laws.messageFrame_of_message _

theorem Sys2Proof.Laws.MessageFrame.stageLink (tag : Byte) (payload : List Byte) :
    Sys2Proof.Laws.MessageFrame.Statement (.stageLink tag payload) := Sys2Proof.Laws.messageFrame_of_message _

theorem Sys2Proof.Laws.MessageFrame.stageCarrier (tag : Byte) (payload : List Byte) :
    Sys2Proof.Laws.MessageFrame.Statement (.stageCarrier tag payload) := Sys2Proof.Laws.messageFrame_of_message _

theorem Sys2Proof.Laws.MessageFrame.stageProfile (tag : Byte) (payload : List Byte) :
    Sys2Proof.Laws.MessageFrame.Statement (.stageProfile tag payload) := Sys2Proof.Laws.messageFrame_of_message _

theorem Sys2Proof.Laws.MessageFrame.stageTableLength (tag : Byte) (payload : List Byte) :
    Sys2Proof.Laws.MessageFrame.Statement (.stageTableLength tag payload) := Sys2Proof.Laws.messageFrame_of_message _

theorem Sys2Proof.Laws.MessageFrame.stageClass (tag : Byte) (payload : List Byte) :
    Sys2Proof.Laws.MessageFrame.Statement (.stageClass tag payload) := Sys2Proof.Laws.messageFrame_of_message _

theorem Sys2Proof.Laws.MessageFrame.apply (tag : Byte) (payload : List Byte) :
    Sys2Proof.Laws.MessageFrame.Statement (.apply tag payload) := Sys2Proof.Laws.messageFrame_of_message _

theorem Sys2Proof.Laws.MessageFrame.readCarrier (tag : Byte) (payload : List Byte) :
    Sys2Proof.Laws.MessageFrame.Statement (.readCarrier tag payload) := Sys2Proof.Laws.messageFrame_of_message _

theorem Sys2Proof.Laws.MessageFrame.readBranches (tag : Byte) (payload : List Byte) :
    Sys2Proof.Laws.MessageFrame.Statement (.readBranches tag payload) := Sys2Proof.Laws.messageFrame_of_message _

theorem Sys2Proof.Laws.MessageFrame.readLane (tag : Byte) (payload : List Byte) :
    Sys2Proof.Laws.MessageFrame.Statement (.readLane tag payload) := Sys2Proof.Laws.messageFrame_of_message _

theorem Sys2Proof.Laws.MessageFrame.readMap (tag : Byte) (payload : List Byte) :
    Sys2Proof.Laws.MessageFrame.Statement (.readMap tag payload) := Sys2Proof.Laws.messageFrame_of_message _

theorem Sys2Proof.Laws.MessageFrame.setPause (tag : Byte) (payload : List Byte) :
    Sys2Proof.Laws.MessageFrame.Statement (.setPause tag payload) := Sys2Proof.Laws.messageFrame_of_message _

theorem Sys2Proof.Laws.MessageFrame.setCombine (tag : Byte) (payload : List Byte) :
    Sys2Proof.Laws.MessageFrame.Statement (.setCombine tag payload) := Sys2Proof.Laws.messageFrame_of_message _

theorem Sys2Proof.Laws.MessageFrame.setTxHold (tag : Byte) (payload : List Byte) :
    Sys2Proof.Laws.MessageFrame.Statement (.setTxHold tag payload) := Sys2Proof.Laws.messageFrame_of_message _

theorem Sys2Proof.Laws.MessageFrame.abort (tag : Byte) (payload : List Byte) :
    Sys2Proof.Laws.MessageFrame.Statement (.abort tag payload) := Sys2Proof.Laws.messageFrame_of_message _

theorem Sys2Proof.Laws.MessageFrame.resume (tag : Byte) (payload : List Byte) :
    Sys2Proof.Laws.MessageFrame.Statement (.resume tag payload) := Sys2Proof.Laws.messageFrame_of_message _

theorem Sys2Proof.Laws.MessageFrame.readEvents (tag : Byte) (payload : List Byte) :
    Sys2Proof.Laws.MessageFrame.Statement (.readEvents tag payload) := Sys2Proof.Laws.messageFrame_of_message _

theorem Sys2Proof.Laws.MessageFrame.clearEvents (tag : Byte) (payload : List Byte) :
    Sys2Proof.Laws.MessageFrame.Statement (.clearEvents tag payload) := Sys2Proof.Laws.messageFrame_of_message _

theorem Sys2Proof.Laws.MessageFrame.setEventMode (tag : Byte) (payload : List Byte) :
    Sys2Proof.Laws.MessageFrame.Statement (.setEventMode tag payload) := Sys2Proof.Laws.messageFrame_of_message _

theorem Sys2Proof.Laws.MessageFrame.reset (tag : Byte) (payload : List Byte) :
    Sys2Proof.Laws.MessageFrame.Statement (.reset tag payload) := Sys2Proof.Laws.messageFrame_of_message _

theorem Sys2Proof.Laws.MessageFrame.hmlByte (byte : Byte) (stopHigh : Bool) :
    Sys2Proof.Laws.MessageFrame.Statement (.hmlByte byte stopHigh) := Sys2Proof.Laws.messageFrame_of_message _

theorem Sys2Proof.Laws.MessageFrame.lineReturnsHigh :
    Sys2Proof.Laws.MessageFrame.Statement .lineReturnsHigh := Sys2Proof.Laws.messageFrame_of_message _
end

