-- ==== Sys2Proof/Laws/Receive.lean ====
section
/-!
SUPPORT. What the Receive Adaptation Unit's operations on a context leave alone, and the bounds of a downgrade's target.
-/
namespace Sys2Proof.Machine

/-- A new seq is never the far-end consumed seq, and never the one it replaces (R83). -/
theorem nextSeq_ne (s consumed : Seq) : nextSeq s consumed ≠ consumed ∧ nextSeq s consumed ≠ s := by
  revert s consumed; decide

@[simp] theorem cancelRequest_kind (x : RxContext) : (cancelRequest x).request.kind = .none := by
  unfold cancelRequest isOpen replaceByNone
  split
  · rfl
  · next h => simpa using h
@[simp] theorem cancelRequest_active (x : RxContext) : (cancelRequest x).active = x.active := by
  unfold cancelRequest; split <;> rfl
@[simp] theorem cancelRequest_phase (x : RxContext) : (cancelRequest x).phase = x.phase := by
  unfold cancelRequest; split <;> rfl
@[simp] theorem cancelRequest_armed (x : RxContext) : (cancelRequest x).armed = x.armed := by
  unfold cancelRequest; split <;> rfl
@[simp] theorem cancelRequest_hold (x : RxContext) : (cancelRequest x).hold = x.hold := by
  unfold cancelRequest; split <;> rfl
@[simp] theorem cancelRequest_m (x : RxContext) : (cancelRequest x).m = x.m := by
  unfold cancelRequest; split <;> rfl
@[simp] theorem cancelRequest_upCounter (x : RxContext) : (cancelRequest x).upCounter = x.upCounter := by
  unfold cancelRequest; split <;> rfl
@[simp] theorem cancelRequest_guardOpen (x : RxContext) : (cancelRequest x).guardOpen = x.guardOpen := by
  unfold cancelRequest; split <;> rfl
@[simp] theorem cancelRequest_refused (x : RxContext) : (cancelRequest x).refused = x.refused := by
  unfold cancelRequest; split <;> rfl
@[simp] theorem cancelRequest_hostPause (x : RxContext) : (cancelRequest x).hostPause = x.hostPause := by
  unfold cancelRequest; split <;> rfl
@[simp] theorem cancelRequest_consumed (x : RxContext) : (cancelRequest x).consumed = x.consumed := by
  unfold cancelRequest; split <;> rfl
@[simp] theorem cancelRequest_linked (x : RxContext) : (cancelRequest x).linked = x.linked := by
  unfold cancelRequest; split <;> rfl

/-- The highest held profile lies below the one left, and is P0 or held by the prediction (R77). -/
theorem highestHeld_spec (table : List ProfileRecord) (pr : Int) (a : Nat) (h : 0 < a) :
    highestHeld table pr a < a ∧
    (highestHeld table pr a = 0 ∨ reachesDown table (highestHeld table pr a) pr = true) ∧
    ∀ q, highestHeld table pr a < q → q < a → reachesDown table q pr = false := by
  induction a with
  | zero => omega
  | succ a ih =>
    unfold highestHeld
    split
    · next hc =>
      refine ⟨Nat.lt_succ_self a, ?_, fun q h1 h2 => by omega⟩
      rcases Nat.eq_zero_or_pos a with h0 | h0
      · exact .inl h0
      · simp only [Bool.or_eq_true, decide_eq_true_eq] at hc
        rcases hc with hc | hc
        · omega
        · exact .inr hc
    · next hc =>
      simp only [Bool.or_eq_true, decide_eq_true_eq, not_or] at hc
      obtain ⟨h1, h2, h3⟩ := ih (by omega)
      refine ⟨by omega, h2, fun q hq1 hq2 => ?_⟩
      rcases Nat.lt_or_ge q a with hq | hq
      · exact h3 q hq1 hq
      · have : q = a := by omega
        rw [this]; simpa using hc.2

/-- A downgrade's target lies below the profile left, and within the ceiling (R66, R77). -/
theorem downgradeTarget_lt (env : RxEnv) (a : Nat) (h : Handover) :
    ∀ t ∈ downgradeTarget env a h, t < a ∧ t ≤ env.ceiling := by
  intro t ht
  have hle : ∀ v, t = min env.ceiling v → v < a → t < a ∧ t ≤ env.ceiling := fun v hv hva => by omega
  unfold downgradeTarget at ht
  split at ht
  · next hc =>
    simp only [Bool.and_eq_true, decide_eq_true_eq] at hc
    exact hle 0 (by simpa [eq_comm] using ht) hc.2
  · split at ht
    · next hc =>
      simp only [Bool.and_eq_true, decide_eq_true_eq] at hc
      exact hle _ (by simpa [eq_comm] using ht) (highestHeld_spec _ _ _ hc.1).1
    · split at ht
      · next hc =>
        simp only [Bool.and_eq_true, decide_eq_true_eq] at hc
        exact hle (a - 1) (by simpa [eq_comm] using ht) (by omega)
      · split at ht
        · next hc =>
          have : t = env.ceiling := by simpa [eq_comm] using ht
          omega
        · simp at ht

end Sys2Proof.Machine
end

