-- ==== Sys2Proof/Tests/Slice0.lean ====
section
/-!
SUPPORT. Tests. First the refusals of WellFormed; then small tests whose expected results are the spec's own worked cases,
named with their sections; then, for every statement with hypotheses, a theorem that a concrete state and operands meet
them (`wit_…`), each clause at a boundary value of its range.
-/
namespace Sys2Proof.Tests

-- One test after another: tests elaborated at once, each on a thread with a stack of its own, exceed the memory limit.
set_option Elab.async false

open Sys2Proof Sys2Proof.Machine

/-! ### WellFormed refuses -/

theorem test_payload_of_249_refused : (Instr.identify 0 (List.replicate 249 0)).wellFormed = false := by decide +kernel
theorem test_payload_of_248_accepted : (Instr.identify 0 (List.replicate 248 0)).wellFormed = true := by decide +kernel
theorem test_reports_after_notices_refused :
    (Instr.frameStart 1 { reports := .last, notices := .beforeBlocks }).wellFormed = false := by decide
theorem test_reports_before_notices_accepted :
    (Instr.frameStart 1 { reports := .beforeBlocks, notices := .last }).wellFormed = true := by decide
theorem test_bad_kind_naming_a_message_refused : (Instr.badKindMessage 0x20 0 []).wellFormed = false := by decide
theorem test_bad_kind_naming_none_accepted : (Instr.badKindMessage 0x02 0 []).wellFormed = true := by decide

/-! ### Words of the command table: no row gives bits -/

theorem test_no_word_spells_a_command : decodeTableWord 32 0xA6010203 = none := by decide

/-! ### Fixtures: the six-profile table of 4.8, and a running link on it -/

def table48 : List ProfileRecord :=
  [{ modCode := 1, capacity := 8, down := none, up := none, backoffFloor := 0 },
   { modCode := 2, capacity := 12, down := some 28, up := some 36, backoffFloor := 0 },
   { modCode := 4, capacity := 18, down := some 40, up := some 48, backoffFloor := 1 },
   { modCode := 5, capacity := 24, down := some 52, up := some 60, backoffFloor := 2 },
   { modCode := 7, capacity := 30, down := some 64, up := some 72, backoffFloor := 3 },
   { modCode := 9, capacity := 36, down := some 78, up := some 88, backoffFloor := 4 }]

def slots48 : Vector (Option ProfileRecord) 12 :=
  #v[table48[0]?, table48[1]?, table48[2]?, table48[3]?, table48[4]?, table48[5]?, none, none, none, none, none, none]

/-- An enabled carrier with both ceilings at P5 and ATPC as in 8.7. -/
def onFive : CarrierParams :=
  { CarrierParams.default with
    enable := true, rxCeiling := 5, txCeiling := 5, atpcEnable := true, period := 3, maxAtten := 6 }

/-- The class table of 9.6. -/
def classes96 : Eight ClassRecord :=
  ⟨{ active := true, priority := 0, need := 8, split := false, min := none, home := .c0 },
   { active := true, priority := 1, need := 20, split := true, min := some 10, home := .c1 },
   { active := true, priority := 2, need := 24, split := true, min := some 12, home := .c2 },
   { active := true, priority := 3, need := 16, split := false, min := none, home := .c3 },
   { active := true, priority := 4, need := 30, split := true, min := some 10, home := .c0 },
   { active := true, priority := 5, need := 12, split := false, min := none, home := .c1 },
   { active := true, priority := 6, need := 20, split := true, min := some 6, home := .c2 },
   { active := false, priority := 7, need := 1, split := false, min := none, home := .c0 }⟩

def staged48 : StagedSet :=
  { link := .default, carriers := ⟨onFive, onFive, .default, .default⟩, slots := slots48, tableLength := 6,
    classes := classes96 }

def working48 : WorkingSet :=
  { link := .default, carriers := ⟨onFive, onFive, .default, .default⟩, table := table48, classes := classes96 }

/-- A receive context in WORKING on a profile. -/
def rxOn (active hold : Nat) : RxContext :=
  { RxContext.initial with phase := .working, active := active, linked := true, hold := hold }

/-- A lane carrier on a profile with nothing pending. -/
def laneOn (active : Nat) : LaneCarrier :=
  { entry := none, active := active, lastAnswered := 2, answer := { kind := .none, seq := 2 }, hold := false }

def estOf (e : Int) : EstRecord :=
  { est := some { e := e, history := [e], r := 0, pr := e }, margin := 0, fade := false }

/-- RUNNING in frame 10 with C0 and C1 enabled, both on P3 both ways, every event kind on. -/
def live : State :=
  { State.reset with
    port := { State.reset.port with current := some 10, previous := some 9, watch := some 2500 }
    staged := staged48
    working := working48
    rau := ⟨rxOn 3 4, rxOn 3 1, .initial, .initial⟩
    lane := { announcement := none, carriers := ⟨laneOn 3, laneOn 3, laneOn 0, laneOn 0⟩ }
    est := ⟨estOf 900, estOf 1000, .unseeded, .unseeded⟩
    events := { modes := Vector.replicate 16 { on := true, edge := .both },
                entries := [{ kind := .sigLost, index := 1, edge := some .enter, frame := some 9 }] } }

def first : State := { live with port := Port.initial }

def lost : State :=
  { live with
    port := { live.port with link := .frameLost, watch := none }
    rau := ⟨rxFrameLoss (rxOn 3 4), rxFrameLoss (rxOn 3 1), .initial, .initial⟩
    mapper := Mapper.initial
    est := .fill .unseeded }

/-- The state after a step that answers next. -/
def after (o : Host.Outcome State Fault Refusal) : Option State :=
  match o with
  | .next t => some t
  | .fault _ => none
  | .refused _ => none

/-- The status of the reply being sent. -/
def status (o : Host.Outcome State Fault Refusal) : Option Byte :=
  (after o).bind fun t => match t.hml.transmitter with
    | .sending r _ => r.payload.head?
    | .idle => none

def noOrder : FrameOrder := { reports := .beforeBlocks, notices := .beforeBlocks }

/-! ### 02, 2.4: combining and the filter -/

/-- 2.4, Case 3, the COMBINE rows. -/
theorem test_combining_rows :
    combineBranches .combine (some 94) (some 86) = some 102 ∧
    combineBranches .combine (some 150) (some 120) = some 154 ∧
    combineBranches .select (some 150) (some 120) = some 150 ∧
    combineBranches .combine (some 160) (some 158) = some 160 ∧
    combineBranches .combine (some 100) (some 37) = some 101 ∧
    combineBranches .combine (some 100) (some 30) = some 100 := by decide

/-- 2.4, Case 3, the rows FORCE_B with both locked and FORCE_A with A unlocked. -/
theorem test_forced_modes :
    eligibleSnr .forceB .a .healthy (some { lock := true, snr := 60, level := -60 }) = none ∧
    eligibleSnr .forceA .b .healthy (some { lock := true, snr := 90, level := -60 }) = none ∧
    eligibleSnr .combine .a .faulted (some { lock := true, snr := 90, level := -60 }) = none ∧
    eligibleSnr .combine .b .suspect (some { lock := true, snr := 55, level := -60 }) = some 55 := by decide

/-- 2.4, Case 1: reports 1 and 2. -/
theorem test_case_1_of_2_4 :
    let link := { LinkParams.default with filterShift := 2 }
    let before : Estimate :=
      { e := 1600, history := [1760, 1744, 1720, 1696, 1672, 1648, 1624, 1600], r := 0, pr := 1600 }
    let one := nextEstimate link (some before) 1632
    let two := nextEstimate link (some one) 640
    (one.e, one.r, one.pr, marginOf 1280 one.pr) = (1608, -19, 1532, 7) ∧
    (two.e, two.r, two.pr, marginOf 1280 two.pr) = (640, -138, 88, 0) := by decide

/-- 2.4, Case 6: the first blind report. -/
theorem test_blind_report_of_2_4 :
    let before : Estimate := { e := 1500, history := List.replicate 8 1500, r := 0, pr := 1500 }
    let one := nextEstimate LinkParams.default (some before) 0
    (one.e, one.r, one.pr) = (0, -188, 0) := by decide

/-! ### 04, 4.9: refused APPLY messages -/

def stagedWith (p : Nat) (f : ProfileRecord → ProfileRecord) : StagedSet :=
  { staged48 with slots := slots48.setIfInBounds p ((slots48[p]?.getD none).map f) }

theorem test_table_48_passes : stagedTableOk staged48 = true := by decide
theorem test_rows_of_4_9_fail :
    stagedTableOk (stagedWith 3 fun r => { r with capacity := 16 }) = false ∧
    stagedTableOk (stagedWith 4 fun r => { r with up := some 66 }) = false ∧
    stagedTableOk (stagedWith 5 fun r => { r with down := some 64 }) = false ∧
    stagedTableOk (stagedWith 0 fun r => { r with backoffFloor := 2 }) = false ∧
    stagedTableOk (stagedWith 4 fun r => { r with modCode := 5 }) = false ∧
    stagedTableOk { staged48 with tableLength := 1 } = false ∧
    stagedTableOk { staged48 with tableLength := 7 } = false := by decide

/-! ### 06: the check sequence and validity -/

/-- R100: the two rows of its table, and 0 over all six bytes of the second. -/
theorem test_crc8 :
    crc8 [0, 0, 0, 0, 0] = 0 ∧ crc8 [1, 0, 0, 0, 0] = 0x62 ∧ crc8 [1, 0, 0, 0, 0, 0x62] = 0 := by decide +kernel
/-- R178: over the bytes 0x31 to 0x39 the CRC-16 gives 0x29B1. -/
theorem test_crc16 : crc16 [0x31, 0x32, 0x33, 0x34, 0x35, 0x36, 0x37, 0x38, 0x39] = 0x29B1 := by decide +kernel

/-- The field of 6.9: VER 1, ACTIVE 3, NEXT 15, COUNT 0, REQ NONE 15, ANS GRANTED. -/
def parts69 : FieldParts :=
  { ver := 1, active := 3, next := 15, count := 0, fade := false, reqKind := .none, reqSeq := 0, ansSeq := 0,
    reqTarget := 15, ansKind := none, equipFault := false, margin := 0, aborted := false }

def valid69 (p : FieldParts) : Bool := fieldValid 6 (writeField p .granted)

theorem test_validity_rows_of_6_9 :
    [valid69 parts69, valid69 { parts69 with ver := 2 }, valid69 { parts69 with active := 6 },
     valid69 { parts69 with next := 4 }, valid69 { parts69 with count := 3 },
     valid69 { parts69 with next := 7, count := 2 }, valid69 { parts69 with next := 4, count := 7 },
     valid69 { parts69 with reqKind := .up, reqTarget := 6 }, valid69 { parts69 with reqTarget := 9 },
     valid69 { parts69 with reqKind := .up, reqTarget := 5 },
     valid69 { parts69 with margin := 63, fade := true, equipFault := true },
     fieldValid 6 { b0 := 0, b1 := 0, b2 := 0, b3 := 0, b4 := 0, b5 := 0 }] =
    [true, false, false, false, false, false, true, false, true, true, true, false] := by decide +kernel

/-- 6.9: an ANS_KIND code that names no kind (5, 6 or 7 in bits 3 to 1 of byte 3). -/
theorem test_unnamed_answer_kind_is_invalid :
    [5, 6, 7].map (fun code : Nat =>
      let b3 : Byte := 0xF0#8 ||| BitVec.ofNat 8 (2 * code)
      fieldValid 6 { b0 := 0x13, b1 := 0xF0, b2 := 0, b3 := b3, b4 := 0, b5 := crc8 [0x13, 0xF0, 0, b3, 0] }) =
    [false, false, false] := by decide +kernel

/-! ### 07: the rows of the intake's worked case -/

def c1Of7 : LaneCarrier :=
  { entry := some (.far 4 .up 4 (some 500) false), active := 3, lastAnswered := 2,
    answer := { kind := .deferred, seq := 4 }, hold := false }

def intakeOf7 (ceiling : Nat) (aborted : Bool) (kind : ReqKind) (seq : Seq) (target : Nat) (x : LaneCarrier) :
    Option Entry × Answer × Seq :=
  let y := intakeRequest ceiling 6 aborted (some 520) kind seq target x
  (y.entry, y.answer, y.lastAnswered)

theorem test_intake_rows_1_to_7 :
    [intakeOf7 4 false .up 2 4 c1Of7, intakeOf7 4 false .up 4 4 c1Of7, intakeOf7 4 false .none 5 15 c1Of7,
     intakeOf7 4 false .up 5 5 c1Of7, intakeOf7 4 false .down 5 1 c1Of7, intakeOf7 4 false .down 5 3 c1Of7,
     intakeOf7 4 false .urgent 5 4 c1Of7] =
    [(some (.far 4 .up 4 (some 500) false), { kind := .deferred, seq := 4 }, 2),
     (some (.far 4 .up 4 (some 500) false), { kind := .deferred, seq := 4 }, 2),
     (none, { kind := .cancelled, seq := 5 }, 5),
     (some (.far 5 .up 4 (some 520) false), { kind := .deferred, seq := 5 }, 2),
     (some (.far 5 .down 1 (some 520) false), { kind := .deferred, seq := 5 }, 2),
     (none, { kind := .refused, seq := 5 }, 5), (none, { kind := .refused, seq := 5 }, 5)] := by decide

theorem test_intake_rows_8_to_12 :
    let empty := { c1Of7 with entry := none }
    let own := { c1Of7 with entry := some (.own .sigloss .urgent 0 none) }
    [intakeOf7 3 false .up 5 4 empty, intakeOf7 4 false .up 5 4 { empty with hold := true },
     intakeOf7 4 false .down 5 1 own, intakeOf7 4 true .urgent 5 0 empty, intakeOf7 4 true .none 5 15 empty] =
    [(none, { kind := .refused, seq := 5 }, 5), (none, { kind := .refused, seq := 5 }, 5),
     (some (.own .sigloss .urgent 0 none), { kind := .deferred, seq := 5 }, 2),
     (none, { kind := .refused, seq := 5 }, 5), (none, { kind := .cancelled, seq := 5 }, 5)] := by decide

/-! ### 08, 8.7: power steps -/

theorem test_power_steps_of_8_7 :
    let at0 : PowerCarrier := { atpc := 0, period := 0, eff := 2, shadow := none }
    let one := powerStep onFive 20 false at0
    let held := powerStep onFive 19 false { one with period := 2 }
    let down := powerStep onFive 3 false { one with atpc := 3, period := 1 }
    ((one.atpc, one.period), (held.atpc, held.period), (down.atpc, down.period)) = ((1, 3), (1, 2), (1, 1)) ∧
    (powerStep onFive 0 true down).atpc = 0 ∧ effectiveAtten table48 4 one = 3 := by decide

/-! ### 09, 9.6 and 9.7: the rain fade -/

/-- 9.6, the first bundle: capacities 30, 30, 12, 18. -/
theorem test_first_bundle_of_9_6 :
    let p := placement ⟨30, 30, 12, 18⟩ classes96
    p.maps = ⟨[(.k0, 8), (.k3, 16), (.k4, 6)], [(.k1, 20), (.k4, 10)], [(.k2, 12)], [(.k2, 12), (.k4, 6)]⟩ ∧
    (Cls.all.map fun k => ((p.entries.get k).state, (p.entries.get k).placed)) =
      [(.placed, 8), (.placed, 20), (.placed, 24), (.placed, 16), (.partly, 22), (.shed, 0), (.shed, 0),
       (.inactive, 0)] := by decide +kernel

/-- 9.6, the second bundle, and 9.7, the placement with C3 disabled. -/
theorem test_later_placements_of_9_6_and_9_7 :
    (placement ⟨12, 30, 12, 18⟩ classes96).maps =
      ⟨[(.k0, 8), (.k4, 4)], [(.k1, 20), (.k4, 10)], [(.k2, 12)], [(.k2, 12), (.k4, 6)]⟩ ∧
    (placement ⟨12, 30, 12, 0⟩ classes96).maps =
      ⟨[(.k0, 8), (.k2, 4)], [(.k1, 20), (.k2, 8)], [(.k2, 12)], []⟩ := by decide +kernel

/-- 9.7: the maps conformed when C3 is disabled. -/
theorem test_conforming_of_9_7 :
    let w := { working48 with carriers := ⟨onFive, onFive, onFive, { onFive with enable := false }⟩ }
    let p := conform w (fun c => c = .c3) (fun c => if c = .c1 then 4 else if c = .c3 then 0 else 1)
      (placement ⟨12, 30, 12, 18⟩ classes96)
    p.maps = ⟨[(.k0, 8), (.k4, 4)], [(.k1, 20), (.k4, 10)], [(.k2, 12)], []⟩ ∧
    ((p.entries.get .k2).state, (p.entries.get .k2).placed) = (.partly, 12) ∧
    ((p.entries.get .k4).state, (p.entries.get .k4).placed) = (.partly, 14) := by decide +kernel

/-! ### 11, 11.7: the worked exchange -/

/-- The staged set of 4.8 with C0 alone enabled, on an unconfigured part. -/
def exchange (ceiling : Nat) : State :=
  { State.reset with
    staged := { staged48 with
      carriers := ⟨{ onFive with rxCeiling := ceiling, txCeiling := ceiling }, .default, .default, .default⟩ }
    events := { State.reset.events with modes := Vector.replicate 16 { on := true, edge := .enter } } }

theorem test_apply_of_11_7_with_ceiling_11 : status (exec (.apply 1 []) (exchange 11)) = some 5 := by decide +kernel
theorem test_apply_of_11_7_with_ceiling_5 : status (exec (.apply 1 []) (exchange 5)) = some 0 := by decide +kernel

theorem test_staging_while_pending_is_busy :
    status (exec (.stageCarrier 1 (0 :: carrierBytes { onFive with rxCeiling := 4 }))
      ((exchange 5).setApplyPending true)) = some 1 := by decide +kernel

/-- 11.7: FRAME_START(12) commits, T becomes 6, and APPLY_DONE is latched with frame 12. -/
theorem test_commit_of_11_7 :
    (after (exec (.frameStart 12 noOrder) ((exchange 5).setApplyPending true))).map
      (fun t => (t.applyPending, t.working.length, t.events.entries, t.alert)) =
    some (false, 6, [{ kind := .applyDone, index := 0, edge := none, frame := some 12 }], true) := by decide +kernel

/-- R185: READ_EVENTS after that commit: one entry, kind 12, index 0, frame 12. -/
theorem test_read_events_of_11_7 :
    eventsPayload { live with
      events := { live.events with
        entries := [{ kind := .applyDone, index := 0, edge := none, frame := some 12 }] } } =
    [0, 1, 12, 0, 0, 12] := by decide

/-- 11.6: an entry without a frame number shows its absence in bit 7, and takes four bytes. -/
theorem test_read_events_without_a_frame :
    let reply := eventsPayload { live with
      events := { live.events with
        entries := [{ kind := .aborted, index := 0, edge := some .leave, frame := none }] } }
    reply.take 4 = [0, 1, 4, 0xC0] ∧ reply.length = 6 := by decide

/-! ### The frame start, the lane and the line on small states -/

/-- R3, R8: FRAME_START(11) in frame 10 expects its number and counts one missed report. -/
theorem test_frame_start_counts_missed :
    (after (exec (.frameStart 11 noOrder) live)).map
      (fun t => (t.port.current, t.port.previous, (t.port.carriers.get .c0).missed, t.events.latched .frameSlip 0)) =
    some (some 11, some 10, 1, false) := by decide +kernel

/-- R3: FRAME_START(13) in frame 10 is a slip, latched under the old number (log entry 8). -/
theorem test_frame_start_slips :
    (after (exec (.frameStart 13 noOrder) live)).map (fun t => t.events.latched .frameSlip 0) = some true := by
  decide +kernel

/-- R10: a report two frames old is stale. -/
theorem test_stale_report :
    (after (exec (.carrierReport .c0 8 none none 0) live)).map
      (fun t => (t.events.latched .staleReport 0, (t.intake.get .c0).lastAccepted)) = some (true, none) := by
  decide +kernel

/-- R133, R134: the UP entry of C0 starts an announcement with the count of announce_count. -/
theorem test_upgrade_is_announced :
    (after (exec (.frameStart 11 noOrder) { live with
      lane := { live.lane with
        carriers := live.lane.carriers.set .c0 { laneOn 3 with entry := some (.far 5 .up 4 (some 10) false) } } })).map
      (fun t => (t.lane.announcement.map fun a => (a.kind, a.count, a.switchFrame, a.members.length),
        (t.lane.carriers.get .c0).answer)) =
    some (some (.up, 4, 15, 1), { kind := .granted, seq := 5 }) := by decide +kernel

/-- R177, R178, R179: IDENTIFY byte by byte, and its reply's first bytes. -/
theorem test_identify_by_bytes :
    status (takeBytes (lineFrame 0x01 0x33 []) live) = some 0 ∧
    identifyPayload live = [0, 0x4C, 1, 0, 0, 6] := by decide +kernel

/-- R187: the reset acts when the RESET reply has been sent, and keeps the staged set. -/
theorem test_reset_keeps_the_staged_set :
    ((after (exec (.reset 1 []) live)).bind fun t => after (exec .replySent t)).map
      (fun t => (t.working.length, t.staged.tableLength, t.events.entries.length)) = some (0, 6, 0) := by
  decide +kernel

/-! ### Witnesses: the machine and the invariants -/

theorem wit_StepTakesTheFrontCommand :
    (live.setPending [.lineClear, .commit]).pending = [.lineClear, .commit] ∧ live.pending = [] := by decide

/-- A live state with a command waiting. -/
def live2 : State := live.setPending [.frameStart 11 noOrder]

theorem link_default_in_range : LinkInRange LinkParams.default := by unfold LinkInRange; decide
theorem onFive_in_range : CarrierInRange onFive := by unfold CarrierInRange; decide
theorem carrier_default_in_range : CarrierInRange CarrierParams.default := by unfold CarrierInRange; decide
theorem classes96_in_range (k : Cls) : ClassInRange (classes96.get k) := by
  unfold ClassInRange; cases k <;> decide

theorem table48_in_range : ∀ (p : Nat) (r : ProfileRecord), table48[p]? = some r → ProfileInRange p r := by
  intro p r h
  rcases p with _ | _ | _ | _ | _ | _ | p <;> simp [table48] at h <;> subst h <;>
    simp [ProfileInRange]

theorem slots48_in_range :
    ∀ (p : Nat) (r : ProfileRecord), slots48[p]? = some (some r) → ProfileInRange p r := by
  intro p r h
  rcases p with _ | _ | _ | _ | _ | _ | _ | _ | _ | _ | _ | _ | p <;> simp [slots48, table48] at h <;> subst h <;>
    simp [ProfileInRange]

theorem config_sound_of_48 (s : State) (h : s.staged = staged48) (hw : s.working = working48)
    (ha : s.applyPending = false) : ConfigSound s := by
  have hc : ∀ c, CarrierInRange (staged48.carriers.get c) := by
    intro c; cases c <;> first | exact onFive_in_range | exact carrier_default_in_range
  refine ⟨⟨?_, ?_, ?_, ?_, ?_⟩, ⟨?_, ?_, ?_, ?_, ?_⟩, ?_, ?_, ?_⟩
  · rw [h]; exact link_default_in_range
  · rw [h]; exact hc
  · rw [h]; exact classes96_in_range
  · rw [h]; decide
  · rw [h]; exact slots48_in_range
  · rw [hw]; exact link_default_in_range
  · rw [hw]; exact hc
  · rw [hw]; exact classes96_in_range
  · rw [hw]; decide
  · rw [hw]; exact table48_in_range
  · rw [hw]; decide
  · intro c
    simp only [State.params, hw]
    cases c <;> (unfold LimitsFit; decide)
  · intro hp; rw [ha] at hp; exact absurd hp (by decide)

/-- The premises of the invariants' statements, and a step that answers next. -/
theorem wit_EstimatesStayInRange : EstimatesInRange live2 ∧ isNext (step live2) = true := by
  refine ⟨fun c => ?_, by decide +kernel⟩
  cases c <;> simp [EstimateInRange, live2, live, estOf, State.setPending, Four.get, EstRecord.unseeded]

theorem wit_EventTableStaysSound : EventTableSound live2.events ∧ isNext (step live2) = true := by
  refine ⟨?_, by decide +kernel⟩
  unfold EventTableSound; decide +kernel

theorem wit_ConfigurationStaysChecked : ConfigSound live2 ∧ isNext (step live2) = true :=
  ⟨config_sound_of_48 live2 rfl rfl rfl, by decide +kernel⟩

/-- A context with no request open is sound when its numbers are. -/
theorem rx_sound_of_no_request (T ceiling : Nat) (enabled lost : Bool) (x : RxContext) (hk : x.request.kind = .none)
    (ht : x.request.target = none) (htm : x.timer = none)
    (hr : (x.active < T ∨ x.active = 0) ∧ x.armed = none ∧ x.hold ≤ 32760 ∧ x.m = 1 ∧ x.upCounter ≤ 65535 ∧
      (x.phase = .standby ↔ enabled = false) ∧ (enabled = false → x.active = 0) ∧
      (lost = true → x.phase ≠ .working)) : RxContextSound T ceiling enabled lost x := by
  obtain ⟨ha, harm, hh, hm, hu, hp, he, hl⟩ := hr
  refine ⟨⟨by rw [hk, ht]; trivial, by simp [htm, hk], by simp [htm]⟩, by simp [ht], ha, by simp [harm], hh, .inl hm, hu,
    fun _ => hk, hp, fun h => ⟨he h, harm⟩, fun h => ⟨hl h, harm⟩⟩

theorem live2_receive_sound : ReceiveSound live2 := by
  intro c
  apply rx_sound_of_no_request <;> cases c <;> decide +kernel

theorem wit_ReceiveContextsStaySound : ConfigSound live2 ∧ ReceiveSound live2 ∧ isNext (step live2) = true :=
  ⟨config_sound_of_48 live2 rfl rfl rfl, live2_receive_sound, by decide +kernel⟩

/-- An UP request to the ceiling itself is sound, and one above it is not. -/
theorem wit_ReceiveContextsStaySound_request :
    let x := fun (target : Nat) => { rxOn (target - 1) 4 with
      request := { seq := 1, kind := .up, target := some target }, timer := some 0 }
    RxContextSound 7 5 true false (x 5) ∧ ¬ RxContextSound 7 5 true false (x 6) := by
  simp [RxContextSound, RequestSound, rxOn, RxContext.initial]

theorem live2_lane_sound : LaneSound live2 := by
  refine ⟨fun c => ?_, fun a h => by cases h⟩
  unfold LaneCarrierSound
  refine ⟨by cases c <;> decide +kernel, fun e he => ?_, by cases c <;> decide +kernel, by cases c <;> decide +kernel⟩
  cases c <;> cases he

theorem wit_LaneStaysSound : ConfigSound live2 ∧ LaneSound live2 ∧ isNext (step live2) = true :=
  ⟨config_sound_of_48 live2 rfl rfl rfl, live2_lane_sound, by decide +kernel⟩

theorem wit_PowerStaysSound : PowerSound live2 ∧ isNext (step live2) = true := by
  refine ⟨fun c => ?_, by decide +kernel⟩
  unfold PowerRecordSound
  cases c <;> decide +kernel

theorem wit_BranchAndSignallingRunsStaySound :
    ConfigSound live2 ∧ MonitorSound live2 ∧ SignallingSound live2 ∧ isNext (step live2) = true := by
  refine ⟨config_sound_of_48 live2 rfl rfl rfl, ⟨fun c side => ?_, fun c => ?_⟩, fun c => ?_, by decide +kernel⟩
  · cases c <;> cases side <;> simp [BranchSound, live2, live, State.setPending, State.reset, Monitor.initial, Four.fill,
      Four.get, Sides.fill, Sides.get, State.params, working48, onFive, CarrierParams.default, CarrierParams.excludes]
  · cases c <;> decide +kernel
  · cases c <;> decide +kernel

theorem empty_placement_sound : PlacementSound Mapper.initial.active := by
  refine ⟨fun c => by cases c <;> decide, fun k => ?_⟩
  cases k <;> simp [ClassEntrySound, Mapper.initial, Four.fill, Eight.fill, Eight.get, ClassEntry.inactive,
    segmentSum] <;> (intro c; cases c <;> simp [Four.get])

theorem wit_SlotMapsStaySound : ConfigSound live2 ∧ MapperSound live2 ∧ isNext (step live2) = true :=
  ⟨config_sound_of_48 live2 rfl rfl rfl,
   ⟨empty_placement_sound, (fun sh h => by cases h), (fun h => by cases h)⟩, by decide +kernel⟩

theorem wit_SlotMapsStaySound_fit :
    (ConfigSound live2 ∧ LaneSound live2 ∧ MapperSound live2 ∧ MapsFit live2) ∧
    live2.pending.head? ≠ some .announcementSwitch ∧ live2.pending.head? ≠ some .mapShadowLoad ∧
    isNext (step live2) = true :=
  ⟨⟨config_sound_of_48 live2 rfl rfl rfl, live2_lane_sound, wit_SlotMapsStaySound.2.1,
    fun c => by cases c <;> decide +kernel, fun sh h => by cases h⟩, by decide, by decide, by decide +kernel⟩

/-! ### Witnesses: frame starts and frame loss -/

/-- The state after FRAME_START(11) with both hand-overs before the blocks' work. -/
def started (s : State) : Option State := after (exec (.frameStart 11 noOrder) s)

/-- Every carrier's field taken in the frame. -/
def allTaken (s : State) : State :=
  s.setPortCarriers (.ofFn fun c => { s.port.carriers.get c with fieldTaken := true })

/-- C0's UP announcement with a count. -/
def announced (count : Nat) : State :=
  live.setLane { live.lane with
    announcement := some { kind := .up, count := count, switchFrame := 12,
                           members := [{ carrier := .c0, fromP := 3, toP := 4, origin := .far 5, arrival := some 9 }] } }

theorem all_taken_fields (s : State) : FieldsTaken (allTaken s) := by
  right; intro c _; cases c <;> rfl

theorem wit_FirstFrameStartTakesItsNumber :
    first.port.link = .running ∧ first.port.current = none ∧ first.applyPending = false := by decide

theorem wit_FrameStartAdoptsItsNumber :
    live.port.link = .running ∧ live.port.current = some 10 ∧ (11 : FrameNo) = 10 + 1 ∧ (10 : FrameNo) ≠ 10 + 1 ∧
    (0 : FrameNo) = 65535 + 1 := by decide

theorem wit_RestoringFrameStartPutsBaseInForce :
    lost.port.link = .frameLost ∧ ConfigSound lost ∧ ReceiveSound lost ∧ LaneSound lost ∧ PowerSound lost ∧
    MapperSound lost := by
  refine ⟨rfl, config_sound_of_48 lost rfl rfl rfl, fun c => ?_, ⟨fun c => ?_, fun a h => by cases h⟩, fun c => ?_,
    empty_placement_sound, (fun sh h => by cases h), fun _ => ⟨fun c => by cases c <;> rfl, rfl⟩⟩
  · apply rx_sound_of_no_request <;> cases c <;> decide +kernel
  · unfold LaneCarrierSound
    refine ⟨by cases c <;> decide +kernel, fun e he => ?_, by cases c <;> decide +kernel,
      by cases c <;> decide +kernel⟩
    cases c <;> cases he
  · unfold PowerRecordSound; cases c <;> decide +kernel

theorem wit_FrameStartDeliversSettingsAndFields :
    noOrder.reports ≠ .last ∧ noOrder.notices ≠ .last ∧
    ((after (exec (.frameStart 11 noOrder) live)).map fun t => (t.port.fieldOut.get .c0).isSome) = some true := by
  decide +kernel

/-- A hand-over left to the last: C0's field was composed before the blind report that its third missed report brings. -/
theorem wit_FrameStartDeliversSettingsAndFields_last :
    let s := live.setPortCarriers (live.port.carriers.set .c0 { missed := 3, arrival := false, fieldTaken := true })
    let o : FrameOrder := { reports := .last, notices := .last }
    (s.port.link = .running ∧ s.port.current.isSome = true) ∧
    ((after (exec (.frameStart 11 o) s)).map fun t =>
      ((t.port.fieldOut.get .c0).map fun out => decide (out.bytes = composeField t .c0),
        (t.port.fieldOut.get .c1).map fun out => decide (out.bytes = composeField t .c1))) =
      some (some false, some true) ∧
    first.port.current = none ∧ lost.port.link = .frameLost := by decide +kernel

/-- The period counters and the mapper's shadow at the restoring frame start, C1 held by SIG_LOST. -/
theorem wit_RestoringFrameStartPutsBaseInForce_power_and_map :
    let s := { lost with sig := lost.sig.set .c1 { SigCarrier.initial with lost := true }
                         pcu := .fill { PowerCarrier.initial with period := 2 } }
    (s.enabled .c0 = true ∧ (s.params .c0).atpcEnable = true ∧ (s.sig.get .c0).lost = false ∧ s.fault.state = .running ∧
      s.applyPending = false ∧ s.enabled .c2 = false) ∧
    ((started s).map fun t => (Carrier.all.map fun c => (t.pcu.get c).period,
      t.mapper.shadow.map fun sh => (sh.remaining, sh.loadFrame))) = some ([3, 1, 1, 1], some (1, 12)) := by decide +kernel

theorem wit_FrameLossMutesAndClears :
    (live.port.link = .running ∧ live.port.watch.isSome = true ∧ live.port.current = some 10) ∧
    lost.port.link = .frameLost ∧ first.port.watch = none := by decide

/-- C0's settings delivered, K0 placed on C0, K1 partly placed and K2 shed. -/
def placed : State :=
  { live with
    port := { live.port with settings := live.port.settings.set .c0 (some
      { frame := 10, rxModCode := some 5, txModCode := some 5, atten := 2, output := .live, slotMap := [(.k0, 8)] }) }
    mapper :=
      { active :=
          { maps := (Four.fill []).set .c0 [(.k0, 8)]
            entries := .ofFn fun k =>
              if k = .k0 then { state := .placed, placed := 8, segments := [(.c0, 8)] }
              else if k = .k1 then { state := .partly, placed := 10, segments := [(.c1, 10)] }
              else if k = .k2 then { state := .shed, placed := 0, segments := [] }
              else .inactive }
        shadow := none } }

theorem wit_FrameLossMutesAndClears_settings_and_classes :
    (placed.port.link = .running ∧ placed.port.watch.isSome = true ∧ placed.port.current = some 10 ∧
      placed.enabled .c0 = true ∧ (placed.port.settings.get .c0).isSome = true) ∧
    ((placed.mapper.active.entries.get .k0).state = .placed ∧ (placed.mapper.active.entries.get .k1).state = .partly ∧
      (placed.mapper.active.entries.get .k2).state = .shed ∧
      (placed.mapper.active.entries.get .k3).state = .inactive) := by decide

/-- FADE_ALARM holds on C0 and SIG_LOST on C1, and on the other carriers neither; both are left at a loss. -/
def alarmed : State :=
  { live with
    est := live.est.set .c0 { estOf 100 with fade := true }
    sig := live.sig.set .c1 { SigCarrier.initial with lost := true }
    events := { live.events with entries := [] } }

theorem wit_FrameLossMutesAndClears_conditions :
    (alarmed.port.link = .running ∧ alarmed.port.watch.isSome = true ∧ alarmed.port.current = some 10) ∧
    ((after (exec .frameLoss alarmed)).map fun t =>
      (Carrier.all.map fun c => t.events.latched .fadeAlarm c.toNat,
        Carrier.all.map fun c => t.events.latched .sigLost c.toNat)) =
      some ([true, false, false, false], [false, true, false, false]) := by decide +kernel

/-! ### Witnesses: reports and the Margin Estimator -/

/-- C0's report of a frame accepted. -/
def accepted (f : FrameNo) : State :=
  { live with intake := live.intake.set .c0 { IntakeCarrier.initial with lastAccepted := some f } }

theorem wit_UnusableReportIsDiscarded :
    (lost.port.link = .frameLost ∧ first.port.current = none ∧ live.enabled .c2 = false) ∧
    (live.port.link = .running ∧ live.port.current = some 10 ∧ live.enabled .c0 = true ∧
      (8 : FrameNo) ≠ 10 ∧ live.port.previous ≠ some 8) ∧
    ((accepted 10).intake.get .c0).lastAccepted = some 10 ∧
    ((accepted 10).port.previous = some 9 ∧ ((accepted 10).intake.get .c0).lastAccepted = (accepted 10).port.current) := by
  decide

theorem wit_AcceptedReportIsStoredAndHandedOn :
    live.port.link = .running ∧ live.port.current = some 10 ∧ live.enabled .c0 = true ∧
    live.port.previous = some 9 ∧ (live.intake.get .c0).lastAccepted ≠ some 10 ∧
    ((accepted 8).intake.get .c0).lastAccepted ≠ some 9 ∧
    ¬ ((accepted 8).port.previous = some 9 ∧ ((accepted 8).intake.get .c0).lastAccepted = some 10) := by decide

/-- C0 seeded with a history of n estimates, its fade alarm as given. -/
def seededWith (n : Nat) (e : Int) (fade : Bool) : State :=
  live.setEst (live.est.set .c0
    { est := some { e := e, history := List.replicate n e, r := 0, pr := e }, margin := 0, fade := fade })

/-- A history of 7 and one of 8, an unseeded record, and reports at which the alarm enters, leaves and stays. -/
theorem wit_AcceptedReportIsStoredAndHandedOn_estimates :
    let strong := some { lock := true, snr := 60, level := -60 : BranchPart }
    let fadeAfter := fun (s : State) (part : Option BranchPart) =>
      (after (exec (.carrierReport .c0 10 part none 0) s)).map fun t => (t.est.get .c0).fade
    ((seededWith 7 900 false).est.get .c0).est.map (·.history.length) = some 7 ∧
    ((seededWith 8 900 false).est.get .c0).est.map (·.history) = some (900 :: List.replicate 7 900) ∧
    ({ live with est := .fill .unseeded }.est.get .c0).est = none ∧
    (fadeAfter (seededWith 8 900 false) none = some true ∧ fadeAfter (seededWith 8 960 true) strong = some false ∧
      fadeAfter (seededWith 8 960 false) strong = some false) := by decide +kernel

/-- C0's environment in RUNNING, in frame 10. -/
def envOf (running scan : Bool) : RxEnv := { rxEnv live .c0 with running := running, scan := scan }

def handed (pr : Int) : Handover := { pr := pr, blind := false, errors := 0 }

/-- A P3 context with a hold count, a request and a refused target of a frame. -/
def rxAsking (hold : Nat) (kind : ReqKind) (target : Option Nat) (refused : Option Refused) : RxContext :=
  { rxOn 3 hold with request := { seq := 1, kind := kind, target := target }, refused := refused }

/-- No evaluation: ACQUIRE with the linked flag set and not, SIGLOST, STANDBY, and WORKING while ABORTED. -/
theorem wit_AcceptedReportIsStoredAndHandedOn_no_evaluation :
    let phase := fun (p : RxPhase) => { rxOn 3 4 with phase := p }
    let y := fun (x : RxContext) => takeHandover (envOf true false) (handed 0) x
    ((y (phase .acquire)).phase = .working ∧ (y { phase .acquire with linked := false }).phase = .acquire) ∧
    y (phase .siglost) = phase .siglost ∧ y (phase .standby) = phase .standby ∧
    takeHandover (envOf false false) (handed 0) (rxOn 3 4) = rxOn 3 4 := by decide

/-- Downgrades: the threshold 832 of P3, paused and not, and a target refused 1 frame below refuse_backoff and at it. -/
theorem wit_AcceptedReportIsStoredAndHandedOn_downgrade :
    let env := envOf true false
    let paused := { rxOn 3 4 with hostPause := true }
    let refused := fun (n : Nat) => rxAsking 4 .none none (some { target := 2, frame := 10 - BitVec.ofNat 16 n })
    let y := fun (x : RxContext) => takeHandover env (handed 831) x
    (downgradeTarget env 3 (handed 831) = some 2 ∧ downgradeTarget env 3 (handed 832) = none) ∧
    ((y (rxOn 3 4)).request.target = some 2 ∧ (y (rxOn 3 4)).hold = env.link.holdFrames ∧
      (y paused).hold = 4 ∧ (y paused).request.kind = .down) ∧
    ((y (refused (env.link.refuseBackoff - 1))).request.kind = .none ∧
      (y (refused env.link.refuseBackoff)).request.kind = .down) := by decide +kernel

/-- SWITCHING: a downgrade to P2 with the armed next profile at 3 and at 2, an open UP in play, and no downgrade. -/
theorem wit_AcceptedReportIsStoredAndHandedOn_switching :
    let x := fun (next : Nat) =>
      { rxAsking 4 .up (some 4) none with armed := some { next := next, remaining := 2, grant := none } }
    let y := fun (pr : Int) (x : RxContext) => takeHandover (envOf true false) (handed pr) x
    (y 831 (x 3)).request.kind = .down ∧ (y 831 (x 3)).hold = 4 ∧ y 831 (x 2) = x 2 ∧ y 832 (x 3) = x 3 := by decide

/-- The upgrade test: the threshold 1152 of P4, the hold count at 2 and at 1, a refused P4, paused, and at the ceiling;
an open UP that a decision of none cancels. -/
theorem wit_AcceptedReportIsStoredAndHandedOn_upgrade :
    let env := envOf true false
    let y := fun (pr : Int) (x : RxContext) => takeHandover env (handed pr) x
    let refused := some { target := 4, frame := 9 : Refused }
    (upOf env.table 4 = some 72 ∧ downgradeTarget env 3 (handed 1151) = none) ∧
    ((y 1151 (rxOn 3 2)).hold = env.link.holdFrames ∧ (y 1152 (rxOn 3 2)).hold = 1 ∧
      (y 1152 (rxOn 3 2)).request.kind = .none ∧ (y 1152 (rxOn 3 1)).request.kind = .up ∧
      (y 1152 (rxOn 3 1)).hold = 0) ∧
    ((y 1152 (rxAsking 1 .none none refused)).request.kind = .none ∧
      (y 1152 (rxAsking 1 .up (some 4) refused)).request.kind = .none) ∧
    ((takeHandover (envOf true true) (handed 1152) (rxOn 3 1)).hold = 1 ∧ (y 1248 (rxOn 5 1)).hold = 1) ∧
    y 1152 (rxAsking 1 .down (some 2) none) = rxAsking 1 .down (some 2) none := by decide +kernel

theorem wit_BranchesCombine :
    [7, 8, 15, 16, 23, 24, 31, 32, 39, 40, 47, 48, 63, 64].map
      (fun d => combineBranches .combine (some 80) (some (80 + d))) =
    [99, 96, 103, 102, 109, 108, 115, 115, 122, 122, 129, 129, 144, 144].map some ∧
    combineBranches .combine (some 160) (some 160) = some 160 := by decide

theorem wit_FilterSettlesOnTheSample :
    ((0 : Int) < 193 - 16 * ((12 : Nat) : Int)) ∧ (¬ (1 : Int) < 193 - 16 * ((12 : Nat) : Int)) ∧
    ((1593 : Int) < 1600 ∧ (1600 : Int) - 1593 < 2 ^ 3) ∧ ((0 : Int) ≤ 0 ∧ (192 : Int) ≤ 16 * ((12 : Nat) : Int)) := by
  decide

theorem wit_HistoryHoldsTheLastEightEstimates :
    ((estimateAfter LinkParams.default (List.replicate 8 1600)).map fun y => (y.history.length, y.r)) =
      some (8, 0) ∧
    ((estimateAfter LinkParams.default (List.replicate 8 1600 ++ [1280])).map fun y => (y.e, y.r)) =
      some (1280, -40) := by decide +kernel

theorem wit_PredictionAndMarginFollowTheRules :
    ((-1 : Int) < 0 ∧ (0 : Int) ≤ 0) ∧ (table48[0]?.map (·.down)) = some none ∧
    (table48[5]?.map (·.down)) = some (some 78) ∧
    (marginOf 0 0, marginOf 0 31, marginOf 0 32, marginOf 0 2015, marginOf 0 2016) = (0, 0, 1, 62, 63) := by decide

/-- C0's missed-report count at a value. -/
def missing (n : Nat) : State :=
  live.setPortCarriers (live.port.carriers.set .c0 { missed := n, arrival := false, fieldTaken := false })

theorem wit_BlindReportDrivesToBase :
    ((missing 4).port.link = .running ∧ (missing 4).port.current.isSome = true ∧ (missing 4).enabled .c0 = true ∧
      (missing 4).working.link.reportLoss ≤ ((missing 4).port.carriers.get .c0).missed ∧
      (((missing 4).est.get .c0).est.map (·.e)) = some 900 ∧
      16 * ((missing 4).working.link.fastDrop : Int) < 900 ∧
      ((missing 4).rau.get .c0).phase = .working ∧ (missing 4).fault.state = .running ∧
      0 < ((missing 4).rau.get .c0).active ∧ ((missing 4).rau.get .c0).armed = none ∧
      ((missing 4).rau.get .c0).refused = none) ∧
    ((missing 3).port.carriers.get .c0).missed < (missing 3).working.link.reportLoss ∧
    lost.port.link = .frameLost ∧ first.port.current = none ∧ live.enabled .c2 = false := by decide

/-- At a frame start: C0 comes to report_loss at 3 missed reports and not at 2, its field taken. -/
theorem wit_BlindReportDrivesToBase_at_frame_start :
    let due := allTaken (missing 3)
    (due.port.link = .running ∧ due.port.current = some 10 ∧ due.enabled .c0 = true ∧
      (started due).map (·.enabled .c0) = some true ∧ due.working.link.reportLoss = nextMissed due .c0 ∧
      due.applyPending = false ∧ 2 ≤ due.working.link.answerTimeout ∧ (due.port.carriers.get .c0).fieldTaken = true ∧
      (due.rau.get .c0).phase = .working ∧ due.fault.state = .running ∧ 0 < (due.rau.get .c0).active ∧
      (due.rau.get .c0).armed = none ∧ (due.rau.get .c0).request.kind = .none ∧ (due.rau.get .c0).timer = none ∧
      (due.rau.get .c0).refused = none) ∧
    nextMissed (missing 2) .c0 + 1 = (missing 2).working.link.reportLoss := by decide +kernel

/-! ### Witnesses: Branch Monitor -/

theorem wit_FrameStartScansOneBranch :
    live.port.link = .running ∧ live.port.current = some 10 ∧ live.applyPending = false ∧
    (live.enabled live.monitor.scanCarrier = true) ∧
    ((live.monitor.branches.get live.monitor.scanCarrier).get live.monitor.scanSide).health ≠ .excluded := by decide

/-- A FRAME_START with an APPLY pending behind an announcement that counts on judges the branch of the slot. -/
theorem wit_FrameStartScansOneBranch_apply_waits :
    let s := (announced 2).setApplyPending true
    (s.port.link = .running ∧ s.port.current = some 10 ∧ NoCommitDue s) ∧
    (started s).map (fun t => (t.applyPending, (t.monitor.branches.get .c0).a.health)) = some (true, .suspect) :=
  ⟨⟨rfl, rfl, .inr ⟨_, rfl, by decide⟩⟩, by decide +kernel⟩

/-- C0's branch A is the branch of the slot: passed over at the first and at the restoring frame start, and where a
commit disables its carrier. -/
theorem wit_FrameStartScansOneBranch_passes_over :
    (live.monitor.scanCarrier = .c0 ∧ live.monitor.scanSide = .a) ∧ (first.port.current = none ∧ first.applyPending = false) ∧
    (lost.port.link = .frameLost ∧ lost.applyPending = false) ∧
    (let s := { live with applyPending := true, staged := { staged48 with carriers := ⟨{ onFive with enable := false }, onFive, .default, .default⟩ } }
     s.enabled .c0 = true ∧ (started s).map (·.enabled .c0) = some false ∧
     (s.params .c0).excludes .a = ((started s).map fun t => (t.params .c0).excludes .a)) := by decide +kernel

theorem wit_SampleMovesBranchState :
    (2 + 1 < LinkParams.default.faultScans ∧ LinkParams.default.faultScans ≤ 3 + 1) ∧
    (6 + 1 < LinkParams.default.recoverScans ∧ LinkParams.default.recoverScans ≤ 7 + 1) := by decide

/-- C0's grace counter at a value. -/
def graced (n : Nat) : State := live.setMonitor { live.monitor with grace := live.monitor.grace.set .c0 n }

theorem wit_GraceExpiryEndsTheScanPause :
    ((graced 1).port.link = .running ∧ (graced 1).port.current.isSome = true ∧ (graced 1).monitor.grace.get .c0 = 1) ∧
    (graced 2).monitor.grace.get .c0 ≠ 1 ∧ (graced 0).monitor.grace.get .c0 ≠ 1 ∧ lost.port.link = .frameLost ∧
    first.port.current = none := by decide

/-! ### Witnesses: Receive Adaptation Unit -/

theorem wit_DowngradeNamesTheHighestHeldProfile :
    let env := rxEnv live .c0
    (belowDown env.table 3 831 = true ∧ belowDown env.table 3 832 = false) ∧
    (env.link.errLimit ≤ 16 ∧ 15 < env.link.errLimit) ∧
    ({ env with ceiling := 2 }.ceiling < 3 ∧ { env with ceiling := 3 }.ceiling ≤ 3) ∧
    (downgradeTarget env 3 { pr := 639, blind := false, errors := 0 } = some 1 ∧ reachesDown env.table 1 639 = true) := by
  decide

theorem wit_UpgradeWaitsOutTheHoldCount :
    let env := rxEnv live .c0
    let x := rxOn 3 4
    let h : Handover := { pr := 1152, blind := false, errors := 0 }
    x.hostPause = false ∧ env.scan = false ∧ x.request.kind = .none ∧ x.armed = none ∧ x.active < env.ceiling ∧
    x.refused = none ∧ upOf env.table (x.active + 1) = some 72 ∧
    (∀ g ∈ List.replicate 4 h, downgradeTarget env x.active g = none ∧ 16 * ((72 : Nat) : Int) ≤ g.pr) ∧
    1 ≤ x.hold ∧ (List.replicate 4 h).length = x.hold ∧ (List.replicate 3 h).length < x.hold := by decide

/-- C0's receive context changed. -/
def withRx (f : RxContext → RxContext) : State := live.setRau (live.rau.set .c0 (f (live.rau.get .c0)))

def armedAt (next remaining : Nat) : State :=
  withRx fun x => { x with armed := some { next := next, remaining := remaining, grant := none } }

theorem wit_DueReceiveSwitchIsMade :
    (∀ next ∈ [2, 3, 4],
      (armedAt next 1).port.link = .running ∧ (armedAt next 1).port.current.isSome = true ∧
      ((armedAt next 1).rau.get .c0).phase ≠ .standby ∧
      ((armedAt next 1).rau.get .c0).armed = some { next := next, remaining := 1, grant := none }) ∧
    ((live.rau.get .c2).phase = .standby ∧ (live.rau.get .c0).armed = none ∧
      ((armedAt 4 2).rau.get .c0).armed = some { next := 4, remaining := 2, grant := none }) := by decide

/-- R91 at a switch: an UP one above the new profile and a downgrade below it stand with seq and timer, an UP to the new
profile and a downgrade to it are cancelled with the next seq. -/
theorem wit_DueReceiveSwitchIsMade_request :
    let rebased := fun (next : Nat) (kind : ReqKind) (target : Nat) =>
      let s := withRx fun x => { x with
        armed := some { next := next, remaining := 1, grant := none }, timer := some 5
        request := { seq := 3, kind := kind, target := some target } }
      (after (exec (.rxSwitch .c0) s)).map fun t =>
        ((t.rau.get .c0).request.kind, (t.rau.get .c0).request.seq, (t.rau.get .c0).timer)
    rebased 4 .up 5 = some (.up, 3, some 5) ∧ rebased 4 .up 4 = some (.none, 4, none) ∧
    rebased 2 .urgent 1 = some (.urgent, 3, some 5) ∧ rebased 2 .down 2 = some (.none, 4, none) := by decide +kernel

theorem wit_DueReceiveSwitchIsMade_request_at_frame_start :
    let s := allTaken (armedAt 4 1)
    NoHandover s .c0 ∧ (s.rau.get .c0).armed = some { next := 4, remaining := 1, grant := none } ∧
    (4 : Nat) ≠ (s.rau.get .c0).active ∧ (s.rau.get .c0).timer = none :=
  ⟨.inr (.inr (by decide)), by decide⟩

/-- C0 with a switch armed and the guard open, its counter at a value. -/
def guardedArmed (next remaining n : Nat) : State :=
  withRx fun x => { x with armed := some { next := next, remaining := remaining, grant := none }, guardOpen := true,
                           upCounter := n, m := 4 }

theorem wit_DueReceiveSwitchIsMade_at_frame_start :
    NoCommitDue (guardedArmed 2 1 1998) ∧
    (∀ next ∈ [2, 3, 4], ∀ remaining ∈ [1, 2],
      (guardedArmed next remaining 1999).port.link = .running ∧
      ((guardedArmed next remaining 1999).rau.get .c0).phase ≠ .standby ∧
      ((guardedArmed next remaining 1999).rau.get .c0).armed = some { next := next, remaining := remaining, grant := none } ∧
      (guardedArmed next remaining 1999).working.link.pingpongWindow ≤ 1999 + 1 ∧
      1998 + 1 < (guardedArmed next remaining 1998).working.link.pingpongWindow) ∧
    (live.rau.get .c0).armed = none := ⟨.inl rfl, by decide⟩

/-- C0 with an UP request open and its answer timer at a value. -/
def timed (n : Nat) : State :=
  withRx fun x => { x with request := { seq := 1, kind := .up, target := some 4 }, timer := some n }

/-- C0 with the guard open and its counter at a value. -/
def guarded (n : Nat) : State := withRx fun x => { x with guardOpen := true, upCounter := n, m := 4 }

theorem wit_ReceiveTimersExpire :
    ((timed 31).port.link = .running ∧ (timed 31).port.current.isSome = true ∧
      ((timed 31).rau.get .c0).phase ≠ .standby ∧ ((timed 31).rau.get .c0).request.kind ≠ .none ∧
      ((timed 31).rau.get .c0).timer = some 31 ∧ (timed 31).working.link.answerTimeout ≤ 31 + 1) ∧
    (((timed 30).rau.get .c0).timer = some 30 ∧ 30 + 1 < (timed 30).working.link.answerTimeout ∧
      (live.rau.get .c2).phase = .standby ∧ (live.rau.get .c0).timer = none) ∧
    (((guarded 1999).rau.get .c0).guardOpen = true ∧ ((guarded 1999).rau.get .c0).phase ≠ .standby ∧
      (guarded 1999).working.link.pingpongWindow ≤ min 65535 (((guarded 1999).rau.get .c0).upCounter + 1)) ∧
    ((live.rau.get .c0).guardOpen = false ∧
      min 65535 (((guarded 1998).rau.get .c0).upCounter + 1) < (guarded 1998).working.link.pingpongWindow) := by decide

theorem wit_ReceiveTimersExpire_at_frame_start :
    (NoCommitDue (timed 31) ∧ NoHandover (allTaken (timed 31)) .c0 ∧ NoHandover (allTaken live) .c0) ∧
    ((allTaken (timed 31)).port.link = .running ∧ ((timed 31).rau.get .c0).phase ≠ .standby ∧
      ((timed 31).rau.get .c0).armed = none ∧ ((timed 31).rau.get .c0).timer = some 31 ∧
      (timed 31).working.link.answerTimeout = 31 + 1 ∧ ((timed 31).rau.get .c0).request.kind = .up ∧
      ((timed 31).rau.get .c0).hostPause = false ∧ (timed 31).monitor.grace.get .c0 ≤ 1) ∧
    (((timed 30).rau.get .c0).timer = some 30 ∧ (live.rau.get .c0).timer = none ∧ (live.rau.get .c2).phase = .standby) :=
  ⟨⟨.inl rfl, .inr (.inr (by decide)), .inr (.inr (by decide))⟩, by decide⟩

/-! ### Witnesses: Signalling Unit -/

theorem wit_FieldPartsAndBytesAgree :
    (parts69.ver < 16 ∧ parts69.active < 16 ∧ parts69.next < 16 ∧ parts69.count < 8 ∧ parts69.reqTarget < 16 ∧
      parts69.margin < 64) ∧
    ((fieldParts (writeField parts69 .granted)).ansKind = some .granted ∧
      (writeField parts69 .granted).b4.getLsbD 0 = false ∧
      fieldCrc (writeField parts69 .granted) = (writeField parts69 .granted).b5) := by decide +kernel

theorem wit_ComposedFieldIsValidAndTrue :
    ConfigSound live2 ∧ ReceiveSound live2 ∧ LaneSound live2 ∧ EstimatesInRange live2 ∧ live2.enabled .c0 = true :=
  ⟨config_sound_of_48 live2 rfl rfl rfl, live2_receive_sound, live2_lane_sound, wit_EstimatesStayInRange.1, rfl⟩

/-- C0's signalling items changed. -/
def sigAt (lost : Bool) (invalid valid : Nat) : State :=
  live.setSig (live.sig.set .c0 { lost := lost, invalidRun := invalid, validRun := valid, lastValid := none })

theorem wit_InvalidFieldReachesNoOtherBlock :
    (lost.port.link = .frameLost ∧ first.port.current = none ∧ live.enabled .c2 = false ∧
      ((live.setPortCarriers (live.port.carriers.set .c0 { missed := 0, arrival := false, fieldTaken := true })
        ).port.carriers.get .c0).fieldTaken = true) ∧
    (live.port.link = .running ∧ live.port.current.isSome = true ∧ live.enabled .c0 = true ∧
      (live.port.carriers.get .c0).fieldTaken = false ∧
      fieldValid live.working.length { b0 := 0, b1 := 0, b2 := 0, b3 := 0, b4 := 0, b5 := 0 } = false) ∧
    (((sigAt false 14 0).sig.get .c0).lost = false ∧
      ((sigAt false 14 0).sig.get .c0).invalidRun + 1 < (sigAt false 14 0).working.link.sigLoss) ∧
    ((sigAt true 0 7).sig.get .c0).lost = true := by decide +kernel

/-- At a frame start: the run one below sig_loss and at it, on a LINKED carrier whose power control is not held, and a
SIG_LOST carrier. -/
theorem wit_InvalidFieldReachesNoOtherBlock_at_frame_start :
    let s := sigAt false 15 0
    (s.port.link = .running ∧ s.port.current = some 10 ∧ s.enabled .c0 = true ∧
      (started s).map (·.enabled .c0) = some true ∧ (s.port.carriers.get .c0).fieldTaken = false) ∧
    ((s.sig.get .c0).lost = false ∧ s.working.link.sigLoss = (s.sig.get .c0).invalidRun + 1 ∧ powerHeld s .c0 = false ∧
      (s.rau.get .c0).phase = .working) ∧
    (((sigAt false 14 0).sig.get .c0).lost = false ∧
      ((sigAt false 14 0).sig.get .c0).invalidRun + 2 = (sigAt false 14 0).working.link.sigLoss) ∧
    ((sigAt true 0 7).sig.get .c0).lost = true ∧ ((allTaken live).port.carriers.get .c0).fieldTaken = true := by
  decide +kernel

/-- C0 one invalid field before signalling loss, with a lane entry and a loss policy. -/
def losing (policy : LossPolicy) (x : LaneCarrier) : State :=
  { sigAt false 15 0 with
    working := { working48 with carriers := working48.carriers.set .c0 { onFive with lossPolicy := policy } }
    lane := { live.lane with carriers := live.lane.carriers.set .c0 x } }

def farUpEntry : LaneCarrier := { laneOn 3 with entry := some (.far 5 .up 4 (some 10) false) }

theorem wit_SignallingIsLostAtSigLoss :
    let s := losing .freeze farUpEntry
    let d := losing .dropToBase (laneOn 0)
    (s.port.link = .running ∧ s.port.current.isSome = true ∧ s.enabled .c0 = true ∧
      (s.port.carriers.get .c0).fieldTaken = false ∧ (s.sig.get .c0).lost = false ∧
      s.working.link.sigLoss ≤ (s.sig.get .c0).invalidRun + 1 ∧ (s.rau.get .c0).phase = .working ∧
      powerHeld s .c0 = false ∧ (s.params .c0).lossPolicy = .freeze ∧
      (s.lane.carriers.get .c0).entry = some (.far 5 .up 4 (some 10) false)) ∧
    (powerHeld { s with fault := { s.fault with state := .aborted } } .c0 = true) ∧
    ((d.params .c0).lossPolicy = .dropToBase ∧ d.lane.txBound .c0 = 0 ∧
      0 < (losing .dropToBase farUpEntry).lane.txBound .c0) := by decide +kernel

theorem wit_ValidFieldIsRoutedInFull :
    let f := writeField parts69 .granted
    live.port.link = .running ∧ live.port.current.isSome = true ∧ live.enabled .c0 = true ∧
    (live.port.carriers.get .c0).fieldTaken = false ∧ fieldValid live.working.length f = true ∧
    (fieldParts f).ansKind = some .granted ∧ (live.sig.get .c0).lost = false := by decide +kernel

/-- Far-end faults abort or not. -/
def farAborts (on : Bool) (s : State) : State :=
  { s with working := { s.working with link := { s.working.link with abortOnFar := on } } }

/-- EQUIP_FAULT set in a valid field: it rises in both states, and raises the abort demand in the first. -/
theorem wit_ValidFieldIsRoutedInFull_equip_fault :
    let f := writeField { parts69 with equipFault := true } .granted
    let s := farAborts true live
    (fieldValid s.working.length f = true ∧ (fieldParts f).ansKind = some .granted ∧ (fieldParts f).equipFault = true) ∧
    (s.port.link = .running ∧ s.enabled .c0 = true ∧ (s.sig.get .c0).lost = false ∧ s.fault.farFault.get .c0 = false ∧
      s.working.link.abortOnFar = true ∧ s.fault.state = .running ∧ abortDemand s = false) ∧
    ((farAborts false live).working.link.abortOnFar = false ∧ (farAborts false live).fault.farFault.get .c0 = false) := by
  decide +kernel

/-- The receive unit's clauses. C0's request of seq 1 asks for P4 from P3; arming meets an empty and an armed switch, the
withdrawal a granted UP with its request closed. -/
theorem wit_ValidFieldIsRoutedInFull_receive_context :
    let env := rxEnv live .c0
    let opened := (timed 0).rau.get .c0
    let armed := { rxOn 3 4 with armed := some { next := 4, remaining := 2, grant := none } }
    let granted := fun target : Nat =>
      { rxOn 3 4 with
        request := { seq := 1, kind := .none, target := none }
        armed := some { next := 4, remaining := 2, grant := some { seq := 1, kind := .up, target := target } } }
    (opened.phase ≠ .standby ∧ opened.request.kind ≠ .none ∧ opened.request.seq = 1 ∧ opened.request.target = some 4 ∧
      opened.armed = none ∧ opened.active = 3 ∧ opened.phase ≠ .acquire ∧ opened.hostPause = false ∧ env.scan = false ∧
      env.frame = some 10) ∧
    (armed.phase ≠ .standby ∧ armed.armed.map (·.next) = some 4 ∧ parts69.active ≠ 4 ∧ parts69.active = armed.active ∧
      parts69.next = 15 ∧ { parts69 with next := 4, count := 2 }.next ≠ 15) ∧
    ((granted 4).phase = .working ∧ env.running = true ∧ 4 = (granted 4).active + 1 ∧ 4 ≤ env.ceiling ∧
      (granted 4).request.kind = .none ∧ (granted 5).active + 1 ≠ 5) ∧
    (({ rxOn 2 4 with phase := .acquire } : RxContext).phase = .acquire ∧ parts69.active ≠ (rxOn 2 4).active ∧
      ({ opened with active := 2, request := { seq := 1, kind := .up, target := some 3 } } : RxContext).request.target ≠
        some (parts69.active + 1)) := by decide

/-- R91, R94 at a slip and at a completion: a request that stands and one that is cancelled; the guard opened by a
completion upward, and closed with m doubled by one downward. -/
theorem wit_ValidFieldIsRoutedInFull_rebased :
    let env := rxEnv live .c0
    let x := fun (next : Option Nat) (kind : ReqKind) (target : Nat) => { rxOn 3 4 with
      armed := next.map fun p => { next := p, remaining := 2, grant := none }, timer := some 5, m := 2, guardOpen := true
      request := { seq := 3, kind := kind, target := some target } }
    let y := fun (active : Nat) (ans : AnsKind) (x : RxContext) =>
      (takeField env true { parts69 with active := active, ansSeq := 3 } ans x).1
    let shown := fun (y : RxContext) => (y.request.kind, y.request.seq, y.timer)
    (shown (y 2 .none (x none .down 1)) = (.down, 3, some 5) ∧ shown (y 2 .deferred (x none .up 3)) = (.up, 3, some 0) ∧
      shown (y 1 .none (x none .urgent 1)) = (.none, 4, none) ∧ shown (y 2 .refused (x none .down 1)) = (.none, 3, none)) ∧
    (shown (y 4 .none (x (some 4) .up 5)) = (.up, 3, some 5) ∧ shown (y 4 .none (x (some 4) .up 4)) = (.none, 4, none) ∧
      shown (y 4 .refused (x (some 4) .up 5)) = (.none, 3, none)) ∧
    ((y 4 .none (x (some 4) .up 5)).upCounter = 0 ∧ (y 4 .none (x (some 4) .up 5)).m = 2 ∧
      (y 2 .none (x (some 2) .down 1)).guardOpen = false ∧ (y 2 .none (x (some 2) .down 1)).m = 4 ∧
      (y 2 .none (x (some 2) .down 1)).hold = env.link.holdFrames * 4) := by decide

theorem wit_SignallingRecoversAtSigRecover :
    let f := writeField parts69 .granted
    let s := sigAt true 0 7
    (s.port.link = .running ∧ s.port.current.isSome = true ∧ s.enabled .c0 = true ∧
      (s.port.carriers.get .c0).fieldTaken = false ∧ fieldValid s.working.length f = true ∧
      (fieldParts f).ansKind = some .granted ∧ (s.sig.get .c0).lost = true ∧ s.working.link.sigRecover ≤ (s.sig.get .c0).validRun + 1) ∧
    ((sigAt true 0 6).sig.get .c0).validRun + 1 < (sigAt true 0 6).working.link.sigRecover ∧
    (({ sigAt true 0 7 with rau := ⟨{ rxOn 3 4 with phase := .siglost }, .initial, .initial, .initial⟩ } : State
      ).rau.get .c0).phase = .siglost := by decide +kernel

theorem wit_SignallingRecoversAtSigRecover_equip_fault :
    let f := writeField { parts69 with equipFault := true } .granted
    let s := farAborts true (sigAt true 0 6)
    (s.port.link = .running ∧ s.enabled .c0 = true ∧ fieldValid s.working.length f = true ∧
      (fieldParts f).ansKind = some .granted ∧ (fieldParts f).equipFault = true ∧ (s.sig.get .c0).lost = true ∧
      (s.sig.get .c0).validRun + 1 < s.working.link.sigRecover) ∧
    (s.fault.farFault.get .c0 = false ∧ s.fault.state = .running ∧ abortDemand s = false) := by decide +kernel

/-! ### Witnesses: Change Lane -/

theorem wit_IntakeDisposesOfEachRequest :
    (2 : Seq) = c1Of7.lastAnswered ∧ (4 : Seq) ≠ c1Of7.lastAnswered ∧
    c1Of7.entry = some (.far 4 .up 4 (some 500) false) ∧ (5 : Seq) ≠ c1Of7.lastAnswered ∧
    ReqKind.change? .none = none ∧ ReqKind.change? .up = some .up ∧ ReqKind.change? .urgent = some .urgent := by decide

/-- R128: a far UP refused, a far DOWN absorbed with its seq, and two internal entries merged with the targets equal, the
standing one lower, and the new one lower. -/
theorem wit_IntakeDisposesOfEachRequest_internal :
    let taken := fun (e : Option Entry) (target : Nat) =>
      let y := intakeOwn .sigloss .urgent target { laneOn 3 with entry := e }
      (y.entry, y.answer, y.lastAnswered)
    let kept : Answer := { kind := .none, seq := 2 }
    taken none 0 = (some (.own .sigloss .urgent 0 none), kept, 2) ∧
    taken (some (.far 5 .up 4 none false)) 0 = (some (.own .sigloss .urgent 0 none), { kind := .refused, seq := 5 }, 5) ∧
    taken (some (.far 5 .down 1 none false)) 0 = (some (.own .sigloss .urgent 0 (some 5)), kept, 2) ∧
    (taken (some (.own .ceiling .down 1 (some 6))) 1).1 = some (.own .ceiling .urgent 1 (some 6)) ∧
    (taken (some (.own .ceiling .down 0 none)) 1).1 = some (.own .ceiling .urgent 0 none) ∧
    (taken (some (.own .ceiling .down 2 (some 6))) 1).1 = some (.own .sigloss .urgent 1 (some 6)) := by decide

/-- A table with a far DOWN, an own URGENT with an absorbed seq, and an UP. -/
def laneDown : Lane :=
  { announcement := none,
    carriers := ⟨{ laneOn 3 with entry := some (.far 5 .down 1 (some 10) false) },
                 { laneOn 3 with entry := some (.own .sigloss .urgent 0 (some 6)) },
                 { laneOn 2 with entry := some (.far 3 .up 3 (some 9) false) }, laneOn 0⟩ }

theorem wit_BundleTakesEveryDowngrade :
    ((laneDown.carriers.get .c0).entry = some (.far 5 .down 1 (some 10) false) ∧
      (laneDown.carriers.get .c1).entry = some (.own .sigloss .urgent 0 (some 6)) ∧
      (laneDown.carriers.get .c2).entry = some (.far 3 .up 3 (some 9) false)) ∧
    ((laneSelect LinkParams.default 11 true false laneDown).announcement.map fun a => (a.count, a.members.length)) =
      some (2, 2) := by decide

/-- At a frame start: the lane idle with downgrades in the table, no APPLY pending, every field taken. -/
theorem wit_BundleTakesEveryDowngrade_at_frame_start :
    let s := allTaken { live with lane := laneDown }
    FieldsTaken s ∧ s.port.link = .running ∧ s.applyPending = false ∧ s.port.current.isSome = true ∧
    (after (exec .announcementSwitch s)).map (fun u => (u.lane.announcement.isNone, (u.lane.carriers.get .c0).entry)) =
      some (true, some (.far 5 .down 1 (some 10) false)) := ⟨all_taken_fields _, by decide +kernel⟩

def laneUp : Lane :=
  { announcement := none,
    carriers := ⟨{ laneOn 3 with entry := some (.far 5 .up 4 (some 10) false) },
                 { laneOn 3 with entry := some (.far 6 .up 4 (some 65535) false) }, laneOn 2, laneOn 0⟩ }

theorem wit_OldestUpgradeIsGranted :
    (∀ c ∈ Carrier.all, ∀ e ∈ (laneUp.carriers.get c).entry, e.kind = .up ∧ e.isOwn = false ∧ e.arrival?.isSome = true) ∧
    (laneUp.carriers.get .c0).entry.isSome = true ∧ (∀ c ∈ Carrier.all, (live.lane.carriers.get c).entry = none) ∧
    ((laneSelect LinkParams.default 11 true false laneUp).announcement.map fun a => a.members.map (·.carrier)) =
      some [.c1] := by decide

theorem wit_OldestUpgradeIsGranted_at_frame_start :
    let s := allTaken { live with lane := laneUp }
    FieldsTaken s ∧ s.port.link = .running ∧ s.applyPending = false ∧ s.port.current.isSome = true ∧
    (after (exec .announcementSwitch s)).map (fun u => (u.lane.announcement.isNone,
      Carrier.all.all fun c => (u.lane.carriers.get c).entry.all fun e => e.kind = .up)) = some (true, true) ∧
    (started s).map (fun t => t.lane.announcement.isSome) = some true := ⟨all_taken_fields _, by decide +kernel⟩

/-- Log entry 31: C0's UP from P0 to P1 is withdrawn for its own SIGLOSS entry, which the re-check removes; nothing
starts, and a DOWN entry of C1 is announced with announce_count. -/
theorem test_withdrawal_whose_recheck_removes_the_urgent_entry :
    let lane := fun (x1 : LaneCarrier) => (started (live.setLane
      { announcement := some { kind := .up, count := 3, switchFrame := 13,
                               members := [{ carrier := .c0, fromP := 0, toP := 1, origin := .far 5, arrival := some 9 }] }
        carriers := ⟨{ laneOn 0 with entry := some (.own .sigloss .urgent 0 none) }, x1, laneOn 0, laneOn 0⟩ })).map (·.lane)
    lane (laneOn 3) = some { announcement := none, carriers := ⟨laneOn 0, laneOn 3, laneOn 0, laneOn 0⟩ } ∧
    (lane { laneOn 3 with entry := some (.far 6 .down 1 (some 10) false) }).map
      (fun l => l.announcement.map fun a => (a.kind, a.count)) = some (some (.down, 4)) := by decide +kernel

theorem wit_DueAnnouncementSwitches :
    ((announced 1).port.link = .running ∧ (announced 1).port.current.isSome = true ∧
      (announced 1).lane.announcement.map (·.count) = some 1 ∧ ((announced 1).lane.memberOf .c0).isSome = true ∧
      (announced 1).lane.memberOf .c1 = none) ∧
    live.lane.announcement = none ∧ (announced 2).lane.announcement.map (·.count) = some 2 := by decide

theorem wit_DueAnnouncementSwitches_at_frame_start :
    (NoCommitDue (announced 1) ∧ NoCommitDue (announced 2) ∧ NoCommitDue live ∧ FieldsTaken (allTaken (announced 3))) ∧
    ((announced 2).port.link = .running ∧ live.lane.announcement = none ∧
      ((announced 3).lane.announcement.map fun a => (a.kind, a.count)) = some (.up, 3)) ∧
    (∀ c ∈ Carrier.all, ((announced 3).lane.carriers.get c).entry = none) :=
  ⟨⟨.inl rfl, .inl rfl, .inl rfl, all_taken_fields _⟩, by decide⟩

/-- The re-check at the switch to P4: a far DOWN to P1 stands, an UP to P4 is refused, and at a FRAME_START the selection
takes what stands. -/
theorem wit_DueAnnouncementSwitches_recheck :
    let s := fun (e : Entry) => allTaken ((announced 1).setLane
      ((announced 1).lane.update .c0 fun x => { x with entry := some e }))
    let down : Entry := .far 6 .down 1 (some 10) false
    let up : Entry := .far 6 .up 4 (some 10) false
    let shown := fun (t : State) =>
      ((t.lane.carriers.get .c0).entry, (t.lane.carriers.get .c0).answer.kind, t.lane.announcement.map (·.kind))
    FieldsTaken (s down) ∧
    (after (exec .announcementSwitch (s down))).map shown = some (some down, .none, none) ∧
    (after (exec .announcementSwitch (s up))).map shown = some (none, .refused, none) ∧
    (started (s up)).map shown = some (none, .refused, none) ∧
    (started (s down)).map shown = some (none, .granted, some .down) := ⟨all_taken_fields _, by decide +kernel⟩

theorem wit_WithdrawnUpgradeReturnsDeferred :
    let l := (announced 3).lane
    (l.announcement.map fun a => (a.members.length, a.members.map (·.origin))) = some (1, [.far 5]) ∧
    (l.carriers.get .c0).hold = false ∧ (l.carriers.get .c0).entry = none ∧
    (4 = (l.carriers.get .c0).active + 1 ∧ 4 ≤ (working48.carriers.get .c0).txCeiling) := by decide

/-- R136's first case with another entry standing, and without; its second case; and an UP that is no longer one step up.
The re-check lets a far DOWN to P1 stand. -/
theorem wit_WithdrawnUpgradeReturnsDeferred_hold_and_entry :
    let down : Option Entry := some (.far 6 .down 1 (some 10) false)
    let withdrawn := fun (active : Nat) (hold : Bool) (entry : Option Entry) =>
      let l := (announced 3).lane.update .c0 fun x => { x with active := active, hold := hold, entry := entry }
      let y := (laneWithdraw working48 restoreMember l).carriers.get .c0
      (y.entry, y.answer.kind, y.answer.seq, y.lastAnswered)
    withdrawn 3 true down = (down, .refused, 5, 5) ∧ withdrawn 3 true none = (none, .refused, 5, 5) ∧
    withdrawn 3 false down = (down, .none, 2, 2) ∧ withdrawn 2 false none = (none, .refused, 5, 5) ∧
    withdrawn 1 true down = (none, .refused, 6, 6) := by decide

/-- C0's UP announcement at 3 and an URGENT entry of C1. -/
def withUrgent : State :=
  let s := announced 3
  allTaken (s.setLane (s.lane.update .c1 fun x => { x with entry := some (.own .sigloss .urgent 0 none) }))

theorem wit_WithdrawnUpgradeReturnsDeferred_at_frame_start :
    FieldsTaken withUrgent ∧ withUrgent.port.link = .running ∧
    (withUrgent.lane.announcement.map fun a => (a.kind, a.count)) = some (.up, 3) ∧
    (withUrgent.lane.carriers.get .c1).entry = some (.own .sigloss .urgent 0 none) ∧ 0 < withUrgent.txActive .c1 :=
  ⟨all_taken_fields _, by decide⟩

/-! ### Witnesses: power control, the mapper, the commit -/

theorem wit_FarMarginStepsAttenuation :
    (3 < onFive.low ∧ onFive.low ≤ 4) ∧ (onFive.high < 13 ∧ 12 ≤ onFive.high) ∧
    (onFive.low ≤ 13 ∧ 6 ≤ onFive.maxAtten ∧ onFive.maxAtten ≤ 40) := by decide

/-- A power shadow of C0 and a mapper shadow, each with a count; K0 leaves SHED and K1 enters it. -/
def shadowed (count : Nat) : State :=
  { live with
    pcu := live.pcu.set .c0 { PowerCarrier.initial with shadow := some { toP := 4, remaining := count } }
    mapper :=
      { active := { maps := .fill [], entries := (Eight.fill ClassEntry.inactive).set .k0
                      { state := .shed, placed := 0, segments := [] } }
        shadow := some { remaining := count, loadFrame := 12,
                         result := { maps := .fill [], entries := (Eight.fill ClassEntry.inactive).set .k1
                                       { state := .shed, placed := 0, segments := [] } } } } }

theorem wit_DueShadowsAreLoaded :
    (shadowed 1).port.link = .running ∧ (shadowed 1).port.current.isSome = true ∧
    (((shadowed 1).pcu.get .c0).shadow = some { toP := 4, remaining := 1 } ∧
      ((shadowed 1).mapper.shadow.map (·.remaining)) = some 1) ∧
    (((shadowed 2).pcu.get .c0).shadow = some { toP := 4, remaining := 2 } ∧
      ((shadowed 2).mapper.shadow.map (·.remaining)) = some 2 ∧ live.mapper.shadow = none ∧
      (live.pcu.get .c0).shadow = none) ∧
    (((shadowed 1).mapper.active.entries.get .k0).state = .shed ∧
      ((shadowed 1).mapper.active.entries.get .k1).state ≠ .shed ∧
      ((shadowed 1).mapper.shadow.map fun sh => ((sh.result.entries.get .k0).state, (sh.result.entries.get .k1).state)) =
        some (.inactive, .shed)) := by decide

theorem wit_DueShadowsAreLoaded_at_frame_start :
    (NoCommitDue (shadowed 1) ∧ NoCommitDue (shadowed 2) ∧ FieldsTaken (allTaken (shadowed 1))) ∧
    ((shadowed 1).enabled .c0 = true ∧ (shadowed 1).enabled .c2 = false ∧
      ((shadowed 1).pcu.get .c0).shadow = some { toP := 4, remaining := 1 } ∧
      ((shadowed 1).pcu.get .c1).shadow = none ∧ ((shadowed 2).mapper.shadow.map (·.remaining)) = some 2) ∧
    ((shadowed 1).lane.announcement = none ∧ (started (shadowed 1)).map (·.lane.announcement) = some none) ∧
    ((announced 2).lane.announcement.map (·.count)) = some 2 :=
  ⟨⟨.inl rfl, .inl rfl, all_taken_fields _⟩, by decide +kernel⟩

/-- The shadows of an UP at 3 count down with it. -/
theorem wit_DueShadowsAreLoaded_upgrade :
    let s := allTaken { announced 3 with pcu := (shadowed 3).pcu, mapper := (shadowed 3).mapper }
    (NoCommitDue s ∧ FieldsTaken s) ∧ ((s.lane.announcement.map fun a => (a.kind, a.count)) = some (.up, 3)) ∧
    (∀ c ∈ Carrier.all, (s.lane.carriers.get c).entry = none) ∧
    (started s).map (fun t => ((t.pcu.get .c0).shadow, t.mapper.shadow.map (·.remaining))) =
      some (some { toP := 4, remaining := 2 }, some 2) :=
  ⟨⟨.inl rfl, all_taken_fields _⟩, by decide +kernel⟩

theorem wit_PlacementMeetsItsBounds : ∀ k, ClassInRange (classes96.get k) := classes96_in_range

/-- 9.6, the first bundle: K0 and K3 fit whole, K5 does not; K1 is placed, K4 partly placed, K6 shed. -/
theorem wit_PlacementMeetsItsBounds_classes :
    let cap : Four Nat := ⟨30, 30, 12, 18⟩
    let free := freeBefore cap classes96 (placement cap classes96)
    (free .k0 .c0 = 30 ∧ (free .k3 .c3 < 16 ∧ 16 ≤ free .k3 .c0) ∧ ∀ c ∈ Carrier.all, free .k5 c < 12) ∧
    ((ringFrom .c1).map (free .k1) = [30, 12, 18, 22] ∧ (ringFrom .c0).map (free .k4) = [6, 10, 0, 6] ∧
      ((ringFrom .c2).map (free .k6)).sum = 0) := by decide +kernel

/-- An APPLY pending that disables C1 and enables C2. -/
def committing : State :=
  { live with
    applyPending := true
    staged := { staged48 with carriers := ⟨onFive, { onFive with enable := false }, onFive, .default⟩ } }

theorem wit_CommitPutsTheStagedSetInForce :
    (committing.port.link = .running ∧ committing.port.current = some 10 ∧ committing.applyPending = true ∧
      committing.lane.announcement = none ∧ stagedTable committing.staged = some table48) ∧
    ((after (exec .commit committing)).map fun t => (t.enabled .c0, t.enabled .c1, t.enabled .c2, t.enabled .c3)) =
      some (true, false, true, false) ∧
    (live.applyPending = false ∧ (announced 2).lane.announcement.isSome = true ∧ lost.port.link = .frameLost ∧
      first.port.current = none) := by decide +kernel

/-- An APPLY pending of three profiles with both ceilings at P2, ATPC as given, and LOCAL among the abort sources. -/
def shrinking (atpc fault : Bool) : State :=
  { live with
    applyPending := true
    staged :=
      { staged48 with
        link := { LinkParams.default with abortOnLocal := true }
        carriers := .fill { onFive with rxCeiling := 2, txCeiling := 2, atpcEnable := atpc, enable := true, maxAtten := 1 }
        tableLength := 3 }
    fault := { live.fault with faultLevel := fault } }

/-- C0, enabled before and after: on P3 and on P2, a switch armed to P3 and to P2, a request above the ceiling, an entry,
ATPC turned off and kept, the abort raised and not. -/
theorem wit_CommitPutsTheStagedSetInForce_both_enabled :
    let s := shrinking true false
    (s.port.link = .running ∧ s.port.current = some 10 ∧ s.applyPending = true ∧ s.lane.announcement = none ∧
      stagedTable s.staged = some (table48.take 3)) ∧
    (s.enabled .c0 = true ∧ ((after (exec .commit s)).map fun t => (t.enabled .c0, t.working.length,
      (t.params .c0).rxCeiling, (t.params .c0).txCeiling)) = some (true, 3, 2, 2)) ∧
    (3 ≤ (s.rau.get .c0).active ∧ (rxOn 2 4).active < 3 ∧ 2 < s.txActive .c0 ∧ (laneOn 2).active ≤ 2) ∧
    (((armedAt 3 2).rau.get .c0).armed.map (·.next) = some 3 ∧ ((armedAt 2 2).rau.get .c0).armed.map (·.next) = some 2 ∧
      ((timed 0).rau.get .c0).request.target = some 4) ∧
    ((s.params .c0).atpcEnable = true ∧ ((shrinking false false).staged.carriers.get .c0).atpcEnable = false ∧
      (s.sig.get .c0).lost = false) ∧
    (let r := shrinking true true
     abortDemand r = false ∧ (after (exec .commit r)).map abortDemand = some true ∧ r.fault.state = .running ∧
     (after (exec .commit s)).map abortDemand = some false) := by decide +kernel

/-- K0 with its 24 slots on C0, all of the capacity of P3. -/
def fullMap : Placement :=
  { maps := ⟨[(.k0, 24)], [], [], []⟩
    entries := (Eight.fill ClassEntry.inactive).set .k0 { state := .placed, placed := 24, segments := [(.c0, 24)] } }

theorem full_map_sound : PlacementSound fullMap := by
  refine ⟨fun c => by cases c <;> decide, fun k => ?_⟩
  cases k <;> simp [ClassEntrySound, fullMap, Eight.fill, Eight.get, Eight.set, ClassEntry.inactive,
    segmentSum] <;> (intro c; cases c <;> simp [Four.get])

/-- The bound at its value: 24 slots on C0 are the capacity of P3; in an announcement of C0's rise the shadow fits P4's 30. -/
theorem wit_SlotMapsStaySound_bound :
    mapSum (fullMap.maps.get .c0) = (capacities live.working live.txActive).get .c0 ∧
    MapsFit { announced 2 with mapper := Mapper.mk fullMap (some
      { remaining := 2, loadFrame := 12, result := placement ⟨30, 24, 0, 0⟩ classes96 }) } := by
  refine ⟨by decide +kernel, fun c => by cases c <;> decide +kernel, _, rfl, by decide, fun c => ?_⟩
  cases c <;> decide +kernel

/-- At a FRAME_START: C0 carried over by a commit that shrinks the table, with an announcement of C0 due and none, and by
one that raises the abort. -/
theorem wit_CommitPutsTheStagedSetInForce_both_enabled_at_frame_start :
    let s := fun (fault : Bool) => allTaken (shrinking true fault)
    let due := (s false).setLane (announced 1).lane
    let shown := fun (t : State) => ((t.rau.get .c0).active, t.txActive .c0, (t.lane.carriers.get .c0).entry)
    (∀ c ∈ Carrier.all, CommitQuiet (s true) c) ∧ CommitQuiet due .c0 ∧
    (due.applyPending = true ∧ due.port.link = .running ∧ due.lane.announcement.map (·.count) = some 1) ∧
    ((started due).map shown = some (0, 4, some (.own .ceiling .down 2 none)) ∧
      (started (s false)).map shown = some (0, 3, some (.own .ceiling .down 2 none)) ∧
      (started (s true)).map shown = some (0, 3, some (.own .abort .urgent 0 none))) ∧
    (abortDemand (s true) = false ∧ (started (s true)).map (fun t => (abortDemand t, t.fault.state)) =
      some (true, .aborted)) := by
  refine ⟨fun c _ => .inr ?_, .inr ?_, by decide +kernel⟩
  · cases c <;> decide
  · decide

/-- The conforming at a commit: of K0's 24 slots on C0 the new need keeps 8; with a table of 3 profiles, P3 is no more
and K0 gives up every pair. -/
theorem wit_CommitPutsTheStagedSetInForce_conformed :
    PlacementSound fullMap ∧
    (let full := fun (s : State) => { s with mapper := { active := fullMap, shadow := none } }
     let kept := fun (s : State) => (after (exec .commit (full s))).map fun t =>
       (t.mapper.active.maps.get .c0, (t.mapper.active.entries.get .k0).state)
     kept committing = some ([(.k0, 8)], .placed) ∧ kept (shrinking true false) = some ([], .shed) ∧
     loadedPlacement (full live) = fullMap) :=
  ⟨full_map_sound, by decide +kernel⟩

/-- An APPLY pending that excludes C0's branch B, which is FAULTED, takes A, which is EXCLUDED, back, and changes C1's
mode or nothing of C1's. -/
def excluding (mode : CombiningMode) : State :=
  { alarmed with
    applyPending := true
    working := { working48 with carriers := ⟨{ onFive with excludeA := true }, onFive, .default, .default⟩ }
    staged := { staged48 with
      carriers := ⟨{ onFive with excludeB := true }, { onFive with mode := mode }, .default, .default⟩ }
    monitor := { live.monitor with branches := live.monitor.branches.set .c0 (Sides.mk
      { health := .excluded, badRun := 0, goodRun := 0 } { health := .faulted, badRun := 0, goodRun := 3 }) } }

/-- The Branch Monitor's part, at the row and at a FRAME_START whose slot is C0's branch A. -/
theorem wit_CommitPutsTheStagedSetInForce_branches :
    let shown := fun (t : State) =>
      (((t.monitor.branches.get .c0).a.health, (t.monitor.branches.get .c0).b), t.monitor.grace.get .c0,
        t.monitor.grace.get .c1, t.events.latched .branchFault 1)
    let excluded : BranchState := { health := .excluded, badRun := 0, goodRun := 0 }
    let g := LinkParams.default.pauseGrace
    ((excluding .combine).applyPending = true ∧ (excluding .combine).lane.announcement = none ∧
      stagedTable (excluding .combine).staged = some table48) ∧
    (after (exec .commit (excluding .select))).map shown = some ((.healthy, excluded), g, g, true) ∧
    (after (exec .commit (excluding .combine))).map shown = some ((.healthy, excluded), g, 0, true) ∧
    (started (excluding .combine)).map shown = some ((.suspect, excluded), g, 0, true) := by decide +kernel

/-- The conditions that a commit leaves: it disables C0 with its FADE_ALARM and C1 with its SIG_LOST. -/
theorem wit_CommitPutsTheStagedSetInForce_conditions :
    let s := { alarmed with
      applyPending := true
      staged := { staged48 with carriers := .fill CarrierParams.default } }
    (stagedTable s.staged = some table48 ∧ s.enabled .c0 = true ∧ s.enabled .c1 = true) ∧
    ((after (exec .commit s)).map fun t =>
      (t.enabled .c0, t.enabled .c1, t.events.latched .fadeAlarm 0, t.events.latched .sigLost 1)) =
      some (false, false, true, true) := by decide +kernel

theorem wit_CommitPutsTheStagedSetInForce_at_frame_start :
    committing.applyPending = true ∧ committing.lane.announcement = none ∧
    stagedTable committing.staged = some table48 ∧
    ((started committing).map fun t => (t.enabled .c0, t.enabled .c1, t.enabled .c2)) = some (true, false, true) := by
  decide +kernel

/-! ### Witnesses: host messages -/

theorem wit_Answering : Answering live ∧ Answering (exchange 5) ∧ Answering (exchange 11) := by
  unfold Answering; decide

theorem wit_TableChecksOfApply :
    staged48.tableLength ≤ 12 ∧ { staged48 with tableLength := 0 }.tableLength ≤ 12 ∧
    (let x := { staged48 with tableLength := 1 }
     let s := State.reset.setStaged x
     x.tableLength ≤ 12 ∧ Answering s ∧ s.applyPending = false ∧ s.staged = x ∧ stagedTableOk x = false) :=
  ⟨by decide, by decide, by decide, ⟨rfl, rfl⟩, rfl, rfl, by decide +kernel⟩

theorem wit_ApplyIsCheckedInOrder :
    (((exchange 5).setApplyPending true).applyPending = true ∧ (exchange 5).applyPending = false) ∧
    (stagedTableOk { staged48 with tableLength := 1 } = false ∧ stagedTableOk (exchange 5).staged = true) ∧
    (limitsOk (exchange 11) = false ∧ limitsOk (exchange 6) = false ∧ limitsOk (exchange 5) = true) := by decide +kernel

theorem wit_StagingMessagesWriteTheStagedSet :
    (linkBytes LinkParams.default).length = 24 ∧ readLink (linkBytes LinkParams.default) = some LinkParams.default ∧
    readLink (List.replicate 24 0) = none ∧
    (carrierBytes onFive).length = 12 ∧ readCarrierParams (carrierBytes onFive) = some onFive ∧
    readCarrierParams (List.replicate 12 0) = none ∧ Carrier.ofNat? 3 = some .c3 ∧ Carrier.ofNat? 4 = none ∧
    readProfile 11 [1, 1, 30, 40, 0] = some ⟨1, 1, some 30, some 40, 0⟩ ∧ readProfile 12 [1, 1, 30, 40, 0] = none ∧
    ((12 : Byte).toNat ≤ 12 ∧ 12 < (13 : Byte).toNat) ∧ Cls.ofNat? 7 = some .k7 ∧ Cls.ofNat? 8 = none ∧
    readClass [0, 7, 1, 0, 0, 0] = some ClassRecord.default ∧ readClass [0, 8, 1, 0, 0, 0] = none := by decide +kernel

theorem wit_RecordsReadBackAsStaged :
    LinkInRange LinkParams.default ∧ CarrierInRange onFive ∧ ProfileInRange 5 ⟨9, 36, some 78, some 88, 4⟩ ∧
    ProfileInRange 0 ⟨15, 64, none, none, 16⟩ ∧ (∀ k, ClassInRange (classes96.get k)) :=
  ⟨link_default_in_range, onFive_in_range, by simp [ProfileInRange], by simp [ProfileInRange], classes96_in_range⟩

theorem wit_ReadRepliesCarryTheRecords :
    (Carrier.ofNat? (3 : Byte).toNat = some .c3 ∧ Cls.ofNat? (7 : Byte).toNat = some .k7) ∧
    (live.staged.slots[(11 : Byte).toNat]? = some none ∧ (live.staged.slots[(0 : Byte).toNat]?).isSome = true) ∧
    ((11 : Byte).toNat ≤ 11 ∧ 11 < (12 : Byte).toNat ∧ 3 < (4 : Byte).toNat ∧ 7 < (8 : Byte).toNat ∧
      4 < (5 : Byte).toNat) := by decide

/-- Items that are there and items that are not, on a running link. -/
theorem wit_StateRepliesHaveTheirLayout :
    Answering live ∧
    (Carrier.ofNat? (3 : Byte).toNat = some .c3 ∧ 4 ≤ (4 : Byte).toNat ∧ 2 ≤ (2 : Byte).toNat) ∧
    ((live.est.get .c2).est = none ∧ ((live.est.get .c0).est.map (·.e)) = some 900) ∧
    ((live.rau.get .c0).lastAnswer = none ∧
      ((withRx fun x => { x with lastAnswer := some { kind := .granted, seq := 3 } }).rau.get .c0).lastAnswer.isSome =
        true) ∧
    ((live.pcu.get .c0).shadow = none ∧ ({ live.pcu.get .c0 with shadow := some { toP := 4, remaining := 2 } } :
      PowerCarrier).shadow.isSome = true) ∧
    ((live.sig.get .c0).lastValid = none ∧ ((live.sig.set .c0 { SigCarrier.initial with
        lastValid := some { bytes := writeField parts69 .granted, frame := some 10 } }).get .c0).lastValid.isSome =
      true) ∧
    (live.lane.announcement = none ∧ (announced 2).lane.announcement.map (·.members.length) = some 1) ∧
    (live.mapper.shadow = none ∧
      (Mapper.mk fullMap (some { remaining := 1, loadFrame := 11, result := fullMap })).shadow.isSome = true) := by
  unfold Answering; decide +kernel

/-- The hold count counts on C0 and not when its pause is set or a switch is armed. -/
theorem wit_StateRepliesHaveTheirLayout_hold_count :
    let hold := fun (s : State) => match (after (exec (.readCarrier 1 [0]) s)).map (·.hml.transmitter) with
      | some (.sending r _) => (r.payload.drop 14).take 2
      | _ => []
    hold live = [0, 4] ∧ hold (withRx fun x => { x with hostPause := true }) = [0xFF, 0xFF] ∧
    hold (armedAt 4 2) = [0xFF, 0xFF] := by
  decide +kernel

theorem wit_DirectCommandsActAtOnce :
    Carrier.ofNat? (3 : Byte).toNat = some .c3 ∧ 4 ≤ (4 : Byte).toNat ∧ 2 ≤ (2 : Byte).toNat ∧
    (laneUp.carriers.get .c0).entry = some (.far 5 .up 4 (some 10) false) ∧
    (laneDown.carriers.get .c1).entry = some (.own .sigloss .urgent 0 (some 6)) := by decide

/-- ABORTED, with FAULT asserted and LOCAL enabled or not. -/
def aborted (fault enabled : Bool) : State :=
  { live with
    fault := { live.fault with state := .aborted, faultLevel := fault, cause := some .host }
    working := { working48 with link := { LinkParams.default with abortOnLocal := enabled } } }

theorem wit_AbortActsOnEveryBlock :
    (live.fault.state = .running ∧ (aborted false false).fault.state = .aborted) ∧
    (live.fault.faultLevel = false ∧ (aborted true false).fault.faultLevel = true) ∧
    ((aborted false true).working.link.abortOnLocal = true ∧ abortDemand (aborted false true) = false ∧
      live.working.link.abortOnLocal = false) ∧
    (live.enabled .c0 = true ∧ (timed 0).fault.state = .running ∧ ((timed 0).rau.get .c0).request.kind ≠ .none) ∧
    (live.port.link = .running ∧ lost.port.link = .frameLost) ∧
    ((announced 2).lane.announcement.map (·.count)) = some 2 ∧
    ((announced 1).lane.announcement.map (·.count)) = some 1 := by decide

/-- The lane at an abort: C0's withdrawn UP has its seq refused, C1's CEILING entry to P2 loses its absorbed seq and
becomes the ABORT entry to P0. -/
theorem wit_AbortActsOnEveryBlock_lane :
    let l := (announced 2).lane.update .c1 fun x => { x with entry := some (.own .ceiling .down 2 (some 6)) }
    let t := laneAbort working48 l
    ((t.carriers.get .c0).entry = some (.own .abort .urgent 0 none) ∧
      (t.carriers.get .c0).answer = { kind := .refused, seq := 5 }) ∧
    ((t.carriers.get .c1).entry = some (.own .abort .urgent 0 none) ∧ (t.carriers.get .c1).lastAnswered = 6) ∧
    t.carriers.get .c2 = laneOn 0 ∧ t.announcement = none := by decide

theorem wit_ResumeReleasesTheLink :
    live.fault.state = .running ∧ abortDemand (aborted true true) = true ∧
    ((aborted true false).fault.state = .aborted ∧ abortDemand (aborted true false) = false) := by decide

theorem wit_EventMessagesActOnTheTable :
    (EventKind.ofNat? (15 : Byte).toNat = some .farFault ∧ EventKind.ofNat? (16 : Byte).toNat = none ∧
      (3 : Nat) < EventKind.indices .farFault ∧ EventKind.indices .farFault ≤ 4) ∧
    (EventKind.isCondition .frameLost = true ∧ EventKind.isCondition .profileChangeRx = false) ∧
    ((live.events.mode .fadeAlarm).on = true ∧ (live.events.mode .fadeAlarm).edge.selects (some .leave) = true ∧
      live.events.latched .fadeAlarm 0 = false ∧ live.events.latched .sigLost 1 = true) ∧
    (State.reset.events.mode .fadeAlarm).on = false ∧ EdgeMode.enter.selects (some .leave) = false := by decide

/-- CLEAR_EVENTS with lists of two pairs: one that is latched and one that is not, and one with a bad pair behind. -/
theorem wit_EventMessagesActOnTheTable_lists :
    let s := live.setEvents { live.events with entries := live.events.entries ++
      [{ kind := .applyDone, index := 0, edge := none, frame := some 9 }] }
    let clear := fun (pairs : List (Byte × Byte)) =>
      (after (exec (.clearEvents 1 (pairs.flatMap fun pair => [pair.1, pair.2])) s)).map (·.events.entries.length)
    Answering s ∧ ([(1, 1), (0, 0)] : List (Byte × Byte)).length ≤ 58 ∧
    clear [(1, 1), (0, 0)] = some 1 ∧ clear [(1, 1), (12, 0)] = some 0 ∧ clear [(1, 1), (16, 0)] = some 2 ∧
    (List.replicate 58 ((1, 1) : Byte × Byte)).length ≤ 58 ∧
    clear (List.replicate 58 (1, 1)) = some 1 := by
  unfold Answering; decide +kernel

theorem wit_EveryTakenFrameIsAnsweredOnce :
    (Answering live ∧ ¬ takesLength .identify 1 ∧ ¬ takesLength .clearEvents 118 ∧ takesLength .clearEvents 116) ∧
    (∀ m ∈ Message.all, m.kind ≠ 0x02) ∧
    (({ live.hml with transmitter := .sending { kind := 0x81, tag := 0, payload := [0] } false } : HostLink).transmitter ≠
        .idle) ∧
    ({ live.hml with lineLow := true } : HostLink).lineLow = true := by
  refine ⟨⟨wit_Answering.1, by simp [takesLength], by simp [takesLength], by simp [takesLength]⟩, by decide, by decide,
    by decide⟩

theorem wit_ByteByByteFramesActAsMessages :
    Answering live ∧ live.hml.receiver = .idle ∧ (List.replicate 248 (0 : Byte)).length ≤ 248 ∧
    (∀ m ∈ Message.all, m.kind ≠ 0x02) ∧ (0x00 : Byte) ++ (0x00 : Byte) ≠ crc16 (frameBody 0x01 0 []) :=
  ⟨wit_Answering.1, by decide +kernel⟩

theorem wit_ReceiverFollowsTheLine :
    let at' := fun r => live.setHml { live.hml with receiver := r }
    live.hml.receiver = .idle ∧ live.hml.lineLow = false ∧ (at' (.receiving [])).hml.receiver = .receiving [] ∧
    (2 ≤ (2 : Byte).toNat ∧ (250 : Byte).toNat ≤ 250 ∧ (1 : Byte).toNat < 2 ∧ 250 < (251 : Byte).toNat) ∧
    ((at' (.receiving [2, 0x01])).hml.receiver = .receiving [2, 0x01] ∧ [(0x01 : Byte)].length + 2 < (2 : Byte).toNat + 3) ∧
    live.hml.transmitter = .idle := by decide

theorem wit_ResetsActAsOneAct :
    live.hml.transmitter = .idle ∧
    (∀ resets, (live.setHml { live.hml with
      transmitter := .sending { kind := 0xFF, tag := 0, payload := [0] } resets }).hml.transmitter =
        .sending { kind := 0xFF, tag := 0, payload := [0] } resets) := by decide

end Sys2Proof.Tests
end

section
/-! Report Intake's screening of a CARRIER_REPORT (R10, R11): when it is discarded silently, when with STALE_REPORT. -/
namespace Sys2Proof.Machine

theorem exec_carrierReport (c : Carrier) (f : FrameNo) (a b : Option BranchPart) (errors : BitVec 8) (s : State) :
    exec (.carrierReport c f a b errors) s = .next (takeCarrierReport c f a b errors.toNat s) := rfl

theorem State.frameRunning_iff (s : State) :
    s.frameRunning = true ↔ s.port.link = .running ∧ ∃ n, s.port.current = some n := by
  simp [State.frameRunning, Option.isSome_iff_exists]

theorem State.frameRunning_eq_false_iff (s : State) :
    s.frameRunning = false ↔ s.port.link = .frameLost ∨ s.port.current = none := by
  cases hlink : s.port.link <;> simp [State.frameRunning, hlink]

/-- R11's three screened cases, in a port whose current frame number is n. -/
theorem isStale_iff {port : Port} {n : FrameNo} (hn : port.current = some n) (last : Option FrameNo) (f : FrameNo) :
    isStale port last f = true ↔
      (f ≠ n ∧ port.previous ≠ some f) ∨ last = some f ∨ (port.previous = some f ∧ last = some n) := by
  have window : port.current ≠ some f ↔ f ≠ n := by rw [hn, ne_eq, Option.some_inj, eq_comm]
  have behind : (last.isSome = true ∧ last = port.current) ↔ last = some n := by
    rw [hn, and_iff_right_of_imp fun h => h ▸ Option.isSome_some]
  simp only [isStale, Bool.or_eq_true, Bool.and_eq_true, decide_eq_true_eq, window, behind, and_assoc, or_assoc]

/-- R10: what is discarded before any screening leaves the state as it is. -/
theorem takeCarrierReport_of_unscreened {c : Carrier} {s : State} (h : s.frameRunning = false ∨ s.enabled c = false)
    (f : FrameNo) (a b : Option BranchPart) (errors : Nat) : takeCarrierReport c f a b errors s = s :=
  if_pos <| by simpa using h

/-- R11: a screened report that is stale does nothing but report it. -/
theorem takeCarrierReport_of_stale {c : Carrier} {f : FrameNo} {s : State} (hrun : s.frameRunning = true)
    (hc : s.enabled c = true) (hstale : isStale s.port (s.intake.get c).lastAccepted f = true)
    (a b : Option BranchPart) (errors : Nat) :
    takeCarrierReport c f a b errors s = s.report [occurrence .staleReport c.toNat] := by
  have screened : ¬ (!s.frameRunning || !s.enabled c) = true := by simp [hrun, hc]
  rw [takeCarrierReport, if_neg screened, if_pos hstale]

/-- Settles O17: R10's cases are those of no running frame or no enabled carrier, R11's those of `isStale_iff`. -/
theorem unusableReportIsDiscarded : Obligations.UnusableReportIsDiscarded := by
  intro c f a b errors s
  rw [exec_carrierReport]
  constructor
  · intro h
    rw [← or_assoc, ← State.frameRunning_eq_false_iff] at h
    rw [takeCarrierReport_of_unscreened h]
  · intro n hlink hn hc h
    have hrun : s.frameRunning = true := s.frameRunning_iff.2 ⟨hlink, n, hn⟩
    have hstale := (isStale_iff hn (s.intake.get c).lastAccepted f).2 h
    rw [takeCarrierReport_of_stale hrun hc hstale, occurrence]

end Sys2Proof.Machine
end

section
/-! The Margin Estimator's stages, each as an act on numbers: combining (R22 to R25), the filter and fast attack (R28,
R29), the prediction (R32) and the margin (R33). -/
namespace Sys2Proof.Machine

/-! ### Combining (R22 to R25) -/

theorem BranchHealth.usable_iff (health : BranchHealth) :
    health.usable = true ↔ health = .healthy ∨ health = .suspect := by
  cases health <;> simp [BranchHealth.usable]

theorem CombiningMode.admits_iff (mode : CombiningMode) (side : Side) :
    mode.admits side = true ↔ ¬ (mode = .forceA ∧ side = .b) ∧ ¬ (mode = .forceB ∧ side = .a) := by
  cases mode <;> cases side <;> simp [CombiningMode.admits]

theorem eligibleSnr_some (mode : CombiningMode) (side : Side) (health : BranchHealth) (p : BranchPart) :
    eligibleSnr mode side health (some p) =
      if p.lock = true ∧ (health = .healthy ∨ health = .suspect) ∧
         ¬ (mode = .forceA ∧ side = .b) ∧ ¬ (mode = .forceB ∧ side = .a)
      then some (min p.snr.toNat 160) else none := by
  simp only [eligibleSnr, clampSnr, Bool.and_eq_true, BranchHealth.usable_iff, CombiningMode.admits_iff, and_assoc]

theorem combineBranches_none_right (mode : CombiningMode) (x : Nat) :
    combineBranches mode (some x) none = some x := rfl

theorem combineBranches_none_left (mode : CombiningMode) (x : Nat) :
    combineBranches mode none (some x) = some x := rfl

/-- A difference in the i-th step of 8 qdB takes the i-th bonus; all from the eighth step on take the last one. -/
theorem combiningBonus_of_step {d i : Nat} (h : min (d / 8) 8 = i) : combiningBonus d = bonusAt i :=
  congrArg bonusAt h

/-- R25's table, step by step; the two steps from 48 to 63 have the same bonus. -/
theorem combiningBonus_table (d : Nat) :
    (d ≤ 7 → combiningBonus d = 12) ∧ (8 ≤ d ∧ d ≤ 15 → combiningBonus d = 8) ∧
    (16 ≤ d ∧ d ≤ 23 → combiningBonus d = 6) ∧ (24 ≤ d ∧ d ≤ 31 → combiningBonus d = 4) ∧
    (32 ≤ d ∧ d ≤ 39 → combiningBonus d = 3) ∧ (40 ≤ d ∧ d ≤ 47 → combiningBonus d = 2) ∧
    (48 ≤ d ∧ d ≤ 63 → combiningBonus d = 1) ∧ (64 ≤ d → combiningBonus d = 0) := by
  refine ⟨fun _ => combiningBonus_of_step (i := 0) (by omega), fun _ => combiningBonus_of_step (i := 1) (by omega),
    fun _ => combiningBonus_of_step (i := 2) (by omega), fun _ => combiningBonus_of_step (i := 3) (by omega),
    fun _ => combiningBonus_of_step (i := 4) (by omega), fun _ => combiningBonus_of_step (i := 5) (by omega),
    fun _ => ?_, fun _ => combiningBonus_of_step (i := 8) (by omega)⟩
  obtain h | h : min (d / 8) 8 = 6 ∨ min (d / 8) 8 = 7 := by omega
  · exact combiningBonus_of_step h
  · exact combiningBonus_of_step h

/-- Settles O19: eligibility is `eligibleSnr_some`, the bonus of two branches `combiningBonus_table`. -/
theorem branchesCombine : Obligations.BranchesCombine := by
  refine ⟨fun mode side health part => ?_, fun _ => rfl,
    fun mode x => ⟨combineBranches_none_right mode x, combineBranches_none_left mode x⟩, fun _ _ => rfl,
    fun x y _ _ => ⟨combiningBonus (max x y - min x y), rfl, combiningBonus_table _⟩⟩
  cases part with
  | none => rfl
  | some p => exact eligibleSnr_some mode side health p

/-! ### The filter and fast attack (R28, R29) -/

section
variable {k drop : Nat} {e sample : Int}

theorem filterEstimate_of_fastAttack (h : sample < e - 16 * (drop : Int)) : filterEstimate k drop e sample = sample :=
  if_pos h

theorem filterEstimate_of_not_fastAttack (h : ¬ sample < e - 16 * (drop : Int)) :
    filterEstimate k drop e sample = e + (sample - e) / 2 ^ k := if_neg h

theorem filterEstimate_shift_zero : filterEstimate 0 drop e sample = sample := by
  unfold filterEstimate
  split
  · rfl
  · simp

/-- From above the estimate falls, and not below the sample: the floor of a negative quotient is negative, and no
less than the dividend. -/
theorem filterEstimate_from_above (h : sample < e) :
    sample ≤ filterEstimate k drop e sample ∧ filterEstimate k drop e sample < e := by
  by_cases hfast : sample < e - 16 * (drop : Int)
  · rw [filterEstimate_of_fastAttack hfast]
    exact ⟨le_rfl, h⟩
  · have hpow : (1 : Int) ≤ 2 ^ k := one_le_pow₀ (by decide)
    have hneg : (sample - e) / 2 ^ k < 0 := Int.ediv_neg_of_neg_of_pos (by omega) (by omega)
    have hle : sample - e ≤ (sample - e) / 2 ^ k := by
      rw [Int.le_ediv_iff_mul_le (by omega)]
      simpa using mul_le_mul_of_nonpos_left hpow (show sample - e ≤ 0 by omega)
    rw [filterEstimate_of_not_fastAttack hfast]
    omega

theorem not_fastAttack_from_below (h : e ≤ sample) : ¬ sample < e - 16 * (drop : Int) := by omega

/-- From below the estimate does not fall and does not pass the sample. -/
theorem filterEstimate_from_below (h : e ≤ sample) :
    e ≤ filterEstimate k drop e sample ∧ filterEstimate k drop e sample ≤ sample := by
  have hnonneg : 0 ≤ (sample - e) / 2 ^ k := Int.ediv_nonneg (by omega) (by positivity)
  have hle : (sample - e) / 2 ^ k ≤ sample - e := Int.ediv_le_self _ (by omega)
  rw [filterEstimate_of_not_fastAttack (not_fastAttack_from_below h)]
  omega

/-- From below, less than one step short of the sample, the estimate stands still. -/
theorem filterEstimate_stays (h : e ≤ sample) (hshort : sample - e < 2 ^ k) : filterEstimate k drop e sample = e := by
  rw [filterEstimate_of_not_fastAttack (not_fastAttack_from_below h), Int.ediv_eq_zero_of_lt (by omega) hshort, add_zero]

/-- From below, a step or more short of the sample, the estimate rises. -/
theorem filterEstimate_rises (h : e ≤ sample) (hfar : 2 ^ k ≤ sample - e) : e < filterEstimate k drop e sample := by
  have hpos : 1 ≤ (sample - e) / 2 ^ k := by
    rw [Int.le_ediv_iff_mul_le (by positivity)]
    omega
  rw [filterEstimate_of_not_fastAttack (not_fastAttack_from_below h)]
  omega

end

/-- An iteration that keeps an invariant and lowers a rank until it stops comes to a stop, with the invariant kept. -/
theorem exists_iterate_stops {α : Type} {g : α → α} {Keep Stop : α → Prop} (rank : α → Nat)
    (descends : ∀ x, Keep x → ¬ Stop x → Keep (g x) ∧ rank (g x) < rank x) (x : α) (hx : Keep x) :
    ∃ n, Keep (g^[n] x) ∧ Stop (g^[n] x) := by
  by_cases hstop : Stop x
  · exact ⟨0, hx, hstop⟩
  · obtain ⟨hkeep, hless⟩ := descends x hx hstop
    obtain ⟨n, hn⟩ := exists_iterate_stops rank descends (g x) hkeep
    exact ⟨n + 1, hn⟩
termination_by rank x

/-- A constant sample is reached from above: until then each report brings the estimate closer, and none takes it below
the sample. -/
theorem filterEstimate_reaches_from_above (k drop : Nat) {e sample : Int} (h : sample ≤ e) :
    ∃ n, (fun x => filterEstimate k drop x sample)^[n] e = sample := by
  have descends (x : Int) (hx : sample ≤ x) (hne : ¬ x = sample) :
      sample ≤ filterEstimate k drop x sample ∧
      (filterEstimate k drop x sample - sample).toNat < (x - sample).toNat := by
    obtain ⟨hlow, hfall⟩ := filterEstimate_from_above (k := k) (drop := drop) (lt_of_le_of_ne hx (Ne.symm hne))
    exact ⟨hlow, by omega⟩
  obtain ⟨n, -, hn⟩ := exists_iterate_stops (fun x => (x - sample).toNat) descends e h
  exact ⟨n, hn⟩

/-- Against a constant sample from below the estimate comes within one step of it: until then each report raises it. -/
theorem filterEstimate_settles_from_below (k drop : Nat) {e sample : Int} (h : e ≤ sample) :
    ∃ n, (fun x => filterEstimate k drop x sample)^[n] e ≤ sample ∧
      sample - (fun x => filterEstimate k drop x sample)^[n] e < 2 ^ k := by
  have descends (x : Int) (hx : x ≤ sample) (hfar : ¬ sample - x < 2 ^ k) :
      filterEstimate k drop x sample ≤ sample ∧
      (sample - filterEstimate k drop x sample).toNat < (sample - x).toNat := by
    have hhigh := (filterEstimate_from_below (k := k) (drop := drop) hx).2
    have hrise := filterEstimate_rises (drop := drop) hx (not_lt.1 hfar)
    exact ⟨hhigh, by omega⟩
  exact exists_iterate_stops (g := fun x => filterEstimate k drop x sample) (Keep := (· ≤ sample))
    (Stop := (sample - · < 2 ^ k)) (fun x => (sample - x).toNat) descends e h

/-- Settles O20: one report is `filterEstimate_from_above` or `filterEstimate_from_below`, a run of them an iteration
whose distance to the sample falls. -/
theorem filterSettlesOnTheSample : Obligations.FilterSettlesOnTheSample := by
  refine ⟨fun k drop e sample h => filterEstimate_of_fastAttack h, fun k drop e sample h => ⟨?_, ?_, ?_, ?_, ?_⟩, ?_,
    fun k drop e sample h => filterEstimate_reaches_from_above k drop h, fun k drop e sample h => ?_⟩
  · rw [filterEstimate_of_not_fastAttack h, Int.fdiv_eq_ediv_of_nonneg _ (by positivity)]
  · rintro rfl
    exact filterEstimate_shift_zero
  · intro _ habove
    obtain ⟨hlow, hfall⟩ := filterEstimate_from_above (k := k) (drop := drop) habove
    exact ⟨Int.le_sub_one_of_lt hfall, hlow⟩
  · exact filterEstimate_from_below
  · exact fun hbelow hshort => filterEstimate_stays hbelow.le hshort
  · intro drop e sample hsample he
    omega
  · obtain ⟨n, hle, hshort⟩ := filterEstimate_settles_from_below k drop h
    exact ⟨n, hle, hshort, filterEstimate_stays hle hshort⟩

/-! ### The prediction and the margin (R32, R33) -/

theorem predict_of_falling (L : Nat) (e : Int) {r : Int} (h : r < 0) : predict L e r = max 0 (e + r * L) := if_pos h

theorem predict_of_not_falling (L : Nat) (e : Int) {r : Int} (h : 0 ≤ r) : predict L e r = e := if_neg (not_lt.2 h)

/-- With no lookahead the prediction of an estimate in range is the estimate, whatever the slope. -/
theorem predict_zero {e : Int} (r : Int) (he : 0 ≤ e) : predict 0 e r = e := by
  obtain h | h := lt_or_ge r 0
  · rw [predict_of_falling 0 e h, Nat.cast_zero, mul_zero, add_zero, max_eq_right he]
  · exact predict_of_not_falling 0 e h

theorem marginBase_of_down {table : List ProfileRecord} {ceiling d : Nat} {r : ProfileRecord}
    (hr : table[ceiling]? = some r) (hd : r.down = some d) : marginBase table ceiling = 16 * (d : Int) := by
  simp [marginBase, downOf, hr, hd]

theorem marginBase_of_no_down {table : List ProfileRecord} {ceiling : Nat} {r : ProfileRecord}
    (hr : table[ceiling]? = some r) (hd : r.down = none) : marginBase table ceiling = 0 := by
  simp [marginBase, downOf, hr, hd]

/-- The margin as a number is the excess over the base in whole half-dB steps, taken at the nearer of 0 and 63. -/
theorem marginOf_cast (base pr : Int) : (marginOf base pr : Int) = max 0 (min 63 ((pr - base) / 32)) :=
  Int.toNat_of_nonneg (le_max_left _ _)

/-- Settles O22: the two cases of the prediction and of the base, and the margin's floor by `marginOf_cast`. -/
theorem predictionAndMarginFollowTheRules : Obligations.PredictionAndMarginFollowTheRules := by
  refine ⟨fun L e r => predict_of_falling L e, fun L e r => predict_of_not_falling L e, fun e r => predict_zero r,
    fun table ceiling r hr => ?_, fun base pr => ?_⟩
  · cases hd : r.down with
    | some d => exact marginBase_of_down hr hd
    | none => exact marginBase_of_no_down hr hd
  · have hm := marginOf_cast base pr
    exact ⟨by omega, fun hlow => by omega, fun hhigh => by omega, fun hlow hhigh => by omega⟩

end Sys2Proof.Machine
end

section
/-! The Branch Monitor's sample of one branch: what makes it bad (R43), and the rows of the transition table (R44 to
R46). -/
namespace Sys2Proof.Machine

/-! ### What makes a sample bad (R43) -/

theorem badSample_absent (link : LinkParams) (n : FrameNo) : badSample link n none = true := rfl

theorem badSample_not_present (link : LinkParams) (n f : FrameNo) :
    badSample link n (some { frame := f, part := none }) = true := rfl

theorem badSample_present_iff (link : LinkParams) (n f : FrameNo) (p : BranchPart) :
    badSample link n (some { frame := f, part := some p }) = true ↔
      p.lock = false ∨ p.level < link.levelFloor ∨ 8 < frameAge n f := by
  simp only [badSample, Bool.or_eq_true, Bool.not_eq_true', decide_eq_true_eq, or_assoc]

/-- R43: an absent or not present record is bad outright, so only a present one has a condition to meet. -/
theorem badSample_iff (link : LinkParams) (n : FrameNo) (record : Option BranchRecord) :
    badSample link n record = true ↔
      ∀ r ∈ record, ∀ p ∈ r.part, p.lock = false ∨ p.level < link.levelFloor ∨ 8 < frameAge n r.frame := by
  match record with
  | none => simp [badSample_absent]
  | some ⟨f, none⟩ => simp [badSample_not_present]
  | some ⟨f, some p⟩ => simp [badSample_present_iff]

/-! ### The rows of a run that goes on or reaches its limit (R44 to R46) -/

section
variable {link : LinkParams} {bad good : Nat}

/-- R44: a bad run short of fault_scans only counts. -/
theorem sampleBranch_suspect_counts (h : bad + 1 < link.faultScans) :
    sampleBranch link true ⟨.suspect, bad, good⟩ = (⟨.suspect, bad + 1, good⟩, none) := if_neg (not_le.2 h)

/-- R45: the bad sample that brings the run to fault_scans enters FAULTED. -/
theorem sampleBranch_suspect_enters (h : link.faultScans ≤ bad + 1) :
    sampleBranch link true ⟨.suspect, bad, good⟩ = (⟨.faulted, 0, 0⟩, some .enter) := if_pos h

/-- R46: a good run short of recover_scans only counts. -/
theorem sampleBranch_faulted_counts (h : good + 1 < link.recoverScans) :
    sampleBranch link false ⟨.faulted, bad, good⟩ = (⟨.faulted, bad, good + 1⟩, none) := if_neg (not_le.2 h)

/-- R46: the good sample that brings the run to recover_scans leaves FAULTED. -/
theorem sampleBranch_faulted_leaves (h : link.recoverScans ≤ good + 1) :
    sampleBranch link false ⟨.faulted, bad, good⟩ = (⟨.healthy, 0, 0⟩, some .leave) := if_pos h

end

/-- Settles O25: the conditions by `badSample_iff`; the four rows without a limit compute, the other four are the two
sides of fault_scans and of recover_scans. -/
theorem sampleMovesBranchState : Obligations.SampleMovesBranchState :=
  ⟨badSample_iff, fun _ _ _ => ⟨rfl, rfl, rfl, sampleBranch_suspect_counts, sampleBranch_suspect_enters, rfl,
    sampleBranch_faulted_counts, sampleBranch_faulted_leaves⟩⟩

end Sys2Proof.Machine
end

section
/-! The table checks at APPLY (R58): the staged slots as a table of records, and the checks as conditions on each
record, on each record and the next, and on each pair. -/
namespace Sys2Proof.Machine

/-! ### Lists by their places -/

section
variable {α : Type} {R : α → α → Prop} {P : α → Prop} (l : List α)

theorem isChain_iff_getElem? : l.IsChain R ↔ ∀ p r q, l[p]? = some r → l[p + 1]? = some q → R r q := by
  rw [List.isChain_iff_getElem]
  constructor
  · intro h p r q hr hq
    obtain ⟨_, rfl⟩ := List.getElem?_eq_some_iff.1 hr
    obtain ⟨hp, rfl⟩ := List.getElem?_eq_some_iff.1 hq
    exact h p hp
  · exact fun h p hp => h p _ _ (List.getElem?_eq_getElem _) (List.getElem?_eq_getElem hp)

theorem pairwise_iff_getElem? :
    l.Pairwise R ↔ ∀ (p q : Nat) (r r' : α), p < q → l[p]? = some r → l[q]? = some r' → R r r' := by
  rw [List.pairwise_iff_getElem]
  constructor
  · intro h p q r r' hpq hr hr'
    obtain ⟨hp, rfl⟩ := List.getElem?_eq_some_iff.1 hr
    obtain ⟨hq, rfl⟩ := List.getElem?_eq_some_iff.1 hr'
    exact h p q hp hq hpq
  · exact fun h p q hp hq hpq => h p q _ _ hpq (List.getElem?_eq_getElem hp) (List.getElem?_eq_getElem hq)

theorem forall_mem_iff_getElem? : (∀ r ∈ l, P r) ↔ ∀ (p : Nat) r, l[p]? = some r → P r := by
  simp only [List.mem_iff_getElem?, forall_exists_index]
  exact forall_comm

end

/-! ### The staged slots as a table (R58, R61) -/

/-- The slots are all filled exactly when they are a list of records, each in its slot. -/
theorem allFilled_eq_some_iff (slots : List (Option ProfileRecord)) (table : List ProfileRecord) :
    allFilled slots = some table ↔ slots = table.map some := by
  induction slots generalizing table with
  | nil => cases table <;> simp [allFilled]
  | cons slot rest ih =>
    cases slot with
    | none => cases table <;> simp [allFilled]
    | some r =>
      cases table with
      | nil => cases hrest : allFilled rest <;> simp [allFilled, hrest]
      | cons q rs =>
        rw [List.map_cons, List.cons.injEq, ← ih]
        cases hrest : allFilled rest <;> simp [allFilled, hrest]

/-- Up to 12 slots, the staged table holds the record of each slot below the staged length, and no more. -/
theorem stagedTable_eq_some_iff {x : StagedSet} (hx : x.tableLength ≤ 12) (table : List ProfileRecord) :
    stagedTable x = some table ↔
      table.length = x.tableLength ∧ ∀ p, p < x.tableLength → x.slots[p]? = some table[p]? := by
  have taken : (x.slots.toList.take x.tableLength).length = x.tableLength := by simp [hx]
  rw [stagedTable, allFilled_eq_some_iff]
  constructor
  · intro h
    have hlen : table.length = x.tableLength := by rw [← taken, h, List.length_map]
    refine ⟨hlen, fun p hp => ?_⟩
    have hslot := congrArg (·[p]?) h
    simpa [List.getElem?_take_of_lt hp, hlen, hp] using hslot
  · rintro ⟨hlen, hslots⟩
    refine List.ext_getElem? fun p => ?_
    by_cases hp : p < x.tableLength
    · have := hslots p hp
      simpa [List.getElem?_take_of_lt hp, hlen, hp] using this
    · rw [List.getElem?_eq_none (by omega), List.getElem?_eq_none (by rw [List.length_map]; omega)]

theorem stagedTableOk_iff (x : StagedSet) :
    stagedTableOk x = true ↔ ∃ table, stagedTable x = some table ∧ tableOk table = true := by
  unfold stagedTableOk
  cases stagedTable x <;> simp

/-! ### The checks of one record and of two -/

theorem hysteresisOk_iff (r : ProfileRecord) :
    hysteresisOk r = true ↔ ∃ d u, r.down = some d ∧ r.up = some u ∧ d + 4 ≤ u := by
  unfold hysteresisOk
  cases r.down <;> cases r.up <;> simp

theorem thresholdsRise_iff (lower upper : Option Nat) :
    thresholdsRise lower upper = true ↔ ∃ x y, lower = some x ∧ upper = some y ∧ x < y := by
  cases lower <;> cases upper <;> simp [thresholdsRise]

/-! ### The checks of a table -/

/-- The checks from P1 upward are three: of each record, and twice from each record to the next. -/
theorem upperRecordsOk_iff (records : List ProfileRecord) :
    upperRecordsOk records = true ↔
      records.IsChain (fun r q => r.capacity ≤ q.capacity) ∧ (∀ r ∈ records, hysteresisOk r = true) ∧
      records.IsChain (fun r q => thresholdsRise r.down q.down = true ∧ thresholdsRise r.up q.up = true) := by
  induction records with
  | nil => simp [upperRecordsOk]
  | cons r rest ih =>
    cases rest with
    | nil => simp [upperRecordsOk]
    | cons q rest =>
      rw [upperRecordsOk, Bool.and_eq_true, ih, List.forall_mem_cons (a := r), List.isChain_cons_cons,
        List.isChain_cons_cons]
      simp only [Bool.and_eq_true, decide_eq_true_eq]
      tauto

theorem modCodesDistinct_iff (records : List ProfileRecord) :
    modCodesDistinct records = true ↔ records.Pairwise (fun r q => r.modCode ≠ q.modCode) := by
  induction records with
  | nil => simp [modCodesDistinct]
  | cons r rest ih =>
    simp only [modCodesDistinct, Bool.and_eq_true, List.all_eq_true, decide_eq_true_eq, List.pairwise_cons, ih,
      ne_comm (b := r.modCode)]

/-- R58 on a table: the checks that reach P0 are those of the whole table, the others are those of its tail. -/
theorem tableOk_iff (table : List ProfileRecord) :
    tableOk table = true ↔ table.length = 0 ∨
      (2 ≤ table.length ∧ table.IsChain (fun r q => r.capacity ≤ q.capacity) ∧
        (∀ r ∈ table.tail, hysteresisOk r = true) ∧
        table.tail.IsChain (fun r q => thresholdsRise r.down q.down = true ∧ thresholdsRise r.up q.up = true) ∧
        (∀ r : ProfileRecord, table[0]? = some r → r.backoffFloor = 0) ∧
        table.Pairwise fun r q => r.modCode ≠ q.modCode) := by
  match table with
  | [] => simp [tableOk]
  | [_] => simp [tableOk]
  | p0 :: p1 :: rest =>
    have floor : (∀ r, (p0 :: p1 :: rest)[0]? = some r → r.backoffFloor = 0) ↔ p0.backoffFloor = 0 := by simp
    have long : 2 ≤ (p0 :: p1 :: rest).length := by simp
    have filled : (p0 :: p1 :: rest).length ≠ 0 := by simp
    rw [floor, tableOk, List.isChain_cons_cons, List.tail_cons]
    simp only [Bool.and_eq_true, decide_eq_true_eq, upperRecordsOk_iff, modCodesDistinct_iff]
    tauto

/-- R58 on a table, place by place. -/
theorem tableOk_iff_getElem? (table : List ProfileRecord) :
    tableOk table = true ↔ table.length = 0 ∨
      (2 ≤ table.length ∧
        (∀ (p : Nat) (r q : ProfileRecord), table[p]? = some r → table[p + 1]? = some q → r.capacity ≤ q.capacity) ∧
        (∀ (p : Nat) (r : ProfileRecord), table[p + 1]? = some r → ∃ d u, r.down = some d ∧ r.up = some u ∧ d + 4 ≤ u) ∧
        (∀ (p : Nat) (r q : ProfileRecord), table[p + 1]? = some r → table[p + 2]? = some q →
          (∃ d e, r.down = some d ∧ q.down = some e ∧ d < e) ∧ ∃ u v, r.up = some u ∧ q.up = some v ∧ u < v) ∧
        (∀ r : ProfileRecord, table[0]? = some r → r.backoffFloor = 0) ∧
        ∀ (p q : Nat) (r r' : ProfileRecord), p < q → table[p]? = some r → table[q]? = some r' →
          r.modCode ≠ r'.modCode) := by
  simp only [tableOk_iff, isChain_iff_getElem?, forall_mem_iff_getElem?, pairwise_iff_getElem?, List.getElem?_tail,
    hysteresisOk_iff, thresholdsRise_iff]

end Sys2Proof.Machine
end

section
/-! APPLY (R59, R182): what a message that does not reset is answered with, and the four outcomes of the checks. -/
namespace Sys2Proof.Machine

/-- R179: a message other than RESET, taken while answering, acts and is answered with its reply's payload. -/
theorem exec_messageCommand_of_answering {m : Message} (hm : m ≠ .reset) {s : State} (hs : Answering s) (tag : Byte)
    (payload : List Byte) :
    exec (messageCommand m tag payload) s =
      answered m.kind tag (messageAct m payload s).2 (messageAct m payload s).1 := by
  have noReset : resetsAfter m (messageAct m payload s).2 = false := by simp [resetsAfter, hm]
  rw [exec_messageCommand, takeMessage_of_answering m tag payload s hs, noReset, answered_eq_sendReply]

section
variable {s : State} (hs : Answering s) (tag : Byte)
include hs

theorem exec_apply_of_answering :
    exec (.apply tag []) s = answered 0x20 tag (applyMessage [] s).2 (applyMessage [] s).1 :=
  exec_messageCommand_of_answering (m := .apply) (by decide) hs tag []

theorem exec_apply_busy (hp : s.applyPending = true) : exec (.apply tag []) s = refusedWith .busy 0x20 tag s := by
  have refused : applyMessage [] s = refuse .busy s := if_pos hp
  rw [exec_apply_of_answering hs, refused, refuse, refusedWith]

theorem exec_apply_badTable (hp : s.applyPending = false) (ht : stagedTableOk s.staged = false) :
    exec (.apply tag []) s = refusedWith .badTable 0x20 tag s := by
  have refused : applyMessage [] s = refuse .badTable s := by simp [applyMessage, hp, ht]
  rw [exec_apply_of_answering hs, refused, refuse, refusedWith]

theorem exec_apply_badState (hp : s.applyPending = false) (ht : stagedTableOk s.staged = true)
    (hl : limitsOk s = false) : exec (.apply tag []) s = refusedWith .badState 0x20 tag s := by
  have refused : applyMessage [] s = refuse .badState s := by simp [applyMessage, hp, ht, hl]
  rw [exec_apply_of_answering hs, refused, refuse, refusedWith]

theorem exec_apply_ok (hp : s.applyPending = false) (ht : stagedTableOk s.staged = true) (hl : limitsOk s = true) :
    exec (.apply tag []) s = answered 0x20 tag [0] (s.setApplyPending true) := by
  have accepted : applyMessage [] s = accept (s.setApplyPending true) := by simp [applyMessage, hp, ht, hl]
  rw [exec_apply_of_answering hs, accepted, accept, Status.code]

end

/-- Settles O47: the staged set passes when it has a table that does, whose places are the staged slots. -/
theorem tableChecksOfApply : Obligations.TableChecksOfApply := by
  intro x hx
  refine ⟨?_, fun tag s hs hp hstaged hbad => exec_apply_badTable hs tag hp (hstaged ▸ hbad)⟩
  simp only [stagedTableOk_iff, stagedTable_eq_some_iff hx, tableOk_iff_getElem?]
  constructor
  · rintro ⟨table, ⟨hlen, hslots⟩, hempty | ⟨hlong, checks⟩⟩
    · exact .inl (hlen ▸ hempty)
    · exact .inr ⟨hlen ▸ hlong, table, hlen, hslots, checks⟩
  · rintro (hempty | ⟨hlong, table, hlen, hslots, checks⟩)
    · exact ⟨[], ⟨hempty.symm, fun p hp => by omega⟩, .inl rfl⟩
    · exact ⟨table, ⟨hlen, hslots⟩, .inr ⟨hlen ▸ hlong, checks⟩⟩

/-- R59: the limits that a carrier enabled in the staged set breaks. -/
theorem carrierLimitsOk_eq_false_iff (s : State) (c : Carrier) :
    carrierLimitsOk s c = false ↔ (s.staged.carriers.get c).enable = true ∧
      (s.staged.tableLength < 2 ∨ s.staged.tableLength ≤ (s.staged.carriers.get c).rxCeiling ∨
        s.staged.tableLength ≤ (s.staged.carriers.get c).txCeiling ∨
        (s.enabled c = true ∧
          (s.staged.tableLength ≤ (s.rau.get c).active ∨ s.staged.tableLength ≤ s.lane.txBound c))) := by
  simp only [carrierLimitsOk, Bool.or_eq_false_iff, Bool.and_eq_false_iff, Bool.not_eq_false', decide_eq_false_iff_not,
    not_le, not_lt, or_assoc]

theorem limitsOk_eq_false_iff (s : State) : limitsOk s = false ↔ ∃ c, carrierLimitsOk s c = false := by
  simp [limitsOk, Carrier.mem_all]

/-- Settles O48: the four outcomes of the checks, with the limits of R59 carrier by carrier. -/
theorem applyIsCheckedInOrder : Obligations.ApplyIsCheckedInOrder := by
  intro tag s hs limitBroken
  have broken_iff : limitBroken ↔ limitsOk s = false := by
    rw [limitsOk_eq_false_iff]
    exact exists_congr fun c => (carrierLimitsOk_eq_false_iff s c).symm
  rw [broken_iff, Bool.not_eq_false]
  exact ⟨exec_apply_busy hs tag, exec_apply_badTable hs tag, exec_apply_badState hs tag, exec_apply_ok hs tag⟩

end Sys2Proof.Machine
end

section
/-! What a step can do, said once: every command is a chain of a few operations over the state, each on its occasion
(`Effect`), and so is the work of one FRAME_START (`Piece`). A predicate that each of them keeps is kept by every step. -/
namespace Sys2Proof.Machine

/-- What an accepted staging message leaves for the staged set (R55 to R57, R153, R181): one record, in range, replaced;
while an APPLY is pending none that the checks at APPLY read. -/
inductive StagedWrite (pending : Bool) (x : StagedSet) : StagedSet → Prop
  | link (payload : List Byte) (l : LinkParams) (h : readLink payload = some l) :
      StagedWrite pending x { x with link := l }
  | carrier (payload : List Byte) (c : Carrier) (p : CarrierParams) (h : readCarrierParams payload = some p)
      (hlimits : pending = true → changesLimits (x.carriers.get c) p = false) :
      StagedWrite pending x { x with carriers := x.carriers.set c p }
  | profile (slot : Nat) (payload : List Byte) (r : ProfileRecord) (h : readProfile slot payload = some r)
      (hp : pending = false) : StagedWrite pending x { x with slots := x.slots.setIfInBounds slot (some r) }
  | length (n : Nat) (h : n ≤ 12) (hp : pending = false) : StagedWrite pending x { x with tableLength := n }
  | cls (payload : List Byte) (k : Cls) (r : ClassRecord) (h : readClass payload = some r) :
      StagedWrite pending x { x with classes := x.classes.set k r }

/-- One operation of a command on the state, with the occasion it has there. -/
inductive Effect (i : Instr) (s : State) : State → Prop
  | port (p : Port) (h : p.link = s.port.link) : Effect i s (s.setPort p)
  | intake (x : Four IntakeCarrier) : Effect i s (s.setIntake x)
  | events (x : EventTable) (h : EventTableSound s.events → EventTableSound x) : Effect i s (s.setEvents x)
  | hml (x : HostLink) : Effect i s (s.setHml x)
  | freeCount (n : Nat) : Effect i s (s.setFreeCount n)
  | report (c : Carrier) (a b : Option BranchPart) (errors : Nat) (hlink : s.port.link = .running) :
      Effect i s (takeReport c a b errors s)
  | field (c : Carrier) (f : Option RawField) (hlink : s.port.link = .running) (hc : s.enabled c = true) :
      Effect i s (handField c f s)
  | frameStart (n : FrameNo) (order : FrameOrder) : Effect i s (takeFrameStart n order s)
  | graceExpiry (c : Carrier) : Effect i s (expireGrace c s)
  | window (c : Carrier) (h : inService s c = true) :
      Effect i s (storeRau c (guardTick (rxEnv s c) (s.rau.get c), []) s)
  | rxSwitch (c : Carrier) (h : inService s c = true) (hdue : switchDue (s.rau.get c) = true) :
      Effect i s (storeRau c (armedTick (rxEnv s c) (s.rau.get c)) s)
  | timeout (c : Carrier) (h : inService s c = true) :
      Effect i s (storeRau c (timerTick (rxEnv s c) (s.rau.get c)) s)
  | announcementSwitch (hi : i = .announcementSwitch) (hlink : s.port.link = .running)
      (hdue : announcementDue s.lane = true) : Effect i s (laneStep1 s)
  | powerShadow (c : Carrier) : Effect i s (loadPowerShadow c s)
  | mapShadow (hi : i = .mapShadowLoad) (hlink : s.port.link = .running) : Effect i s (mapperWork s)
  | commit (n : FrameNo) (hlink : s.port.link = .running) (hp : s.applyPending = true) (hidle : s.lane.isIdle = true) :
      Effect i s (deliver n (startWatch (computeAtten (.fill none) (commitWork n s))))
  | frameLoss (hlink : s.port.link = .running) : Effect i s (takeFrameLoss s)
  | faultLevel (v : Bool) : Effect i s (takeFaultLevel v s)
  | powerOn (straps : BitVec 2) (fault : Bool) : Effect i s (powerOn straps fault s)
  | reset : Effect i s (resetBlocks s)
  | staged (x : StagedSet) (h : StagedWrite s.applyPending s.staged x) : Effect i s (s.setStaged x)
  | applied (ht : stagedTableOk s.staged = true) (hl : limitsOk s = true) : Effect i s (s.setApplyPending true)
  | hostPause (c : Carrier) (v : Bool) : Effect i s (setHostPause c v s)
  | txHold (c : Carrier) (v : Bool) : Effect i s (setTxHoldFlag c v s)
  | combine (c : Carrier) (m : CombiningMode) : Effect i s (setCombineMode c m s)
  | abort (h : s.fault.state = .running) : Effect i s (linkAbort .host s)
  | resume (h : s.fault.state = .aborted) : Effect i s (linkResume s)

/-- A command as a chain of operations. -/
abbrev Effects (i : Instr) : State → State → Prop := Relation.ReflTransGen (Effect i)

/-! ### The Event Latch Table under good reports -/

/-- A report that the table can hold (R184): an index of its kind, and an edge exactly for a condition kind. -/
def Report.Good (r : Report) : Prop := r.index < r.kind.indices ∧ r.edge.isSome = r.kind.isCondition

theorem EventEntry.precedes_trans {x y z : EventEntry} (hxy : x.precedes y = true) (hyz : y.precedes z = true) :
    x.precedes z = true := by
  simp only [EventEntry.precedes, Bool.or_eq_true, Bool.and_eq_true, decide_eq_true_eq] at hxy hyz ⊢
  omega

/-- Two entries of different pairs stand in one order or the other: a code names its kind. -/
theorem EventEntry.precedes_total {x y : EventEntry} (hne : ¬ (y.kind = x.kind ∧ y.index = x.index))
    (h : x.precedes y = false) : y.precedes x = true := by
  have hcode : x.kind.code = y.kind.code → x.kind = y.kind := by
    cases x.kind <;> cases y.kind <;> decide
  simp only [EventEntry.precedes, Bool.or_eq_true, Bool.or_eq_false_iff, Bool.and_eq_true, Bool.and_eq_false_imp,
    decide_eq_true_eq, decide_eq_false_iff_not] at h ⊢
  obtain ⟨hlt, heq⟩ := h
  by_cases hc : x.kind.code = y.kind.code
  · have hi := heq hc
    have : y.index ≠ x.index := fun hi' => hne ⟨(hcode hc).symm, hi'⟩
    exact .inr ⟨hc.symm, by omega⟩
  · exact .inl (by omega)

theorem pairwise_insertEntry {x : EventEntry} {l : List EventEntry}
    (hl : l.Pairwise fun a b => a.precedes b = true) (hx : ∀ y ∈ l, ¬ (y.kind = x.kind ∧ y.index = x.index)) :
    (insertEntry x l).Pairwise fun a b => a.precedes b = true := by
  induction l with
  | nil => simp [insertEntry]
  | cons y ys ih =>
    obtain ⟨hy, hys⟩ := List.pairwise_cons.1 hl
    unfold insertEntry
    split
    · next h =>
      refine List.pairwise_cons.2 ⟨fun z hz => ?_, hl⟩
      rcases List.mem_cons.1 hz with rfl | hz
      · exact h
      · exact EventEntry.precedes_trans h (hy z hz)
    · next h =>
      refine List.pairwise_cons.2 ⟨fun z hz => ?_, ih hys fun z hz => hx z (List.mem_cons_of_mem _ hz)⟩
      rcases (mem_insertEntry x z ys).1 hz with rfl | hz
      · exact EventEntry.precedes_total (hx y (List.mem_cons_self ..)) (by simpa using h)
      · exact hy z hz

theorem eventTableSound_latch (frame : Option FrameNo) {t : EventTable} {r : Report} (ht : EventTableSound t)
    (hr : r.Good) : EventTableSound (latch frame t r) := by
  obtain ⟨hsorted, hentries⟩ := ht
  rcases latch_cases frame t r with ⟨e, -⟩ | ⟨hon, -, hnew, e⟩
  · rw [e]; exact ⟨hsorted, hentries⟩
  · rw [e]
    refine ⟨pairwise_insertEntry hsorted fun y hy hpair => ?_, fun x hx => ?_⟩
    · have : t.latched r.kind r.index = true := List.any_eq_true.2 ⟨y, hy, by simpa using hpair⟩
      rw [hnew] at this; exact absurd this (by decide)
    · rcases (mem_insertEntry _ x _).1 hx with rfl | hx
      · exact ⟨hon, hr⟩
      · exact hentries x hx

theorem eventTableSound_latchAll (frame : Option FrameNo) {t : EventTable} {rs : List Report} (ht : EventTableSound t)
    (hr : ∀ r ∈ rs, r.Good) : EventTableSound (latchAll frame t rs) := by
  unfold latchAll
  induction rs generalizing t with
  | nil => exact ht
  | cons r rs ih =>
    exact ih (eventTableSound_latch frame ht (hr r (List.mem_cons_self ..))) fun q hq =>
      hr q (List.mem_cons_of_mem _ hq)

/-- An entry list filtered, kinds only turned off with none of their entries left, keeps the form. -/
theorem eventTableSound_filter {t u : EventTable} (p : EventEntry → Bool) (ht : EventTableSound t)
    (hu : u.entries = t.entries.filter p) (hmode : ∀ x ∈ u.entries, (u.mode x.kind).on = true) :
    EventTableSound u := by
  refine ⟨hu ▸ ht.1.filter p, fun x hx => ⟨hmode x hx, ?_⟩⟩
  rw [hu] at hx
  exact (ht.2 x (List.mem_of_mem_filter hx)).2

theorem EventTable.mode_set (t : EventTable) (k j : EventKind) (mode : KindMode) (entries : List EventEntry) :
    ({ modes := t.modes.set k.code mode, entries := entries } : EventTable).mode j = if j = k then mode else t.mode j := by
  have hcode : k.code.val = j.code.val ↔ j = k := by cases k <;> cases j <;> decide
  simp [EventTable.mode, Vector.getElem_set, hcode]

theorem eventTableSound_setKindMode (k : EventKind) (mode : KindMode) {t : EventTable} (ht : EventTableSound t) :
    EventTableSound (setKindMode k mode t) := by
  cases hon : mode.on with
  | true =>
    refine eventTableSound_filter (fun _ => true) ht (by simp [setKindMode, hon]) fun x hx => ?_
    have hx' : x ∈ t.entries := by simpa [setKindMode, hon] using hx
    rw [setKindMode, EventTable.mode_set]
    split
    · exact hon
    · exact (ht.2 x hx').1
  | false =>
    refine eventTableSound_filter (fun x => x.kind ≠ k) ht (by simp [setKindMode, hon]) fun x hx => ?_
    obtain ⟨hx', hne⟩ : x ∈ t.entries ∧ x.kind ≠ k := by simpa [setKindMode, hon] using hx
    rw [setKindMode, EventTable.mode_set, if_neg hne]
    exact (ht.2 x hx').1

theorem Effects.report_good {i : Instr} (s : State) {rs : List Report} (hr : ∀ r ∈ rs, r.Good) :
    Effects i s (s.report rs) :=
  .single (.events _ fun h => eventTableSound_latchAll _ h hr)

/-! ### Messages -/

section
variable {i : Instr} (payload : List Byte) (s : State)

theorem effects_readRecord (record : Nat → Nat → Option (List Byte)) :
    Effects i s (readRecord record payload s).1 := by
  unfold readRecord
  split
  · split <;> exact .refl
  · exact .refl

theorem effects_readOnly (reply : List Byte) : Effects i s (readOnly payload reply s).1 := by
  unfold readOnly
  split <;> exact .refl

theorem effects_readCarrierMessage : Effects i s (readCarrierMessage payload s).1 := by
  unfold readCarrierMessage
  split
  · split
    · exact .single (.freeCount _)
    · exact .refl
  · exact .refl

theorem effects_readEventsMessage : Effects i s (readEventsMessage payload s).1 := by
  unfold readEventsMessage
  split
  · exact .single (.freeCount _)
  · exact .refl

theorem effects_readMapMessage : Effects i s (readMapMessage payload s).1 := by
  unfold readMapMessage
  split
  · (repeat' split) <;> exact .refl
  · exact .refl

theorem effects_stageLinkMessage : Effects i s (stageLinkMessage payload s).1 := by
  unfold stageLinkMessage
  split
  · exact .refl
  · split
    · next l h => exact .single (.staged _ (.link payload l h))
    · exact .refl

theorem effects_stageCarrierMessage : Effects i s (stageCarrierMessage payload s).1 := by
  unfold stageCarrierMessage
  split
  · exact .refl
  · split
    · next c p _ h =>
      split
      · exact .refl
      · next hbusy => exact .single (.staged _ (.carrier _ c p h fun hp => by simpa [hp] using hbusy))
    · exact .refl

theorem effects_stageProfileMessage : Effects i s (stageProfileMessage payload s).1 := by
  unfold stageProfileMessage
  split
  · exact .refl
  · split
    · next r h =>
      split
      · exact .refl
      · next hp => exact .single (.staged _ (.profile _ _ r h (by simpa using hp)))
    · exact .refl

theorem effects_stageTableLengthMessage : Effects i s (stageTableLengthMessage payload s).1 := by
  unfold stageTableLengthMessage
  split
  · split
    · exact .refl
    · next hlen =>
      split
      · exact .refl
      · next hp => exact .single (.staged _ (.length _ (by omega) (by simpa using hp)))
  · exact .refl

theorem effects_stageClassMessage : Effects i s (stageClassMessage payload s).1 := by
  unfold stageClassMessage
  split
  · exact .refl
  · split
    · next k r _ h => exact .single (.staged _ (.cls _ k r h))
    · exact .refl

theorem effects_applyMessage : Effects i s (applyMessage payload s).1 := by
  unfold applyMessage
  split
  · split
    · exact .refl
    · split
      · exact .refl
      · next ht =>
        split
        · exact .refl
        · next hl => exact .single (.applied (by simpa using ht) (by simpa using hl))
  · exact .refl

theorem effects_carrierFlagMessage {act : Carrier → Bool → State → State}
    (h : ∀ c v, Effects i s (act c v s)) : Effects i s (carrierFlagMessage act payload s).1 := by
  unfold carrierFlagMessage
  split
  · split
    · split
      · exact h _ _
      · exact .refl
    · exact .refl
  · exact .refl

theorem effects_setCombineMessage : Effects i s (setCombineMessage payload s).1 := by
  unfold setCombineMessage
  split
  · split
    · exact .single (.combine _ _)
    · exact .refl
  · exact .refl

theorem effects_abortMessage : Effects i s (abortMessage payload s).1 := by
  unfold abortMessage
  split
  · unfold accept
    dsimp only
    split
    · next h => exact .single (.abort h)
    · exact .refl
  · exact .refl

theorem effects_resumeMessage : Effects i s (resumeMessage payload s).1 := by
  unfold resumeMessage
  split
  · split
    · exact .refl
    · next h =>
      have hrun : s.fault.state ≠ .running := by
        intro hrun; simp [hrun] at h
      exact .single (.resume (by cases hs : s.fault.state <;> simp_all))
  · exact .refl

theorem effects_clearEventsMessage : Effects i s (clearEventsMessage payload s).1 := by
  unfold clearEventsMessage
  split
  · exact .refl
  · split
    · exact .refl
    · exact .single (.events _ fun h => eventTableSound_filter (fun _ => false) h (by simp) (by simp))
    · exact .single (.events _ fun h => eventTableSound_filter _ h rfl fun x hx => (h.2 x (List.mem_of_mem_filter hx)).1)

theorem effects_setEventModeMessage : Effects i s (setEventModeMessage payload s).1 := by
  unfold setEventModeMessage
  split
  · split
    · exact .refl
    · split
      · exact .refl
      · split
        · split
          · exact .refl
          · exact .single (.events _ (eventTableSound_setKindMode _ _))
        · exact .single (.events _ (eventTableSound_setKindMode _ _))
  · exact .refl

theorem effects_resetMessage : Effects i s (resetMessage payload s).1 := by
  unfold resetMessage
  split <;> exact .refl

theorem effects_messageAct (m : Message) : Effects i s (messageAct m payload s).1 := by
  cases m with
  | identify => exact effects_readOnly payload s _
  | stageLink => exact effects_stageLinkMessage payload s
  | stageCarrier => exact effects_stageCarrierMessage payload s
  | stageProfile => exact effects_stageProfileMessage payload s
  | stageTableLength => exact effects_stageTableLengthMessage payload s
  | stageClass => exact effects_stageClassMessage payload s
  | apply => exact effects_applyMessage payload s
  | readStaged => exact effects_readRecord payload s _
  | readWorking => exact effects_readRecord payload s _
  | readCarrier => exact effects_readCarrierMessage payload s
  | readBranches => exact effects_readOnly payload s _
  | readLane => exact effects_readOnly payload s _
  | readMap => exact effects_readMapMessage payload s
  | setPause => exact effects_carrierFlagMessage payload s fun c v => .single (.hostPause c v)
  | setCombine => exact effects_setCombineMessage payload s
  | setTxHold => exact effects_carrierFlagMessage payload s fun c v => .single (.txHold c v)
  | abort => exact effects_abortMessage payload s
  | resume => exact effects_resumeMessage payload s
  | readEvents => exact effects_readEventsMessage payload s
  | clearEvents => exact effects_clearEventsMessage payload s
  | setEventMode => exact effects_setEventModeMessage payload s
  | reset => exact effects_resetMessage payload s

/-! ### The host line -/

theorem HmlCause.report_good (cause : HmlCause) : ∀ r ∈ [occurrence .hmlError cause.index], r.Good := by
  cases cause <;> simp [occurrence, Report.Good, HmlCause.index, EventKind.indices] <;> decide

theorem effects_hmlError (cause : HmlCause) : Effects i s (hmlError cause s) := Effects.report_good s cause.report_good

theorem effects_setReceiver (r : Receiver) : Effects i s (setReceiver r s) := .single (.hml _)

theorem effects_rejectFrame (cause : HmlCause) : Effects i s (rejectFrame cause s) :=
  (effects_setReceiver s _).trans (effects_hmlError _ cause)

theorem effects_takeGoodFrame (kind tag : Byte) {act : State → State × List Byte} (resets : List Byte → Bool)
    (h : Effects i s (act s).1) : Effects i s (takeGoodFrame kind tag act resets s) := by
  rcases takeGoodFrame_cases kind tag act resets s with ⟨-, e⟩ | ⟨-, -, e⟩ | ⟨-, e⟩
  · rw [e]
  · rw [e]; exact effects_hmlError s _
  · rw [e]; exact h.tail (.hml _)

theorem effects_takeMessage (m : Message) (tag : Byte) : Effects i s (takeMessage m tag payload s) :=
  effects_takeGoodFrame s _ _ _ (effects_messageAct payload s m)

theorem effects_takeFrame (kind tag : Byte) : Effects i s (takeFrame kind tag payload s) := by
  unfold takeFrame
  split
  · exact effects_takeMessage payload s _ tag
  · exact effects_takeGoodFrame s _ _ _ .refl

theorem effects_completeFrame (bytes : List Byte) : Effects i s (completeFrame bytes s) := by
  unfold completeFrame
  split
  · dsimp only
    split
    · exact effects_rejectFrame s _
    · split
      · exact (effects_setReceiver s _).trans (effects_takeFrame _ _ _ _)
      · exact effects_rejectFrame s _
  · exact effects_setReceiver s _

theorem effects_storeByte (bytes : List Byte) (b : Byte) : Effects i s (storeByte bytes b s) := by
  unfold storeByte
  split
  · split
    · exact effects_setReceiver s _
    · exact effects_rejectFrame s _
  · split
    · exact effects_completeFrame s _
    · exact effects_setReceiver s _

theorem effects_takeByte (b : Byte) (stopHigh : Bool) : Effects i s (takeByte b stopHigh s) := by
  unfold takeByte
  split
  · exact .refl
  · split
    · split
      · exact effects_setReceiver s _
      · exact .refl
    · split
      · exact effects_storeByte s _ b
      · exact effects_rejectFrame s _

theorem effects_receiveTimeout : Effects i s (receiveTimeout s) := by
  unfold receiveTimeout
  split
  · exact .refl
  · exact effects_rejectFrame s _

theorem effects_takeRejected (reason : RejectReason) : Effects i s (takeRejected reason s) := by
  unfold takeRejected
  split
  · exact .refl
  · split <;> first | exact effects_rejectFrame s _ | exact .refl

theorem effects_takeReplySent : Effects i s (takeReplySent s) := by
  unfold takeReplySent
  split
  · exact .refl
  · dsimp only
    split
    · exact .tail (.single (.hml _)) .reset
    · exact .single (.hml _)

end

/-! ### The commands -/

theorem State.link_of_frameRunning {s : State} (h : s.frameRunning = true) : s.port.link = .running :=
  (s.frameRunning_iff.1 h).1

theorem link_of_inService {s : State} {c : Carrier} (h : inService s c = true) : s.port.link = .running := by
  simp only [inService, Bool.and_eq_true] at h
  exact State.link_of_frameRunning h.1

theorem effects_onOccasion {i : Instr} {due : Bool} {f : State → State} {s : State}
    (h : due = true → Effects i s (f s)) : Effects i s (onOccasion due f s) := by
  unfold onOccasion
  split
  · next hdue => exact h hdue
  · exact .refl

theorem staleReport_good (c : Carrier) : ∀ r ∈ [occurrence .staleReport c.toNat], r.Good := by
  cases c <;> simp [occurrence, Report.Good, EventKind.indices, Carrier.toNat] <;> decide

theorem effects_takeCarrierReport {i : Instr} (c : Carrier) (f : FrameNo) (a b : Option BranchPart) (errors : Nat)
    (s : State) : Effects i s (takeCarrierReport c f a b errors s) := by
  unfold takeCarrierReport
  split
  · exact .refl
  · next hrun =>
    have hlink : s.port.link = .running := by
      simp only [Bool.or_eq_true, not_or, Bool.not_eq_true', Bool.not_eq_false] at hrun
      exact State.link_of_frameRunning hrun.1
    split
    · exact Effects.report_good s (staleReport_good c)
    · have hstore : Effects i s (storeReport c f a b s) := .tail (.single (.intake _)) (.port _ rfl)
      exact hstore.tail (.report c a b errors hlink)

theorem effects_takeFieldIn {i : Instr} (c : Carrier) (f : Option RawField) (s : State) :
    Effects i s (takeFieldIn c f s) := by
  unfold takeFieldIn
  split
  · exact .refl
  · next hrun =>
    simp only [Bool.or_eq_true, not_or, Bool.not_eq_true', Bool.not_eq_false] at hrun
    obtain ⟨⟨hrun, hc⟩, -⟩ := hrun
    have htake : Effects i s (s.setPortCarriers
        (s.port.carriers.set c { s.port.carriers.get c with fieldTaken := true })) := .single (.port _ rfl)
    exact htake.tail (.field c f (State.link_of_frameRunning hrun) hc)

/-- Every command answers a next state, to which a chain of operations leads. -/
theorem exec_effects (i : Instr) (s : State) : ∃ t, exec i s = .next t ∧ Effects i s t := by
  cases i with
  | frameStart n order => exact ⟨_, rfl, .single (.frameStart n order)⟩
  | blindReport c =>
    refine ⟨_, rfl, effects_onOccasion fun h => .single (.report c none none 0 ?_)⟩
    simp only [Bool.and_eq_true] at h
    exact State.link_of_frameRunning h.1.1
  | graceExpiry c => exact ⟨_, rfl, effects_onOccasion fun _ => .single (.graceExpiry c)⟩
  | pingpongWindowExpiry c =>
    refine ⟨_, rfl, effects_onOccasion fun h => .single (.window c ?_)⟩
    simp only [Bool.and_eq_true] at h
    exact h.1
  | rxSwitch c =>
    refine ⟨_, rfl, effects_onOccasion fun h => ?_⟩
    simp only [Bool.and_eq_true] at h
    exact .single (.rxSwitch c h.1 h.2)
  | requestTimeout c =>
    refine ⟨_, rfl, effects_onOccasion fun h => .single (.timeout c ?_)⟩
    simp only [Bool.and_eq_true] at h
    exact h.1
  | announcementSwitch =>
    refine ⟨_, rfl, effects_onOccasion fun h => ?_⟩
    simp only [Bool.and_eq_true] at h
    exact .single (.announcementSwitch rfl (State.link_of_frameRunning h.1) h.2)
  | pcuShadowLoad c => exact ⟨_, rfl, effects_onOccasion fun _ => .single (.powerShadow c)⟩
  | mapShadowLoad =>
    refine ⟨_, rfl, effects_onOccasion fun h => .single (.mapShadow rfl ?_)⟩
    simp only [Bool.and_eq_true] at h
    exact State.link_of_frameRunning h.1
  | commit =>
    refine ⟨_, rfl, effects_onOccasion fun h => ?_⟩
    simp only [Bool.and_eq_true] at h
    obtain ⟨⟨hrun, hp⟩, hidle⟩ := h
    obtain ⟨hlink, n, hn⟩ := s.frameRunning_iff.1 hrun
    rw [commitStep, hn]
    exact .single (.commit n hlink hp hidle)
  | frameLoss =>
    refine ⟨_, rfl, ?_⟩
    split
    · next h =>
      simp only [Bool.and_eq_true, decide_eq_true_eq] at h
      exact .single (.frameLoss h.1)
    · exact .refl
  | carrierReport c f a b errors => exact ⟨_, rfl, effects_takeCarrierReport c f a b _ s⟩
  | fieldIn c f => exact ⟨_, rfl, effects_takeFieldIn c f s⟩
  | faultInputChange v => exact ⟨_, rfl, .single (.faultLevel v)⟩
  | powerOnReset straps fault => exact ⟨_, rfl, .single (.powerOn straps fault)⟩
  | hmlReceiveTimeout => exact ⟨_, rfl, effects_receiveTimeout s⟩
  | lineClear => exact ⟨_, rfl, .trans (.single (.hml _)) (effects_hmlError _ _)⟩
  | hmlFrameRejected reason => exact ⟨_, rfl, effects_takeRejected s reason⟩
  | replySent => exact ⟨_, rfl, effects_takeReplySent s⟩
  | badKindMessage kind tag payload => exact ⟨_, rfl, effects_takeFrame payload s kind tag⟩
  | hmlByte b stopHigh => exact ⟨_, rfl, effects_takeByte s b stopHigh⟩
  | lineReturnsHigh => exact ⟨_, rfl, .single (.hml _)⟩
  | identify tag payload => exact ⟨_, rfl, effects_takeMessage payload s _ tag⟩
  | readStaged tag payload => exact ⟨_, rfl, effects_takeMessage payload s _ tag⟩
  | readWorking tag payload => exact ⟨_, rfl, effects_takeMessage payload s _ tag⟩
  | stageLink tag payload => exact ⟨_, rfl, effects_takeMessage payload s _ tag⟩
  | stageCarrier tag payload => exact ⟨_, rfl, effects_takeMessage payload s _ tag⟩
  | stageProfile tag payload => exact ⟨_, rfl, effects_takeMessage payload s _ tag⟩
  | stageTableLength tag payload => exact ⟨_, rfl, effects_takeMessage payload s _ tag⟩
  | stageClass tag payload => exact ⟨_, rfl, effects_takeMessage payload s _ tag⟩
  | apply tag payload => exact ⟨_, rfl, effects_takeMessage payload s _ tag⟩
  | readCarrier tag payload => exact ⟨_, rfl, effects_takeMessage payload s _ tag⟩
  | readBranches tag payload => exact ⟨_, rfl, effects_takeMessage payload s _ tag⟩
  | readLane tag payload => exact ⟨_, rfl, effects_takeMessage payload s _ tag⟩
  | readMap tag payload => exact ⟨_, rfl, effects_takeMessage payload s _ tag⟩
  | setPause tag payload => exact ⟨_, rfl, effects_takeMessage payload s _ tag⟩
  | setCombine tag payload => exact ⟨_, rfl, effects_takeMessage payload s _ tag⟩
  | setTxHold tag payload => exact ⟨_, rfl, effects_takeMessage payload s _ tag⟩
  | abort tag payload => exact ⟨_, rfl, effects_takeMessage payload s _ tag⟩
  | resume tag payload => exact ⟨_, rfl, effects_takeMessage payload s _ tag⟩
  | readEvents tag payload => exact ⟨_, rfl, effects_takeMessage payload s _ tag⟩
  | clearEvents tag payload => exact ⟨_, rfl, effects_takeMessage payload s _ tag⟩
  | setEventMode tag payload => exact ⟨_, rfl, effects_takeMessage payload s _ tag⟩
  | reset tag payload => exact ⟨_, rfl, effects_takeMessage payload s _ tag⟩

/-- A step idles, or runs the command at the front on the queue's rest. -/
theorem step_cases {s t : State} (h : step s = .next t) :
    t = s ∨ ∃ i rest, s.pending = i :: rest ∧ exec i (s.setPending rest) = .next t := by
  unfold step at h
  split at h
  · cases h; exact .inl rfl
  · next i rest hq => exact .inr ⟨i, rest, hq, h⟩

/-- A predicate that every operation of the command at the front keeps is kept by a step. -/
theorem step_keeps {P : State → Prop} {s t : State} (hq : ∀ rest, P s → P (s.setPending rest))
    (hkeep : ∀ i u v, s.pending.head? = some i → Effect i u v → P u → P v) (hs : P s) (h : step s = .next t) : P t := by
  rcases step_cases h with rfl | ⟨i, rest, hi, he⟩
  · exact hs
  · obtain ⟨u, hu, heff⟩ := exec_effects i (s.setPending rest)
    obtain rfl : u = t := Host.Outcome.next.inj (hu.symm.trans he)
    have hhead : s.pending.head? = some i := by rw [hi, List.head?_cons]
    exact heff.head_induction_on (motive := fun v _ => P v → P u) id
      (fun hvw _ ih hv => ih (hkeep i _ _ hhead hvw hv)) (hq rest hs)

end Sys2Proof.Machine
end

section
/-! The work of one FRAME_START as a chain of operations (`Piece`), the restoration in one. -/
namespace Sys2Proof.Machine

/-- The state in which the restoring FRAME_START leaves the port and the intake, before the blocks' work (R7). -/
def restoredPort (n : FrameNo) (s : State) : State :=
  let s1 := (s.setPort { s.port with link := .running }).report
    [{ kind := .frameLost, index := 0, edge := some .leave }]
  (s1.setPort (uncountedPort n s1.port)).setIntake (.fill .initial)

/-- The restoration of the blocks at P0, with the counts of the grace, of the mapper and of the power control before
it. -/
def restored (n : FrameNo) (s : State) : State :=
  restoreBlocks n s (powerWork (mapperWork (graceWork (restoredPort n s))))

/-- One operation of a FRAME_START's work, with the occasion it has there. -/
inductive Piece (s : State) : State → Prop
  | port (p : Port) (h : p.link = s.port.link) : Piece s (s.setPort p)
  | events (x : EventTable) (h : EventTableSound s.events → EventTableSound x) : Piece s (s.setEvents x)
  | report (c : Carrier) (hlink : s.port.link = .running) : Piece s (takeBlind c s)
  | notice (c : Carrier) (hlink : s.port.link = .running) : Piece s (handField c none s)
  | grace : Piece s (graceWork s)
  | mapper (hlink : s.port.link = .running) : Piece s (mapperWork s)
  | power : Piece s (powerWork s)
  | rau (hlink : s.port.link = .running) : Piece s (rauWork s)
  | laneStep1 (hlink : s.port.link = .running) : Piece s (laneStep1 s)
  | commit (n : FrameNo) (hlink : s.port.link = .running) (hp : s.applyPending = true)
      (hidle : s.lane.isIdle = true) : Piece s (commitWork n s)
  | laneStep3 (n : FrameNo) (hlink : s.port.link = .running) (hp : s.applyPending = false)
      (hidle : s.lane.isIdle = true) : Piece s (laneStep3 n s)
  | laneStep4 (n : FrameNo) (hlink : s.port.link = .running) (hw : withdrawable s.lane = true) :
      Piece s (laneStep4 n s)
  | scan (n : FrameNo) (pass : Carrier → Bool) : Piece s (scanWork n pass s)
  | atten (loaded : Four (Option Nat)) : Piece s (computeAtten loaded s)
  | restored (n : FrameNo) (hlost : s.port.link = .frameLost) : Piece s (restored n s)

/-- A FRAME_START as a chain of operations. -/
abbrev Pieces : State → State → Prop := Relation.ReflTransGen Piece

@[simp] theorem commitWork_link (n : FrameNo) (s : State) : (commitWork n s).port.link = s.port.link := by
  simp [commitWork, commitFarFault, commitPort, State.setPortCarriers, commitMapper, commitPower, commitSig,
    commitIntake, commitEst, commitRau, commitLane, commitConfiguration]

theorem Piece.running {s t : State} (h : Piece s t) (hs : s.port.link = .running) : t.port.link = .running := by
  cases h with
  | port p h => exact h.trans hs
  | events x h => exact hs
  | report c => exact (congrArg Port.link (takeReport_port ..)).trans hs
  | notice c => exact (congrArg Port.link (handField_port ..)).trans hs
  | grace => exact hs
  | mapper => exact hs
  | power => exact hs
  | rau => exact hs
  | laneStep1 => exact hs
  | commit n => rw [commitWork_link]; exact hs
  | laneStep3 n => rw [laneStep3_port]; exact hs
  | laneStep4 n => rw [laneStep4_port]; exact hs
  | scan n pass => exact hs
  | atten loaded => exact hs
  | restored n hlost => rw [hs] at hlost; cases hlost

theorem Pieces.running {s t : State} (h : Pieces s t) (hs : s.port.link = .running) : t.port.link = .running := by
  induction h with
  | refl => exact hs
  | tail _ hbc ih => exact hbc.running ih

/-! ### The chain -/

theorem piece_startWatch (s : State) : Piece s (startWatch s) := .port _ rfl

theorem piece_deliver (n : FrameNo) (s : State) : Piece s (deliver n s) := .port _ rfl

/-- Adopts the frame number's part of an ordinary frame start as operations on the table and the port. -/
theorem pieces_adoptFrame (n cur : FrameNo) (s : State) : Pieces s (adoptFrame n cur s) := by
  have hgood : ∀ r ∈ [occurrence .frameSlip 0], r.Good := by
    simp [occurrence, Report.Good, EventKind.indices]; decide
  unfold adoptFrame
  split
  · exact .single (.port _ rfl)
  · refine .tail (.single (.events _ fun h => eventTableSound_latchAll s.port.current h hgood)) (.port _ rfl)

theorem pieces_foldl {g : State → Carrier → State} (hg : ∀ t c, t.port.link = .running → Pieces t (g t c))
    (l : List Carrier) (s : State) (hs : s.port.link = .running) : Pieces s (l.foldl g s) := by
  induction l generalizing s with
  | nil => exact .refl
  | cons c l ih =>
    have h1 := hg s c hs
    exact .trans h1 (ih _ (Pieces.running h1 hs))

theorem pieces_takeBlinds (counted : Four Bool) (s : State) (hs : s.port.link = .running) :
    Pieces s (takeBlinds counted s) := by
  refine pieces_foldl (fun t c ht => ?_) _ s hs
  split
  · exact .single (.report c ht)
  · exact .refl

theorem pieces_takeNotices (missing : Four Bool) (s : State) (hs : s.port.link = .running) :
    Pieces s (takeNotices missing s) := by
  refine pieces_foldl (fun t c ht => ?_) _ s hs
  split
  · exact .single (.notice c ht)
  · exact .refl

theorem pieces_laneWork (n : FrameNo) (s : State) (hs : s.port.link = .running) : Pieces s (laneWork n s) := by
  have h1 : Pieces s (laneStep1 s) := .single (.laneStep1 hs)
  have hs1 : (laneStep1 s).port.link = .running := h1.running hs
  unfold laneWork
  dsimp only
  split
  · next hidle =>
    split
    · next hp => exact h1.tail (.commit n hs1 hp hidle)
    · next hp => exact h1.tail (.laneStep3 n hs1 (by simpa using hp) hidle)
  · split
    · next hw =>
      simp only [Bool.and_eq_true] at hw
      exact h1.tail (.laneStep4 n hs1 hw.1)
    · exact h1

/-- The work that follows the restoration, or the counts: the receive units, the lane, the scan, the attenuation. -/
theorem pieces_workFrom (n : FrameNo) (pass : Carrier → Bool) (loaded : Four (Option Nat)) (s : State)
    (hs : s.port.link = .running) :
    Pieces s (computeAtten loaded (scanWork n pass (laneWork n (rauWork s)))) := by
  have h1 : Pieces s (rauWork s) := .single (.rau hs)
  exact ((h1.trans (pieces_laneWork n _ (h1.running hs))).tail (.scan n _)).tail (.atten loaded)

theorem pieces_blockWork (n : FrameNo) (pass : Carrier → Bool) (s : State) (hs : s.port.link = .running) :
    Pieces s (blockWork n pass id s) := by
  have h1 : Pieces s (powerWork (mapperWork (graceWork s))) := .tail (.tail (.single .grace) (.mapper hs)) .power
  exact h1.trans (pieces_workFrom n _ _ _ (h1.running hs))

/-- The hand-overs of an ordinary frame start that its order puts at one time. -/
def handovers (order : FrameOrder) (counted missing : Four Bool) (time : HandoverTime) (s : State) : State :=
  let t := if order.reports = time then takeBlinds counted s else s
  if order.notices = time then takeNotices missing t else t

theorem pieces_handovers (order : FrameOrder) (counted missing : Four Bool) (time : HandoverTime) (s : State)
    (hs : s.port.link = .running) : Pieces s (handovers order counted missing time s) := by
  have h1 : Pieces s (if order.reports = time then takeBlinds counted s else s) := by
    split
    · exact pieces_takeBlinds counted s hs
    · exact .refl
  unfold handovers
  dsimp only
  split
  · exact h1.trans (pieces_takeNotices missing _ (h1.running hs))
  · exact h1

theorem ordinaryFrame_eq (n cur : FrameNo) (order : FrameOrder) (s : State) :
    ordinaryFrame n cur order s =
      let hand := handovers order (countedCarriers s) (missingCarriers s)
      hand .last (deliver n (hand .beforeFields
        (startWatch (blockWork n (fun _ => false) id (hand .beforeBlocks (adoptFrame n cur s)))))) := rfl

theorem pieces_ordinaryFrame (n cur : FrameNo) (order : FrameOrder) (s : State) (hs : s.port.link = .running) :
    Pieces s (ordinaryFrame n cur order s) := by
  rw [ordinaryFrame_eq]
  have hand (time : HandoverTime) {t : State} (ht : Pieces s t) :
      Pieces s (handovers order (countedCarriers s) (missingCarriers s) time t) :=
    ht.trans (pieces_handovers _ _ _ time t (ht.running hs))
  have hadopt := hand .beforeBlocks (pieces_adoptFrame n cur s)
  have hblocks := hadopt.trans (pieces_blockWork n (fun _ => false) _ (Pieces.running hadopt hs))
  exact hand .last ((hand .beforeFields (hblocks.tail (piece_startWatch _))).tail (piece_deliver n _))

theorem pieces_firstFrame (n : FrameNo) (s : State) (hs : s.port.link = .running) : Pieces s (firstFrame n s) := by
  have h1 : Pieces s (s.setPort (uncountedPort n s.port)) := .single (.port _ hs.symm)
  have h2 := h1.trans (pieces_blockWork n (fun _ => true) _ (h1.running hs))
  exact (h2.tail (piece_startWatch _)).tail (piece_deliver n _)

@[simp] theorem restoredPort_link (n : FrameNo) (s : State) : (restoredPort n s).port.link = .running := rfl

theorem restoringFrame_eq (n : FrameNo) (s : State) :
    ∃ pass, restoringFrame n s = deliver n (startWatch (computeAtten (loadedProfiles (restoredPort n s))
      (scanWork n pass (laneWork n (rauWork (restored n s)))))) := ⟨_, rfl⟩

theorem restored_link (n : FrameNo) (s : State) : (restored n s).port.link = .running := by simp [restored]

theorem pieces_restoringFrame (n : FrameNo) (s : State) (hs : s.port.link = .frameLost) :
    Pieces s (restoringFrame n s) := by
  obtain ⟨pass, e⟩ := restoringFrame_eq n s
  rw [e]
  have h1 : Pieces s (restored n s) := .single (.restored n hs)
  have h2 := h1.trans (pieces_workFrom n pass (loadedProfiles (restoredPort n s)) _ (restored_link n s))
  exact (h2.tail (piece_startWatch _)).tail (piece_deliver n _)

theorem pieces_takeFrameStart (n : FrameNo) (order : FrameOrder) (s : State) :
    Pieces s (takeFrameStart n order s) := by
  unfold takeFrameStart
  split
  · next hs => exact pieces_restoringFrame n s hs
  · next hs _ => exact pieces_firstFrame n s hs
  · next hs _ => exact pieces_ordinaryFrame n _ order s hs

theorem Pieces.keeps {P : State → Prop} (hkeep : ∀ u v, Piece u v → P u → P v) {s t : State} (h : Pieces s t)
    (hs : P s) : P t := by
  induction h with
  | refl => exact hs
  | tail _ hbc ih => exact hkeep _ _ hbc ih

end Sys2Proof.Machine
end

section
/-! The ranges of the estimate record (R18), kept by every report and so by every step. -/
namespace Sys2Proof.Machine

/-! ### A combined value is at most 160 qdB (R22, R25) -/

theorem eligibleSnr_le {mode : CombiningMode} {side : Side} {health : BranchHealth} {part : Option BranchPart} :
    ∀ v ∈ eligibleSnr mode side health part, v ≤ 160 := by
  intro v hv
  cases part with
  | none => cases hv
  | some p =>
    rw [eligibleSnr_some] at hv
    split at hv
    · cases hv; exact Nat.min_le_right ..
    · cases hv

theorem combineBranches_le (mode : CombiningMode) {a b : Option Nat} (ha : ∀ v ∈ a, v ≤ 160) (hb : ∀ v ∈ b, v ≤ 160) :
    ∀ v ∈ combineBranches mode a b, v ≤ 160 := by
  intro v hv
  match a, b with
  | none, none => cases hv
  | some x, none => cases hv; exact ha _ rfl
  | none, some y => cases hv; exact hb _ rfl
  | some x, some y =>
    have hmax : max x y ≤ 160 := max_le (ha _ rfl) (hb _ rfl)
    cases mode <;> cases hv <;> omega

/-! ### The next estimate (R27 to R32) -/

theorem filterEstimate_between (k drop : Nat) {e sample lo hi : Int} (he : lo ≤ e ∧ e ≤ hi)
    (hs : lo ≤ sample ∧ sample ≤ hi) :
    lo ≤ filterEstimate k drop e sample ∧ filterEstimate k drop e sample ≤ hi := by
  rcases lt_or_ge sample e with h | h
  · have := filterEstimate_from_above (k := k) (drop := drop) h
    omega
  · have := filterEstimate_from_below (k := k) (drop := drop) h
    omega

theorem pushHistory_length (history : List Int) (e : Int) (h : history.length ≤ 8) :
    1 ≤ (pushHistory history e).length ∧ (pushHistory history e).length ≤ 8 := by
  unfold pushHistory
  split <;> simp <;> omega

theorem mem_pushHistory {history : List Int} {e x : Int} (h : x ∈ pushHistory history e) : x ∈ history ∨ x = e := by
  unfold pushHistory at h
  split at h
  · rcases List.mem_append.1 h with h | h
    · exact .inl (List.mem_of_mem_tail h)
    · exact .inr (by simpa using h)
  · simpa using h

theorem slopeOf_le {history : List Int} {e : Int} (he : 0 ≤ e ∧ e ≤ 2560) (h : ∀ x ∈ history, 0 ≤ x ∧ x ≤ 2560) :
    -320 ≤ slopeOf history e ∧ slopeOf history e ≤ 320 := by
  unfold slopeOf
  split
  · next oldest rest =>
    have := h oldest (List.mem_cons_self ..)
    split <;> omega
  · omega

theorem predict_le (L : Nat) {e : Int} (r : Int) (he : 0 ≤ e) : 0 ≤ predict L e r ∧ predict L e r ≤ e := by
  rcases lt_or_ge r 0 with h | h
  · rw [predict_of_falling L e h]
    have hfall : r * L ≤ 0 := mul_nonpos_of_nonpos_of_nonneg h.le (Int.natCast_nonneg L)
    exact ⟨le_max_left .., max_le he (by omega)⟩
  · rw [predict_of_not_falling L e h]
    exact ⟨he, le_rfl⟩

theorem marginOf_le (base pr : Int) : marginOf base pr ≤ 63 := by
  have := marginOf_cast base pr
  omega

/-- The ranges of the fields of a seeded record. -/
def SeededInRange (v : Estimate) : Prop :=
  (0 ≤ v.e ∧ v.e ≤ 2560) ∧ (0 ≤ v.pr ∧ v.pr ≤ v.e) ∧ (-320 ≤ v.r ∧ v.r ≤ 320) ∧
  (1 ≤ v.history.length ∧ v.history.length ≤ 8) ∧ ∀ h ∈ v.history, 0 ≤ h ∧ h ≤ 2560

theorem estimateInRange_iff (x : EstRecord) :
    EstimateInRange x ↔ (∀ v ∈ x.est, SeededInRange v ∧ x.margin ≤ 63) ∧ (x.est = none → x.margin = 0 ∧ x.fade = false) := by
  unfold EstimateInRange SeededInRange
  cases x.est <;> simp [and_assoc]

theorem seededInRange_nextEstimate (link : LinkParams) {before : Option Estimate} {sample : Int}
    (hb : ∀ v ∈ before, SeededInRange v) (hs : 0 ≤ sample ∧ sample ≤ 2560) :
    SeededInRange (nextEstimate link before sample) := by
  have assemble {history : List Int} {e : Int} (he : 0 ≤ e ∧ e ≤ 2560) (hlen : history.length ≤ 8)
      (hrange : ∀ x ∈ history, 0 ≤ x ∧ x ≤ 2560) :
      SeededInRange { e := e, history := pushHistory history e, r := slopeOf history e,
                      pr := predict link.lookahead e (slopeOf history e) } := by
    refine ⟨he, predict_le _ _ he.1, slopeOf_le he hrange, pushHistory_length history e hlen, fun x hx => ?_⟩
    rcases mem_pushHistory hx with hx | rfl
    · exact hrange x hx
    · exact he
  cases before with
  | none => exact assemble (history := []) hs (by simp) (by simp)
  | some v =>
    obtain ⟨he, -, -, hlen, hrange⟩ := hb v rfl
    exact assemble (filterEstimate_between _ _ he hs) hlen.2 hrange

theorem estimateInRange_estimateReport (w : WorkingSet) (c : Carrier) {combined : Option Nat} {x : EstRecord}
    (hv : ∀ v ∈ combined, v ≤ 160) (hx : EstimateInRange x) :
    EstimateInRange (estimateReport w c combined x).1 := by
  rw [estimateInRange_iff] at hx ⊢
  refine ⟨fun v h => ?_, fun h => by cases h⟩
  cases h
  refine ⟨seededInRange_nextEstimate _ (fun v h => (hx.1 v h).1) ?_, marginOf_le _ _⟩
  cases combined with
  | none => simp
  | some v =>
    have := hv v rfl
    dsimp only
    omega

theorem estimateInRange_unseeded : EstimateInRange EstRecord.unseeded := ⟨rfl, rfl⟩

/-! ### The operations that write an estimate -/

/-- The combined value of a report's parts (R22 to R25), none for a blind one. -/
def combinedOf (c : Carrier) (a b : Option BranchPart) (s : State) : Option Nat :=
  combineBranches (s.params c).mode
    (eligibleSnr (s.params c).mode .a ((s.monitor.branches.get c).a).health a)
    (eligibleSnr (s.params c).mode .b ((s.monitor.branches.get c).b).health b)

theorem combinedOf_le (c : Carrier) (a b : Option BranchPart) (s : State) : ∀ v ∈ combinedOf c a b s, v ≤ 160 :=
  combineBranches_le _ eligibleSnr_le eligibleSnr_le

/-- A report's record is seeded, so that the receive unit always takes a hand-over of it (R35). -/
theorem takeReport_eq (c : Carrier) (a b : Option BranchPart) (errors : Nat) (s : State) :
    takeReport c a b errors s =
      let combined := combinedOf c a b s
      let r := estimateReport s.working c combined (s.est.get c)
      let s1 := (s.setEst (s.est.set c r.1)).report r.2
      s1.setRau (s1.rau.set c (takeHandover (rxEnv s1 c)
        { pr := (nextEstimate s.working.link (s.est.get c).est (16 * match combined with
            | some v => (v : Int)
            | none => 0)).pr,
          blind := combined.isNone, errors := errors } (s1.rau.get c))) := rfl

theorem takeReport_est (c : Carrier) (a b : Option BranchPart) (errors : Nat) (s : State) :
    (takeReport c a b errors s).est =
      s.est.set c (estimateReport s.working c (combinedOf c a b s) (s.est.get c)).1 := rfl

theorem estimatesInRange_takeReport (c : Carrier) (a b : Option BranchPart) (errors : Nat) {s : State}
    (hs : EstimatesInRange s) : EstimatesInRange (takeReport c a b errors s) := by
  intro d
  rw [takeReport_est, Four.get_set]
  split
  · exact estimateInRange_estimateReport _ _ (combinedOf_le c a b s) (hs c)
  · exact hs d

/-- A commit unseeds the carriers that it enables or disables, and leaves the others' estimates (R20, R37). -/
theorem commitWork_est (n : FrameNo) (s : State) (c : Carrier) :
    (commitWork n s).est.get c =
      if enableChanges s.working (stagedAsWorking s.staged) c then .unseeded else s.est.get c := by
  simp only [commitWork, rederiveAfterCommit_est, commitFarFault, commitPort, State.setPortCarriers, commitMapper,
    commitPower, commitSig, commitIntake, commitEst, commitRau, commitLane, commitConfiguration,
    perCarrier]
  simp
  split
  · next h => simp [h, unseed]
  · next h => simp [h]

theorem estimatesInRange_commitWork (n : FrameNo) {s : State} (hs : EstimatesInRange s) :
    EstimatesInRange (commitWork n s) := by
  intro c
  rw [commitWork_est]
  split
  · exact estimateInRange_unseeded
  · exact hs c

theorem takeFrameLoss_est (s : State) : (takeFrameLoss s).est = .fill .unseeded := by
  simp [takeFrameLoss, lossSig, lossMapper, lossEst, perCarrier, unseed]
  rfl

theorem estimatesInRange_of_est_eq {s t : State} (h : t.est = s.est) (hs : EstimatesInRange s) :
    EstimatesInRange t := by
  unfold EstimatesInRange
  rw [h]
  exact hs

theorem estimatesInRange_of_unseeded {s : State} (h : s.est = .fill .unseeded) : EstimatesInRange s := by
  intro c
  rw [h, Four.get_fill]
  exact estimateInRange_unseeded

theorem estimatesInRange_piece {s t : State} (h : Piece s t) (hs : EstimatesInRange s) : EstimatesInRange t := by
  cases h with
  | report c => exact estimatesInRange_takeReport c none none 0 hs
  | commit n => exact estimatesInRange_commitWork n hs
  | notice c => exact estimatesInRange_of_est_eq (handField_est ..) hs
  | laneStep3 n => exact estimatesInRange_of_est_eq (laneStep3_est ..) hs
  | laneStep4 n => exact estimatesInRange_of_est_eq (laneStep4_est ..) hs
  | restored n => exact estimatesInRange_of_est_eq (by simp [restored, restoredPort]) hs
  | port | events | grace | mapper | power | rau | laneStep1 | scan | atten => exact hs

theorem estimatesInRange_effect {i : Instr} {s t : State} (h : Effect i s t) (hs : EstimatesInRange s) :
    EstimatesInRange t := by
  cases h with
  | report c a b errors => exact estimatesInRange_takeReport c a b errors hs
  | frameStart n order => exact (pieces_takeFrameStart n order s).keeps (fun _ _ => estimatesInRange_piece) hs
  | commit n => exact estimatesInRange_commitWork n hs
  | frameLoss => exact estimatesInRange_of_unseeded (takeFrameLoss_est s)
  | powerOn => exact estimatesInRange_of_unseeded rfl
  | reset => exact estimatesInRange_of_unseeded rfl
  | field c f => exact estimatesInRange_of_est_eq (handField_est ..) hs
  | powerShadow c => exact estimatesInRange_of_est_eq (by unfold loadPowerShadow; split <;> rfl) hs
  | faultLevel v => exact estimatesInRange_of_est_eq (takeFaultLevel_est ..) hs
  | combine c m => exact estimatesInRange_of_est_eq (by unfold setCombineMode; split <;> rfl) hs
  | abort => exact estimatesInRange_of_est_eq (linkAbort_est ..) hs
  | resume => exact estimatesInRange_of_est_eq (linkResume_est ..) hs
  | port | intake | events | hml | freeCount | graceExpiry | window | rxSwitch | timeout | announcementSwitch | mapShadow
  | staged | applied | hostPause | txHold => exact hs

/-- Settles O4: a report keeps the ranges, a commit and a loss only unseed, and nothing else writes an estimate. -/
theorem estimatesStayInRange : Obligations.EstimatesStayInRange := fun _ _ hs h =>
  step_keeps (fun _ => id) (fun _ _ _ _ => estimatesInRange_effect) hs h

end Sys2Proof.Machine
end

section
/-! The form of the Event Latch Table (R184), kept by every step: every block reports only kinds, indices and edges that
the table can hold. -/
namespace Sys2Proof.Machine

/-! ### Reports that the table can hold -/

theorem occurrence_good {k : EventKind} {i : Nat} (hk : k.isCondition = false) (hi : i < k.indices) :
    ∀ r ∈ [occurrence k i], r.Good := by
  intro r hr
  rw [List.mem_singleton.1 hr]
  exact ⟨hi, by simp [occurrence, hk]⟩

theorem edge_good {k : EventKind} {i : Nat} (e : Edge) (hk : k.isCondition = true) (hi : i < k.indices) :
    ∀ r ∈ [{ kind := k, index := i, edge := some e : Report }], r.Good := by
  intro r hr
  rw [List.mem_singleton.1 hr]
  exact ⟨hi, by simp [hk]⟩

theorem conditionEdge_good {k : EventKind} {i : Nat} (before after : Bool) (hk : k.isCondition = true)
    (hi : i < k.indices) : ∀ r ∈ conditionEdge k i before after, r.Good := by
  unfold conditionEdge
  split
  · exact edge_good _ hk hi
  · exact edge_good _ hk hi
  · simp

theorem nil_good : ∀ r ∈ ([] : List Report), r.Good := by simp

theorem append_good {a b : List Report} (ha : ∀ r ∈ a, r.Good) (hb : ∀ r ∈ b, r.Good) : ∀ r ∈ a ++ b, r.Good :=
  fun r hr => (List.mem_append.1 hr).elim (ha r) (hb r)

theorem perCarrier_good {α : Type} {f : Carrier → α × List Report} (h : ∀ c, ∀ r ∈ (f c).2, r.Good) :
    ∀ r ∈ (perCarrier f).2, r.Good := by
  intro r hr
  obtain ⟨c, -, hr⟩ := List.mem_flatMap.1 hr
  exact h c r hr

theorem branchIndex_lt (c : Carrier) (side : Side) : branchIndex c side < EventKind.branchFault.indices := by
  cases c <;> cases side <;> decide

theorem shedEdges_good (before after : Eight ClassEntry) : ∀ r ∈ shedEdges before after, r.Good := by
  intro r hr
  obtain ⟨k, -, hr⟩ := List.mem_flatMap.1 hr
  exact conditionEdge_good _ _ (by decide) k.toNat_lt r hr

/-! ### What each block reports -/

theorem switchTo_good (env : RxEnv) (next : Nat) (x : RxContext) : ∀ r ∈ (switchTo env next x).2, r.Good := by
  unfold switchTo
  split
  · exact nil_good
  · exact occurrence_good (by decide) env.carrier.toNat_lt

theorem slipTo_good (env : RxEnv) (profile : Nat) (x : RxContext) : ∀ r ∈ (slipTo env profile x).2, r.Good :=
  occurrence_good (by decide) env.carrier.toNat_lt

theorem takeAnnouncement_good (env : RxEnv) (p : FieldParts) (x : RxContext) :
    ∀ r ∈ (takeAnnouncement env p x).2, r.Good := by
  unfold takeAnnouncement
  split
  · split
    · exact nil_good
    · split
      · exact switchTo_good _ _ _
      · exact nil_good
  · exact nil_good

theorem slipTest_good (env : RxEnv) (active : Nat) (x : RxContext) : ∀ r ∈ (slipTest env active x).2, r.Good := by
  unfold slipTest
  split
  · exact slipTo_good _ _ _
  · exact nil_good

theorem takeField_good (env : RxEnv) (seeded : Bool) (p : FieldParts) (ans : AnsKind) (x : RxContext) :
    ∀ r ∈ (takeField env seeded p ans x).2, r.Good := by
  unfold takeField
  split
  · exact nil_good
  · exact append_good (takeAnnouncement_good _ _ _) (slipTest_good _ _ _)

theorem armedTick_good (env : RxEnv) (x : RxContext) : ∀ r ∈ (armedTick env x).2, r.Good := by
  unfold armedTick
  split
  · split
    · exact switchTo_good _ _ _
    · exact nil_good
  · exact nil_good

theorem timerTick_good (env : RxEnv) (x : RxContext) : ∀ r ∈ (timerTick env x).2, r.Good := by
  unfold timerTick
  split
  · split
    · exact occurrence_good (by decide) env.carrier.toNat_lt
    · exact nil_good
  · exact nil_good

theorem rxFrameWork_good (env : RxEnv) (x : RxContext) : ∀ r ∈ (rxFrameWork env x).2, r.Good := by
  unfold rxFrameWork
  split
  · exact nil_good
  · exact append_good (armedTick_good _ _) (timerTick_good _ _)

theorem rxCommit_good (env : RxEnv) (old new : Bool) (x : RxContext) : ∀ r ∈ (rxCommit env old new x).2, r.Good := by
  unfold rxCommit
  split
  · exact nil_good
  · exact nil_good
  · dsimp only
    split
    · exact slipTo_good _ _ _
    · exact nil_good
  · exact nil_good

theorem laneCountdown_good (w : WorkingSet) (l : Lane) : ∀ r ∈ (laneCountdown w l).2, r.Good := by
  unfold laneCountdown
  split
  · split
    · intro r hr
      obtain ⟨m, -, rfl⟩ := List.mem_map.1 hr
      exact occurrence_good (by decide) m.carrier.toNat_lt _ (List.mem_singleton_self _)
    · exact nil_good
  · exact nil_good

theorem mapperTick_good (x : Mapper) : ∀ r ∈ (mapperTick x).2, r.Good := by
  unfold mapperTick
  split
  · split
    · exact shedEdges_good _ _
    · exact nil_good
  · exact nil_good

theorem evaluateBranch_good (link : LinkParams) (n : FrameNo) (c : Carrier) (side : Side) (record : Option BranchRecord)
    (x : Monitor) : ∀ r ∈ (evaluateBranch link n c side record x).2, r.Good := by
  unfold evaluateBranch
  dsimp only
  split
  · exact nil_good
  · exact edge_good _ (by decide) (branchIndex_lt c side)

theorem scanBranch_good (w : WorkingSet) (n : FrameNo) (pass : Carrier → Bool) (intake : Four IntakeCarrier)
    (x : Monitor) : ∀ r ∈ (scanBranch w n pass intake x).2, r.Good := by
  unfold scanBranch
  dsimp only
  split
  · exact nil_good
  · exact evaluateBranch_good _ _ _ _ _ _

theorem monitorCommit_good (link : LinkParams) (c : Carrier) (old new : CarrierParams) (x : Monitor) :
    ∀ r ∈ (monitorCommit link c old new x).2, r.Good := by
  have leaves (left : Bool) (side : Side) : ∀ r ∈
      (if left then [{ kind := .branchFault, index := branchIndex c side, edge := some .leave : Report }] else []),
      r.Good := by
    split
    · exact edge_good _ (by decide) (branchIndex_lt c side)
    · exact nil_good
  exact append_good (leaves _ .a) (leaves _ .b)

/-! ### The operations that report -/

/-- The Event Latch Table of a state has its form. -/
def SoundEvents (s : State) : Prop := EventTableSound s.events

theorem soundEvents_report {s : State} {rs : List Report} (hs : SoundEvents s) (hr : ∀ r ∈ rs, r.Good) :
    SoundEvents (s.report rs) := eventTableSound_latchAll _ hs hr

theorem soundEvents_of_eq {s t : State} (h : t.events = s.events) (hs : SoundEvents s) : SoundEvents t := by
  unfold SoundEvents
  rw [h]
  exact hs

theorem soundEvents_takeReport (c : Carrier) (a b : Option BranchPart) (errors : Nat) {s : State} (hs : SoundEvents s) :
    SoundEvents (takeReport c a b errors s) :=
  soundEvents_report (s := s.setEst _) hs (conditionEdge_good _ _ (by decide) c.toNat_lt)

theorem soundEvents_linkAbort (cause : AbortCause) {s : State} (hs : SoundEvents s) :
    SoundEvents (linkAbort cause s) := by
  have h : SoundEvents ((s.setFault { s.fault with state := .aborted, cause := some cause }).report
      [{ kind := .aborted, index := 0, edge := some .enter }]) :=
    soundEvents_report (s := s.setFault _) hs (edge_good .enter (by decide) (by decide))
  exact soundEvents_of_eq (by simp [linkAbort]) h

theorem soundEvents_rederiveDemand (held : Bool) (cause : AbortCause) {s : State} (hs : SoundEvents s) :
    SoundEvents (rederiveDemand held cause s) := by
  unfold rederiveDemand
  split
  · exact soundEvents_linkAbort cause hs
  · exact hs

theorem soundEvents_rederiveAfterCommit (held : Bool) {s : State} (hs : SoundEvents s) :
    SoundEvents (rederiveAfterCommit held s) := by
  unfold rederiveAfterCommit
  split
  · exact soundEvents_linkAbort _ (s := s.setFreeCount _) hs
  · exact hs

theorem soundEvents_takeEquipFault (c : Carrier) (v : Bool) {s : State} (hs : SoundEvents s) :
    SoundEvents (takeEquipFault c v s) := by
  unfold takeEquipFault
  split
  · exact soundEvents_rederiveDemand _ _
      (soundEvents_report (s := storeFarFault c true s) hs (occurrence_good (by decide) c.toNat_lt))
  · exact hs

theorem soundEvents_takeFaultLevel (v : Bool) {s : State} (hs : SoundEvents s) : SoundEvents (takeFaultLevel v s) := by
  unfold takeFaultLevel
  split
  · exact hs
  · dsimp only
    split
    · exact soundEvents_rederiveDemand _ _
        (soundEvents_report (s := s.setFault _) hs (occurrence_good (by decide) (by decide)))
    · exact hs

theorem soundEvents_storeRau (c : Carrier) {x : RxContext × List Report} {s : State} (hx : ∀ r ∈ x.2, r.Good)
    (hs : SoundEvents s) : SoundEvents (storeRau c x s) :=
  soundEvents_report (s := s.setRau _) hs hx

theorem soundEvents_routePart (c : Carrier) (p : FieldParts) (ans : AnsKind) {s : State} (hs : SoundEvents s) :
    SoundEvents (routePart c p ans s) :=
  soundEvents_storeRau c (takeField_good _ _ _ _ _) (soundEvents_takeEquipFault c _ hs)

theorem soundEvents_routeFull (c : Carrier) (p : FieldParts) (ans : AnsKind) {s : State} (hs : SoundEvents s) :
    SoundEvents (routeFull c p ans s) :=
  soundEvents_of_eq (takeMargin_events ..) (soundEvents_routePart c p ans hs)

theorem soundEvents_recoverSig (c : Carrier) {s : State} (hs : SoundEvents s) : SoundEvents (recoverSig c s) :=
  soundEvents_report (s := storeSig c _ s) hs (edge_good _ (by decide) c.toNat_lt)

theorem soundEvents_enterSigLost (c : Carrier) {s : State} (hs : SoundEvents s) : SoundEvents (enterSigLost c s) :=
  soundEvents_of_eq (applyLossPolicy_events ..)
    (soundEvents_report (s := storeSig c _ s) hs (edge_good _ (by decide) c.toNat_lt))

theorem soundEvents_takeInvalid (c : Carrier) {s : State} (hs : SoundEvents s) : SoundEvents (takeInvalid c s) := by
  unfold takeInvalid
  dsimp only
  split
  · exact hs
  · split
    · exact soundEvents_enterSigLost c hs
    · exact hs

theorem soundEvents_takeValid (c : Carrier) (f : RawField) (ans : AnsKind) {s : State} (hs : SoundEvents s) :
    SoundEvents (takeValid c f ans s) := by
  unfold takeValid
  dsimp only
  split
  · split
    · exact soundEvents_routeFull c _ ans (soundEvents_recoverSig c (s := storeSig c _ s) hs)
    · exact soundEvents_routePart c _ ans (s := storeSig c _ s) hs
  · exact soundEvents_routeFull c _ ans (s := storeSig c _ s) hs

theorem soundEvents_handField (c : Carrier) (f : Option RawField) {s : State} (hs : SoundEvents s) :
    SoundEvents (handField c f s) := by
  unfold handField
  split
  · exact soundEvents_takeInvalid c hs
  · split
    · split
      · exact soundEvents_takeValid c _ _ hs
      · exact soundEvents_takeInvalid c hs
    · exact soundEvents_takeInvalid c hs

theorem soundEvents_commitMonitor (old : WorkingSet) {s : State} (hs : SoundEvents s) :
    SoundEvents (commitMonitor old s) := by
  have one (c : Carrier) {t : State} (ht : SoundEvents t) : SoundEvents (commitMonitorCarrier old c t) :=
    soundEvents_report (s := t.setMonitor _) ht (monitorCommit_good _ _ _ _ _)
  exact one .c3 (one .c2 (one .c1 (one .c0 hs)))

theorem soundEvents_commitWork (n : FrameNo) {s : State} (hs : SoundEvents s) : SoundEvents (commitWork n s) := by
  have h1 : SoundEvents (commitLane s.working (commitConfiguration s)) :=
    soundEvents_report (s := (s.setWorking _).setApplyPending _) hs (occurrence_good (by decide) (by decide))
  have h2 : SoundEvents (commitRau s.working (commitLane s.working (commitConfiguration s))) :=
    soundEvents_report (s := State.setRau _ _) h1 (perCarrier_good fun _ => rxCommit_good _ _ _ _)
  have h3 : SoundEvents (commitEst s.working (commitRau s.working (commitLane s.working (commitConfiguration s)))) := by
    refine soundEvents_report (s := State.setEst _ _) h2 (perCarrier_good fun c => ?_)
    split
    · exact conditionEdge_good _ _ (by decide) c.toNat_lt
    · exact nil_good
  have h4 := soundEvents_commitMonitor s.working h3
  have h5 : SoundEvents (commitSig s.working (commitIntake s.working (commitMonitor s.working
      (commitEst s.working (commitRau s.working (commitLane s.working (commitConfiguration s))))))) := by
    refine soundEvents_report (s := State.setSig (commitIntake _ _) _) h4 (perCarrier_good fun c => ?_)
    split
    · exact conditionEdge_good _ _ (by decide) c.toNat_lt
    · exact nil_good
  exact soundEvents_rederiveAfterCommit _ (s := commitFarFault _ (commitPort _ (commitMapper _ n _)))
    (soundEvents_report (s := State.setMapper (commitPower _ _) _) h5 (shedEdges_good _ _))

theorem soundEvents_takeFrameLoss {s : State} (hs : SoundEvents s) : SoundEvents (takeFrameLoss s) := by
  have h1 : SoundEvents ((s.setPort { s.port with link := .frameLost, watch := none }).report
      [{ kind := .frameLost, index := 0, edge := some .enter }]) :=
    soundEvents_report (s := s.setPort _) hs (edge_good _ (by decide) (by decide))
  have h2 := soundEvents_of_eq (muteSettings_events _) h1
  have h3 : SoundEvents (lossEst (muteSettings _)) :=
    soundEvents_report (s := State.setEst _ _) h2
      (perCarrier_good fun c => conditionEdge_good _ _ (by decide) c.toNat_lt)
  have h4 : ∀ t : State, SoundEvents t → SoundEvents (lossSig (lossMapper t)) := fun t ht =>
    soundEvents_report (s := State.setSig (lossMapper t) _)
      (soundEvents_report (s := t.setMapper _) ht (shedEdges_good _ _))
      (perCarrier_good fun c => conditionEdge_good _ _ (by decide) c.toNat_lt)
  exact h4 _ h3

theorem soundEvents_piece {s t : State} (h : Piece s t) (hs : SoundEvents s) : SoundEvents t := by
  cases h with
  | events x h => exact h hs
  | report c => exact soundEvents_takeReport c none none 0 hs
  | notice c => exact soundEvents_handField c none hs
  | mapper => exact soundEvents_report (s := s.setMapper _) hs (mapperTick_good _)
  | rau => exact soundEvents_report (s := s.setRau _) hs (perCarrier_good fun _ => rxFrameWork_good _ _)
  | laneStep1 => exact soundEvents_report (s := s.setLane _) hs (laneCountdown_good _ _)
  | commit n => exact soundEvents_commitWork n hs
  | laneStep3 n => exact soundEvents_of_eq (laneStep3_events ..) hs
  | laneStep4 n => exact soundEvents_of_eq (laneStep4_events ..) hs
  | scan n pass => exact soundEvents_report (s := s.setMonitor _) hs (scanBranch_good _ _ _ _ _)
  | restored n =>
    have h1 : SoundEvents (restoredPort n s) :=
      soundEvents_report (s := s.setPort _) hs (edge_good .leave (by decide) (by decide))
    have h2 : SoundEvents (powerWork (mapperWork (graceWork (restoredPort n s)))) :=
      soundEvents_report (s := State.setMapper (graceWork _) _) h1 (mapperTick_good _)
    exact soundEvents_of_eq (restoreBlocks_events ..) h2
  | port | grace | power | atten => exact hs

theorem soundEvents_effect {i : Instr} {s t : State} (h : Effect i s t) (hs : SoundEvents s) : SoundEvents t := by
  cases h with
  | events x h => exact h hs
  | report c a b errors => exact soundEvents_takeReport c a b errors hs
  | field c f => exact soundEvents_handField c f hs
  | frameStart n order => exact (pieces_takeFrameStart n order s).keeps (fun _ _ => soundEvents_piece) hs
  | window c => exact soundEvents_storeRau c nil_good hs
  | rxSwitch c => exact soundEvents_storeRau c (armedTick_good _ _) hs
  | timeout c => exact soundEvents_storeRau c (timerTick_good _ _) hs
  | announcementSwitch => exact soundEvents_report (s := s.setLane _) hs (laneCountdown_good _ _)
  | powerShadow c => exact soundEvents_of_eq (by unfold loadPowerShadow; split <;> rfl) hs
  | mapShadow => exact soundEvents_report (s := s.setMapper _) hs (mapperTick_good _)
  | commit n => exact soundEvents_commitWork n hs
  | frameLoss => exact soundEvents_takeFrameLoss hs
  | faultLevel v => exact soundEvents_takeFaultLevel v hs
  | powerOn => exact ⟨List.Pairwise.nil, by simp [powerOn, State.reset, EventTable.initial]⟩
  | reset => exact ⟨List.Pairwise.nil, by simp [resetBlocks]⟩
  | combine c m => exact soundEvents_of_eq (by unfold setCombineMode; split <;> rfl) hs
  | abort => exact soundEvents_linkAbort _ hs
  | resume =>
    exact soundEvents_of_eq (s := (s.setFault { s.fault with state := .running }).report
        [{ kind := .aborted, index := 0, edge := some .leave }]) (by simp [linkResume])
      (soundEvents_report (s := s.setFault _) hs (edge_good .leave (by decide) (by decide)))
  | port | intake | hml | freeCount | graceExpiry | staged | applied | hostPause | txHold => exact hs

/-! ### At most 58 entries -/

/-- Every pair of a kind and an index of that kind; the indices of all kinds add up to 58. -/
def eventPairs : List (EventKind × Nat) :=
  [.fadeAlarm, .sigLost, .branchFault, .classShed, .aborted, .frameLost, .profileChangeRx, .profileChangeTx,
    .profileSlip, .requestTimeout, .staleReport, .frameSlip, .applyDone, .hmlError, .localFault, .farFault].flatMap
    fun k => (List.range k.indices).map (k, ·)

theorem mem_eventPairs {k : EventKind} {i : Nat} (h : i < k.indices) : (k, i) ∈ eventPairs := by
  refine List.mem_flatMap.2 ⟨k, ?_, List.mem_map.2 ⟨i, List.mem_range.2 h, rfl⟩⟩
  cases k <;> decide

theorem EventEntry.precedes_irrefl (x : EventEntry) : x.precedes x = false := by
  simp [EventEntry.precedes]

/-- Entries of distinct pairs are no more than the pairs. -/
theorem eventTableSound_length {t : EventTable} (h : EventTableSound t) : t.entries.length ≤ 58 := by
  have hnodup : (t.entries.map fun x => (x.kind, x.index)).Nodup := by
    refine List.pairwise_map.2 (h.1.imp fun {x y} hxy hpair => ?_)
    obtain ⟨hk, hi⟩ := Prod.mk.inj hpair
    have : x.precedes x = true := by
      simpa only [EventEntry.precedes, hk, hi] using hxy
    rw [x.precedes_irrefl] at this
    exact absurd this (by decide)
  have hsub : (t.entries.map fun x => (x.kind, x.index)) ⊆ eventPairs := by
    intro pair hpair
    obtain ⟨x, hx, rfl⟩ := List.mem_map.1 hpair
    exact mem_eventPairs (h.2 x hx).2.1
  have hle := (List.subperm_of_subset hnodup hsub).length_le
  rw [List.length_map] at hle
  exact hle.trans (by decide)

/-- Settles O5: every block reports what the table can hold, and each pair stands in it at most once. -/
theorem eventTableStaysSound : Obligations.EventTableStaysSound := fun _ _ hs h =>
  have ht := step_keeps (P := SoundEvents) (fun _ => id) (fun _ _ _ _ => soundEvents_effect) hs h
  ⟨ht, eventTableSound_length ht⟩

end Sys2Proof.Machine
end

section
/-! The records of the staging messages and their bytes (11.6): each determines the other. -/
namespace Sys2Proof.Machine

/-! ### Bytes and numbers -/

@[simp] theorem byteOf_toNat (b : Byte) : byteOf b.toNat = b := BitVec.ofNat_toNat ..

theorem byteOf_zero : byteOf 0 = 0#8 := rfl

theorem toNat_byteOf {n : Nat} (h : n ≤ 255) : (byteOf n).toNat = n := by
  rw [byteOf, BitVec.toNat_ofNat]
  omega

@[simp] theorem bytes16_word16 (hi lo : Byte) : bytes16 (word16 hi lo) = [hi, lo] := by
  have hhi : (hi.toNat * 256 + lo.toNat) / 256 = hi.toNat := by omega
  have hlo : byteOf (hi.toNat * 256 + lo.toNat) = lo := by
    apply BitVec.eq_of_toNat_eq
    rw [byteOf, BitVec.toNat_ofNat]
    omega
  rw [bytes16, word16, hhi, hlo, byteOf_toNat]

theorem word16_byteOf {n : Nat} (h : n ≤ 65535) : word16 (byteOf (n / 256)) (byteOf n) = n := by
  rw [word16, byteOf, byteOf, BitVec.toNat_ofNat, BitVec.toNat_ofNat]
  omega

theorem within_iff (lo hi x : Nat) : within lo hi x = true ↔ lo ≤ x ∧ x ≤ hi := by
  simp [within]

theorem ofInt_toInt (b : Byte) : BitVec.ofInt 8 b.toInt = b := BitVec.ofInt_toInt

theorem toInt_ofInt {x : Int} (h : -110 ≤ x ∧ x ≤ -40) : (BitVec.ofInt 8 x).toInt = x := by
  rw [BitVec.toInt_ofInt, Int.bmod_eq_of_le] <;> omega

/-- A flag byte says what it is read as, and is its code again. -/
theorem flagByte_isSet {b : Byte} (h : isFlag b = true) : flagByte (isSet b) = b := by
  have hb : b.toNat = 0 ∨ b.toNat = 1 := by
    have : b.toNat ≤ 1 := by simpa [isFlag] using h
    omega
  rcases hb with hb | hb
  · obtain rfl : b = 0 := BitVec.eq_of_toNat_eq hb
    rfl
  · obtain rfl : b = 1 := BitVec.eq_of_toNat_eq hb
    rfl

@[simp] theorem isFlag_flagByte (x : Bool) : isFlag (flagByte x) = true := by cases x <;> decide

@[simp] theorem isSet_flagByte (x : Bool) : isSet (flagByte x) = x := by cases x <;> decide

/-! ### The link record -/

theorem abortSources_toNat (l : LinkParams) : (abortSources l).toNat ≤ 3 := by
  cases h1 : l.abortOnFar <;> cases h2 : l.abortOnLocal <;> simp [abortSources, flagBit, h1, h2]

theorem abortSources_getLsbD (l : LinkParams) :
    (abortSources l).getLsbD 0 = l.abortOnLocal ∧ (abortSources l).getLsbD 1 = l.abortOnFar := by
  cases h1 : l.abortOnFar <;> cases h2 : l.abortOnLocal <;> simp [abortSources, flagBit, h1, h2]

theorem abortSources_of_bits {b : Byte} (h : b.toNat ≤ 3) (l : LinkParams) (hl : l.abortOnLocal = b.getLsbD 0)
    (hf : l.abortOnFar = b.getLsbD 1) : abortSources l = b := by
  have bits : ∀ b : Byte, b.toNat ≤ 3 → 0#6 ++ flagBit (b.getLsbD 1) ++ flagBit (b.getLsbD 0) = b := by decide
  rw [abortSources, hl, hf]
  exact bits b h

theorem readLink_linkBytes {l : LinkParams} (h : LinkInRange l) : readLink (linkBytes l) = some l := by
  obtain ⟨h0, h1, h2, h3, h4, h5, h6, h7, h8, h9, h10, h11, h12, h13, h14, h15, h16, h17, h18⟩ := h
  have hsrc := abortSources_toNat l
  obtain ⟨hlocal, hfar⟩ := abortSources_getLsbD l
  simp only [linkBytes, bytes16, List.cons_append, List.nil_append, readLink, word16_byteOf (show l.frameWatch ≤ _ by omega),
    word16_byteOf (show l.holdFrames ≤ _ by omega), word16_byteOf (show l.refuseBackoff ≤ _ by omega),
    word16_byteOf (show l.pingpongWindow ≤ _ by omega), toNat_byteOf (show l.filterShift ≤ _ by omega),
    toNat_byteOf (show l.lookahead ≤ _ by omega), toNat_byteOf (show l.fastDrop ≤ _ by omega),
    toNat_byteOf (show l.fadeAlarmLevel ≤ _ by omega), toNat_byteOf (show l.reportLoss ≤ _ by omega),
    toNat_byteOf (show l.faultScans ≤ _ by omega), toNat_byteOf (show l.recoverScans ≤ _ by omega),
    toNat_byteOf (show l.pauseGrace ≤ _ by omega), toNat_byteOf (show l.errLimit ≤ _ by omega),
    toNat_byteOf (show l.answerTimeout ≤ _ by omega), toNat_byteOf (show l.sigLoss ≤ _ by omega),
    toNat_byteOf (show l.sigRecover ≤ _ by omega), toNat_byteOf (show l.announceCount ≤ _ by omega),
    toNat_byteOf (show l.urgentCount ≤ _ by omega), toInt_ofInt h8, hlocal, hfar]
  rw [if_pos]
  simp only [Bool.and_eq_true, decide_eq_true_eq, within_iff]
  omega

theorem linkInRange_of_readLink {bytes : List Byte} {l : LinkParams} (h : readLink bytes = some l) :
    LinkInRange l ∧ linkBytes l = bytes := by
  unfold readLink at h
  split at h
  · split at h
    · next b0 b1 b2 b3 b4 b5 b6 b7 b8 b9 b10 b11 b12 b13 b14 b15 b16 b17 b18 b19 b20 b21 b22 b23 hc =>
      cases h
      simp only [Bool.and_eq_true, decide_eq_true_eq, within_iff] at hc
      refine ⟨by unfold LinkInRange; dsimp only; omega, ?_⟩
      have hsources := abortSources_of_bits (b := b23) (by omega)
        { LinkParams.default with abortOnLocal := b23.getLsbD 0, abortOnFar := b23.getLsbD 1 } rfl rfl
      simp only [abortSources] at hsources
      simp only [linkBytes, abortSources, byteOf_toNat, bytes16_word16, ofInt_toInt, hsources, List.cons_append,
        List.nil_append]
    · cases h
  · cases h

/-! ### The carrier record -/

@[simp] theorem ofByte?_code (m : CombiningMode) : CombiningMode.ofByte? m.code = some m := by cases m <;> decide

theorem code_of_ofByte? {b : Byte} {m : CombiningMode} (h : CombiningMode.ofByte? b = some m) : m.code = b := by
  unfold CombiningMode.ofByte? at h
  repeat' split at h
  all_goals first | (cases h; done) | skip
  all_goals (obtain rfl := Option.some.inj h; symm; assumption)

theorem lossPolicy_flag (p : LossPolicy) : (if isSet (flagByte (p = .freeze)) then LossPolicy.freeze else .dropToBase) = p := by
  cases p <;> rfl

theorem readCarrierParams_carrierBytes {p : CarrierParams} (h : CarrierInRange p) :
    readCarrierParams (carrierBytes p) = some p := by
  obtain ⟨h0, h1, h2, h3, h4, h5, h6⟩ := h
  simp only [carrierBytes, readCarrierParams, ofByte?_code, isFlag_flagByte, isSet_flagByte,
    toNat_byteOf (show p.rxCeiling ≤ _ by omega), toNat_byteOf (show p.txCeiling ≤ _ by omega),
    toNat_byteOf (show p.low ≤ _ by omega), toNat_byteOf (show p.high ≤ _ by omega),
    toNat_byteOf (show p.period ≤ _ by omega), toNat_byteOf (show p.maxAtten ≤ _ by omega)]
  rw [if_pos]
  · have := lossPolicy_flag p.lossPolicy
    rw [isSet_flagByte] at this
    rw [this]
  · simp only [Bool.and_eq_true, decide_eq_true_eq, within_iff, true_and, and_true]
    omega

theorem carrierInRange_of_readCarrierParams {bytes : List Byte} {p : CarrierParams}
    (h : readCarrierParams bytes = some p) : CarrierInRange p ∧ carrierBytes p = bytes := by
  unfold readCarrierParams at h
  split at h
  · next en rx tx mode exA exB loss atpc low high period maxAtten =>
    split at h
    · cases h
    · next m hm =>
      split at h
      · next hc =>
        cases h
        simp only [Bool.and_eq_true, decide_eq_true_eq, within_iff] at hc
        obtain ⟨⟨⟨⟨⟨⟨⟨⟨⟨⟨⟨hen, hrx⟩, htx⟩, hexA⟩, hexB⟩, hloss⟩, hatpc⟩, hlow⟩, hhigh⟩, hperiod⟩, hmax⟩, hwin⟩ := hc
        have hpolicy : flagByte (decide ((if isSet loss then LossPolicy.freeze else .dropToBase) = .freeze)) = loss := by
          conv_rhs => rw [← flagByte_isSet hloss]
          cases isSet loss <;> rfl
        refine ⟨by unfold CarrierInRange; dsimp only; omega, ?_⟩
        simp only [carrierBytes, byteOf_toNat, flagByte_isSet hen, flagByte_isSet hexA, flagByte_isSet hexB,
          flagByte_isSet hatpc, code_of_ofByte? hm, hpolicy]
      · cases h
  · cases h

/-! ### Profile records -/

theorem readThreshold_thresholdByte {d : Option Nat} (h : ∀ x ∈ d, x ≤ 160) :
    readThreshold (thresholdByte d) = some d := by
  cases d with
  | none => rfl
  | some x =>
    have hx := h x rfl
    have hne : byteOf x ≠ 0xFF := fun e => by
      have := congrArg BitVec.toNat e
      rw [toNat_byteOf (by omega)] at this
      simp at this
      omega
    rw [thresholdByte, readThreshold, if_neg hne, toNat_byteOf (by omega), if_pos hx]

theorem thresholdByte_of_readThreshold {b : Byte} {d : Option Nat} (h : readThreshold b = some d) :
    (∀ x ∈ d, x ≤ 160) ∧ thresholdByte d = b := by
  unfold readThreshold at h
  split at h
  · next hb => cases h; exact ⟨by simp, hb.symm⟩
  · split at h
    · next hb => cases h; exact ⟨by simpa using hb, byteOf_toNat b⟩
    · cases h

/-- The thresholds are absent for P0 and present above it (R55). -/
theorem thresholdsPresent_iff (slot : Nat) (d u : Option Nat) :
    (if slot = 0 then d.isNone && u.isNone else d.isSome && u.isSome) = true ↔
      (d.isSome = true ↔ 0 < slot) ∧ (u.isSome = true ↔ 0 < slot) := by
  rcases Nat.eq_zero_or_pos slot with rfl | h
  · cases d <;> cases u <;> simp
  · have hne : slot ≠ 0 := by omega
    simp [hne, h]

theorem readProfile_profileBytes {slot : Nat} {r : ProfileRecord} (hslot : slot ≤ 11) (h : ProfileInRange slot r) :
    readProfile slot (profileBytes (some r)) = some r := by
  obtain ⟨hcode, hcap, hfloor, hd, hu, hdp, hup⟩ := h
  simp only [profileBytes, readProfile, readThreshold_thresholdByte hd, readThreshold_thresholdByte hu,
    toNat_byteOf (show r.modCode ≤ _ by omega), toNat_byteOf (show r.capacity ≤ _ by omega),
    toNat_byteOf (show r.backoffFloor ≤ _ by omega)]
  rw [if_pos]
  simp only [Bool.and_eq_true, decide_eq_true_eq, within_iff, thresholdsPresent_iff]
  exact ⟨⟨⟨⟨hslot, hcode⟩, hcap⟩, hfloor⟩, hdp, hup⟩

theorem profileInRange_of_readProfile {slot : Nat} {bytes : List Byte} {r : ProfileRecord}
    (h : readProfile slot bytes = some r) : slot ≤ 11 ∧ ProfileInRange slot r ∧ profileBytes (some r) = bytes := by
  unfold readProfile at h
  split at h
  · split at h
    · next d u hd hu =>
      obtain ⟨hc, hr⟩ := Option.ite_none_right_eq_some.1 h
      cases hr
      simp only [Bool.and_eq_true, decide_eq_true_eq, within_iff, thresholdsPresent_iff] at hc
      obtain ⟨⟨⟨⟨hslot, hcode⟩, hcap⟩, hfloor⟩, hdp, hup⟩ := hc
      obtain ⟨hdr, hdb⟩ := thresholdByte_of_readThreshold hd
      obtain ⟨hur, hub⟩ := thresholdByte_of_readThreshold hu
      exact ⟨hslot, ⟨hcode, hcap, hfloor, hdr, hur, hdp, hup⟩, by simp only [profileBytes, byteOf_toNat, hdb, hub]⟩
    · cases h
  · cases h

/-! ### Class records -/

theorem toNat_of_ofNat? {n : Nat} {c : Carrier} (h : Carrier.ofNat? n = some c) : c.toNat = n := by
  unfold Carrier.ofNat? at h
  split at h <;> cases h <;> rfl

theorem readClass_classBytes {r : ClassRecord} (h : ClassInRange r) : readClass (classBytes r) = some r := by
  obtain ⟨hpri, hneed, hmin, hrange⟩ := h
  obtain ⟨active, priority, need, split, min, home⟩ := r
  have hhome : (byteOf home.toNat).toNat = home.toNat := toNat_byteOf (by have := home.toNat_lt; omega)
  dsimp only at *
  cases min with
  | none =>
    obtain rfl : split = false := by simpa using hmin
    simp [classBytes, readClass, hhome, toNat_byteOf (show priority ≤ _ by omega), toNat_byteOf (show need ≤ _ by omega),
      toNat_byteOf (show 0 ≤ _ by omega), within_iff, hpri, hneed]
  | some m =>
    obtain rfl : split = true := by simpa using hmin
    have hm := hrange m rfl
    simp [classBytes, readClass, hhome, toNat_byteOf (show priority ≤ _ by omega), toNat_byteOf (show need ≤ _ by omega),
      toNat_byteOf (show m ≤ _ by omega), within_iff, hpri, hneed, hm]

theorem classInRange_of_readClass {bytes : List Byte} {r : ClassRecord} (h : readClass bytes = some r) :
    ClassInRange r ∧ classBytes r = bytes := by
  unfold readClass at h
  split at h
  · next active priority need split minB home =>
    split at h
    · cases h
    · next c hhome =>
      obtain ⟨hc, hr⟩ := Option.ite_none_right_eq_some.1 h
      cases hr
      simp only [Bool.and_eq_true, decide_eq_true_eq, within_iff] at hc
      obtain ⟨⟨⟨⟨hactive, hpri⟩, hneed⟩, hsplit⟩, hmin⟩ := hc
      have hhome' : byteOf c.toNat = home := by rw [toNat_of_ofNat? hhome, byteOf_toNat]
      have hflag := flagByte_isSet hsplit
      cases hs : isSet split with
      | true =>
        have hm : 1 ≤ minB.toNat ∧ minB.toNat ≤ need.toNat := by simpa [hs, within_iff] using hmin
        rw [hs] at hflag
        exact ⟨⟨hpri, hneed, by simp, by simpa using hm⟩, by simp [classBytes, flagByte_isSet hactive, hhome', hflag]⟩
      | false =>
        have hm : minB.toNat = 0 := by simpa [hs] using hmin
        obtain rfl : minB = 0 := BitVec.eq_of_toNat_eq hm
        rw [hs] at hflag
        exact ⟨⟨hpri, hneed, by simp, by simp⟩, by simp [classBytes, flagByte_isSet hactive, hhome', hflag, byteOf_zero]⟩
  · cases h

/-- Settles O50: each of the four records is read back from its bytes, and each accepted payload is its record's. -/
theorem recordsReadBackAsStaged : Obligations.RecordsReadBackAsStaged :=
  ⟨fun _ => readLink_linkBytes, fun _ _ => linkInRange_of_readLink, fun _ => readCarrierParams_carrierBytes,
    fun _ _ => carrierInRange_of_readCarrierParams, fun _ _ => readProfile_profileBytes,
    fun _ _ _ => profileInRange_of_readProfile, fun _ => readClass_classBytes, fun _ _ => classInRange_of_readClass⟩

end Sys2Proof.Machine
end

section
/-! The configuration (R57 to R61, R181, R183): every staging message writes records in range, APPLY checks what it
freezes, and a commit puts in force what was checked. -/
namespace Sys2Proof.Machine

/-! ### The working set and the flag under a commit -/

@[simp] theorem commitWork_working (n : FrameNo) (s : State) :
    (commitWork n s).working = stagedAsWorking s.staged := by
  simp [commitWork, commitFarFault, commitPort, State.setPortCarriers, commitMapper, commitPower, commitSig,
    commitIntake, commitEst, commitRau, commitLane, commitConfiguration]

@[simp] theorem commitWork_applyPending (n : FrameNo) (s : State) : (commitWork n s).applyPending = false := by
  simp [commitWork, commitFarFault, commitPort, State.setPortCarriers, commitMapper, commitPower, commitSig,
    commitIntake, commitEst, commitRau, commitLane, commitConfiguration]

/-! ### The staged set -/

/-- While an APPLY is pending, the staged set passes the checks that it passed then. -/
def StagedChecked (pending : Bool) (x : StagedSet) : Prop :=
  pending = true → stagedTableOk x = true ∧ ∀ c, LimitsFit x.tableLength (x.carriers.get c)

theorem slots_of_setIfInBounds (slots : Vector (Option ProfileRecord) 12) (i p : Nat) (r : Option ProfileRecord) :
    (slots.setIfInBounds i r)[p]? = if i = p ∧ p < 12 then some r else slots[p]? := by
  rw [Vector.getElem?_setIfInBounds]
  split
  · next h =>
    subst h
    split <;> simp_all
  · next h => simp [h]

theorem stagedInRange_write {pending : Bool} {x y : StagedSet} (h : StagedWrite pending x y) (hx : StagedInRange x) :
    StagedInRange y := by
  obtain ⟨hlink, hcarriers, hclasses, hlen, hslots⟩ := hx
  cases h with
  | link payload l h => exact ⟨(linkInRange_of_readLink h).1, hcarriers, hclasses, hlen, hslots⟩
  | carrier payload c p h =>
    refine ⟨hlink, fun d => ?_, hclasses, hlen, hslots⟩
    rw [Four.get_set]
    split
    · exact (carrierInRange_of_readCarrierParams h).1
    · exact hcarriers d
  | profile slot payload r h =>
    refine ⟨hlink, hcarriers, hclasses, hlen, fun p q hq => ?_⟩
    rw [slots_of_setIfInBounds] at hq
    split at hq
    · next hp =>
      obtain ⟨rfl, -⟩ := hp
      cases hq
      exact (profileInRange_of_readProfile h).2.1
    · exact hslots p q hq
  | length n h => exact ⟨hlink, hcarriers, hclasses, h, hslots⟩
  | cls payload k r h =>
    refine ⟨hlink, hcarriers, fun j => ?_, hlen, hslots⟩
    rw [Eight.get_set]
    split
    · exact (classInRange_of_readClass h).1
    · exact hclasses j

theorem changesLimits_eq_false_iff (p q : CarrierParams) :
    changesLimits p q = false ↔ q.enable = p.enable ∧ q.rxCeiling = p.rxCeiling ∧ q.txCeiling = p.txCeiling := by
  simp only [changesLimits, Bool.or_eq_false_iff, decide_eq_false_iff_not, ne_eq, not_not, and_assoc,
    eq_comm (a := p.enable), eq_comm (a := p.rxCeiling), eq_comm (a := p.txCeiling)]

theorem limitsFit_congr {T : Nat} {p q : CarrierParams}
    (h : q.enable = p.enable ∧ q.rxCeiling = p.rxCeiling ∧ q.txCeiling = p.txCeiling) (hp : LimitsFit T p) :
    LimitsFit T q := by
  obtain ⟨he, hrx, htx⟩ := h
  unfold LimitsFit
  rw [he, hrx, htx]
  exact hp

theorem stagedChecked_write {pending : Bool} {x y : StagedSet} (h : StagedWrite pending x y)
    (hx : StagedChecked pending x) : StagedChecked pending y := by
  intro hp
  obtain ⟨htable, hlimits⟩ := hx hp
  cases h with
  | link payload l h => exact ⟨htable, hlimits⟩
  | carrier payload c p h hsame =>
    refine ⟨htable, fun d => ?_⟩
    rw [Four.get_set]
    split
    · next hd => exact limitsFit_congr ((changesLimits_eq_false_iff _ _).1 (hsame hp)) (hlimits c)
    · exact hlimits d
  | profile slot payload r h hidle => rw [hp] at hidle; cases hidle
  | length n h hidle => rw [hp] at hidle; cases hidle
  | cls payload k r h => exact ⟨htable, hlimits⟩

/-! ### APPLY and the commit -/

theorem limitsFit_of_carrierLimitsOk {s : State} {c : Carrier} (h : carrierLimitsOk s c = true) :
    LimitsFit s.staged.tableLength (s.staged.carriers.get c) := by
  intro he
  simp only [carrierLimitsOk, he, Bool.not_true, Bool.false_or, Bool.and_eq_true, decide_eq_true_eq] at h
  obtain ⟨⟨⟨h2, hrx⟩, htx⟩, -⟩ := h
  exact ⟨h2, hrx, htx⟩

theorem carrierLimitsOk_of_limitsOk {s : State} (h : limitsOk s = true) (c : Carrier) : carrierLimitsOk s c = true :=
  List.all_eq_true.1 h c c.mem_all

/-- What a checked staged set becomes: a working set with the staged length and a table that passes R58. -/
theorem stagedAsWorking_of_checked {x : StagedSet} (hx : StagedInRange x) (h : stagedTableOk x = true) :
    ∃ table, stagedAsWorking x = { link := x.link, carriers := x.carriers, table := table, classes := x.classes } ∧
      tableOk table = true ∧ table.length = x.tableLength ∧
      ∀ p, p < x.tableLength → x.slots[p]? = some table[p]? := by
  obtain ⟨table, htable, hok⟩ := (stagedTableOk_iff x).1 h
  have hlen : x.tableLength ≤ 12 := hx.2.2.2.1
  exact ⟨table, by simp [stagedAsWorking, htable], hok, (stagedTable_eq_some_iff hlen table).1 htable⟩

theorem workingInRange_stagedAsWorking {x : StagedSet} (hx : StagedInRange x) (h : stagedTableOk x = true) :
    WorkingInRange (stagedAsWorking x) := by
  obtain ⟨table, e, -, hlen, hslots⟩ := stagedAsWorking_of_checked hx h
  obtain ⟨hlink, hcarriers, hclasses, hmax, hrange⟩ := hx
  rw [e]
  refine ⟨hlink, hcarriers, hclasses, hlen.trans_le hmax, fun p r hr => hrange p r ?_⟩
  obtain ⟨hp, -⟩ := List.getElem?_eq_some_iff.1 hr
  rw [hslots p (hlen ▸ hp)]
  exact congrArg some hr

/-- The length of the table that a checked staged set becomes. -/
theorem stagedAsWorking_length {x : StagedSet} (hx : StagedInRange x) (h : stagedTableOk x = true) :
    (stagedAsWorking x).length = x.tableLength := by
  obtain ⟨table, e, -, hlen, -⟩ := stagedAsWorking_of_checked hx h
  rw [e]
  exact hlen

theorem configSound_commitWork (n : FrameNo) {s : State} (hs : ConfigSound s) (hp : s.applyPending = true) :
    ConfigSound (commitWork n s) := by
  obtain ⟨hstaged, -, -, -, hchecked⟩ := hs
  obtain ⟨htable, hlimits⟩ := hchecked hp
  obtain ⟨table, e, hok, hlen, -⟩ := stagedAsWorking_of_checked hstaged htable
  refine ⟨?_, ?_, ?_, fun c => ?_, fun h => ?_⟩
  · rw [commitWork_staged]; exact hstaged
  · rw [commitWork_working]; exact workingInRange_stagedAsWorking hstaged htable
  · rw [commitWork_working, e]; exact hok
  · rw [commitWork_working, State.params_eq, commitWork_working, stagedAsWorking_length hstaged htable]
    exact hlimits c
  · rw [commitWork_applyPending] at h; cases h

/-! ### Every operation -/

theorem configSound_of_eq {s t : State} (hstaged : t.staged = s.staged) (hworking : t.working = s.working)
    (hp : t.applyPending = s.applyPending) (hs : ConfigSound s) : ConfigSound t := by
  unfold ConfigSound at *
  rw [hstaged, hp, show t.params = s.params by funext c; rw [State.params_eq, State.params_eq, hworking], hworking]
  exact hs

theorem configSound_setCombineMode (c : Carrier) (m : CombiningMode) {s : State} (hs : ConfigSound s) :
    ConfigSound (setCombineMode c m s) := by
  obtain ⟨⟨hlink, hcarriers, hclasses, hlen, hslots⟩, ⟨hlink', hcarriers', hclasses', hlen', hslots'⟩, htable, hlimits,
    hchecked⟩ := hs
  have range (f : Four CarrierParams) (hf : ∀ d, CarrierInRange (f.get d)) (d : Carrier) :
      CarrierInRange ((f.set c { f.get c with mode := m }).get d) := by
    rw [Four.get_set]
    split
    · exact hf c
    · exact hf d
  have limits (T : Nat) (f : Four CarrierParams) (hf : ∀ d, LimitsFit T (f.get d)) (d : Carrier) :
      LimitsFit T ((f.set c { f.get c with mode := m }).get d) := by
    rw [Four.get_set]
    split
    · exact hf c
    · exact hf d
  have hboth : ConfigSound ((s.setWorking { s.working with
      carriers := s.working.carriers.set c { s.params c with mode := m } }).setStaged { s.staged with
      carriers := s.staged.carriers.set c { s.staged.carriers.get c with mode := m } }) :=
    ⟨⟨hlink, range _ hcarriers, hclasses, hlen, hslots⟩, ⟨hlink', range _ hcarriers', hclasses', hlen', hslots'⟩,
      htable, limits _ _ hlimits, fun hp => ⟨(hchecked hp).1, limits _ _ (hchecked hp).2⟩⟩
  unfold setCombineMode
  dsimp only
  split
  · exact hboth
  · exact hboth

theorem configSound_default (t : State) (hstaged : StagedInRange t.staged) (hworking : t.working = .default)
    (hp : t.applyPending = false) : ConfigSound t := by
  have hlink : LinkInRange LinkParams.default := by unfold LinkInRange; decide
  have hcarrier : CarrierInRange CarrierParams.default := by unfold CarrierInRange; decide
  have hclass : ClassInRange ClassRecord.default := by simp [ClassInRange, ClassRecord.default]
  refine ⟨hstaged, ?_, by rw [hworking]; rfl, fun c he => ?_, fun h => by rw [hp] at h; cases h⟩
  · rw [hworking]
    refine ⟨hlink, fun c => ?_, fun k => ?_, by decide, fun p r hr => by simp [WorkingSet.default] at hr⟩
    · cases c <;> exact hcarrier
    · cases k <;> exact hclass
  · rw [State.params_eq, hworking] at he
    cases c <;> cases he

theorem stagedInRange_default : StagedInRange StagedSet.default := by
  have hlink : LinkInRange LinkParams.default := by unfold LinkInRange; decide
  have hcarrier : CarrierInRange CarrierParams.default := by unfold CarrierInRange; decide
  have hclass : ClassInRange ClassRecord.default := by simp [ClassInRange, ClassRecord.default]
  refine ⟨hlink, fun c => ?_, fun k => ?_, by decide, fun p r hr => ?_⟩
  · cases c <;> exact hcarrier
  · cases k <;> exact hclass
  · simp [StagedSet.default, Vector.getElem?_replicate] at hr

theorem configSound_piece {s t : State} (h : Piece s t) (hs : ConfigSound s) : ConfigSound t := by
  cases h with
  | commit n _ hp => exact configSound_commitWork n hs hp
  | report c => exact configSound_of_eq rfl rfl rfl hs
  | notice c => exact configSound_of_eq (by simp) (by simp) (by simp) hs
  | laneStep3 n => exact configSound_of_eq (by simp) (by simp) (by simp) hs
  | laneStep4 n => exact configSound_of_eq (by simp) (by simp) (by simp) hs
  | restored n =>
    exact configSound_of_eq (by simp [restored, restoredPort]) (by simp [restored, restoredPort])
      (by simp [restored, restoredPort]) hs
  | port | events | grace | mapper | power | rau | laneStep1 | scan | atten => exact hs

theorem configSound_effect {i : Instr} {s t : State} (h : Effect i s t) (hs : ConfigSound s) : ConfigSound t := by
  cases h with
  | frameStart n order => exact (pieces_takeFrameStart n order s).keeps (fun _ _ => configSound_piece) hs
  | commit n _ hp => exact configSound_commitWork n hs hp
  | powerOn => exact configSound_default _ stagedInRange_default rfl rfl
  | reset => exact configSound_default _ hs.1 rfl rfl
  | staged x h =>
    obtain ⟨hstaged, hworking, htable, hlimits, hchecked⟩ := hs
    exact ⟨stagedInRange_write h hstaged, hworking, htable, hlimits, stagedChecked_write h hchecked⟩
  | applied ht hl =>
    obtain ⟨hstaged, hworking, htable, hlimits, -⟩ := hs
    exact ⟨hstaged, hworking, htable, hlimits, fun _ =>
      ⟨ht, fun c => limitsFit_of_carrierLimitsOk (carrierLimitsOk_of_limitsOk hl c)⟩⟩
  | combine c m => exact configSound_setCombineMode c m hs
  | report c => exact configSound_of_eq rfl rfl rfl hs
  | field c f => exact configSound_of_eq (by simp) (by simp) (by simp) hs
  | powerShadow c => unfold loadPowerShadow; split <;> exact hs
  | frameLoss => exact configSound_of_eq (by simp) (by simp) (by simp) hs
  | faultLevel v => exact configSound_of_eq (by simp) (by simp) (by simp) hs
  | abort => exact configSound_of_eq (by simp) (by simp) (by simp) hs
  | resume => exact configSound_of_eq (by simp) (by simp) (by simp) hs
  | port | intake | events | hml | freeCount | graceExpiry | window | rxSwitch | timeout | announcementSwitch | mapShadow
  | hostPause | txHold => exact hs

/-- Settles O6: a staging message writes a record in range, APPLY raises the flag on a checked set, and a commit puts
that set in force. -/
theorem configurationStaysChecked : Obligations.ConfigurationStaysChecked := fun _ _ hs h =>
  step_keeps (fun _ => id) (fun _ _ _ _ => configSound_effect) hs h

end Sys2Proof.Machine
end

section
/-! The receive contexts (R70 to R96): each operation of the Receive Adaptation Unit keeps the ranges, the bounds and the
step rules of a context. A context's soundness is split into what its request must meet and what the rest must. -/
namespace Sys2Proof.Machine

/-! ### The two parts of a sound context -/

/-- No request stands: no kind, no target, and the answer timer stopped. -/
def RequestClosed (x : RxContext) : Prop := x.request.kind = .none ∧ x.request.target = none ∧ x.timer = none

/-- A request stands that keeps the step rules against a profile and the bounds, its answer timer running. -/
def RequestOpen (T ceiling : Nat) (x : RxContext) : Prop :=
  ∃ t timer, x.request.target = some t ∧ x.timer = some timer ∧ timer ≤ 255 ∧ t ≤ ceiling ∧ t < T ∧
    (x.request.kind = .up ∧ t = x.active + 1 ∨ (x.request.kind = .down ∨ x.request.kind = .urgent) ∧ t < x.active)

/-- What a context's request must meet: it is open in WORKING only. -/
def RequestPart (T ceiling : Nat) (x : RxContext) : Prop :=
  RequestClosed x ∨ x.phase = .working ∧ RequestOpen T ceiling x

/-- The ranges of the profile, the switch, the hold count and the guard. -/
def RangesPart (T : Nat) (x : RxContext) : Prop :=
  (x.active < T ∨ x.active = 0) ∧ (∀ a ∈ x.armed, a.next < T ∧ 1 ≤ a.remaining ∧ a.remaining ≤ 7) ∧
  x.hold ≤ 32760 ∧ (x.m = 1 ∨ x.m = 2 ∨ x.m = 4 ∨ x.m = 8) ∧ x.upCounter ≤ 65535

/-- What the phase says of the carrier and of the link. -/
def PhasePart (enabled lost : Bool) (x : RxContext) : Prop :=
  (x.phase = .standby ↔ enabled = false) ∧ (enabled = false → x.active = 0 ∧ x.armed = none) ∧
  (lost = true → x.phase ≠ .working ∧ x.armed = none)

theorem requestPart_iff (T ceiling : Nat) (x : RxContext) :
    RequestPart T ceiling x ↔ RequestSound x ∧ (∀ t ∈ x.request.target, t ≤ ceiling ∧ t < T) ∧
      (x.phase ≠ .working → x.request.kind = .none) := by
  unfold RequestSound RequestPart RequestClosed RequestOpen
  generalize x.request.kind = kind, x.request.target = target, x.timer = timer, x.active = active, x.phase = phase
  cases kind with
  | none => cases target <;> cases timer <;> simp
  | up => cases target <;> cases timer <;> simp; by_cases phase = .working <;> simp_all; omega
  | down => cases target <;> cases timer <;> simp; by_cases phase = .working <;> simp_all; omega
  | urgent => cases target <;> cases timer <;> simp; by_cases phase = .working <;> simp_all; omega

theorem rxContextSound_iff (T ceiling : Nat) (enabled lost : Bool) (x : RxContext) :
    RxContextSound T ceiling enabled lost x ↔
      RequestPart T ceiling x ∧ RangesPart T x ∧ PhasePart enabled lost x := by
  rw [requestPart_iff]
  constructor
  · rintro ⟨hrule, hbound, ha, har, hh, hm, hu, hphase, hstandby, hoff, hlost⟩
    exact ⟨⟨hrule, hbound, hphase⟩, ⟨ha, har, hh, hm, hu⟩, hstandby, hoff, hlost⟩
  · rintro ⟨⟨hrule, hbound, hphase⟩, ⟨ha, har, hh, hm, hu⟩, hstandby, hoff, hlost⟩
    exact ⟨hrule, hbound, ha, har, hh, hm, hu, hphase, hstandby, hoff, hlost⟩

/-! ### The standing request -/

theorem replaceByNone_closed (x : RxContext) : RequestClosed (replaceByNone x) := ⟨rfl, rfl, rfl⟩

theorem closeRequest_closed (x : RxContext) : RequestClosed (closeRequest x) := ⟨rfl, rfl, rfl⟩

theorem requestClosed_of_kind {T ceiling : Nat} {x : RxContext} (h : RequestPart T ceiling x)
    (hk : x.request.kind = .none) : RequestClosed x := by
  rcases h with h | ⟨-, t, timer, -, -, -, -, -, ⟨h, -⟩ | ⟨h | h, -⟩⟩
  · exact h
  all_goals rw [hk] at h; cases h

theorem cancelRequest_closed {T ceiling : Nat} {x : RxContext} (h : RequestPart T ceiling x) :
    RequestClosed (cancelRequest x) := by
  unfold cancelRequest
  split
  · exact replaceByNone_closed x
  · next ho => exact requestClosed_of_kind h (by simpa [isOpen] using ho)

/-- The request stands as it was, and the profile, the phase and the timer with it. -/
theorem requestPart_congr {T ceiling : Nat} {x y : RxContext} (hr : y.request = x.request) (ht : y.timer = x.timer)
    (ha : y.active = x.active) (hp : y.phase = x.phase) (h : RequestPart T ceiling x) : RequestPart T ceiling y := by
  unfold RequestPart RequestClosed RequestOpen at *
  rw [hr, ht, ha, hp]
  exact h

theorem requestClosed_congr {x y : RxContext} (hr : y.request = x.request) (ht : y.timer = x.timer)
    (h : RequestClosed x) : RequestClosed y := by
  unfold RequestClosed at *
  rw [hr, ht]
  exact h

/-- Rebased, a request keeps the step rules whatever profile it was asked on (R91). -/
theorem rebaseRequest_part {T ceiling : Nat} {x y : RxContext} (hr : y.request = x.request) (ht : y.timer = x.timer)
    (hp : y.phase = x.phase) (h : RequestPart T ceiling x) : RequestPart T ceiling (rebaseRequest y) := by
  rcases h with hclosed | ⟨hphase, t, timer, htarget, htimer, hmax, hceil, hT, hkind⟩
  · have hc : RequestClosed y := requestClosed_congr hr ht hclosed
    have : rebaseRequest y = y := by simp [rebaseRequest, hc.1]
    rw [this]
    exact .inl hc
  · have hopen : isOpen y = true := by
      rw [isOpen, hr]
      rcases hkind with ⟨hk, -⟩ | ⟨hk | hk, -⟩ <;> simp [hk]
    have hcancel : RequestPart T ceiling (cancelRequest y) := by
      rw [cancelRequest, if_pos hopen]
      exact .inl (replaceByNone_closed y)
    have hstands (hrule : y.request.kind = .up ∧ t = y.active + 1 ∨
        (y.request.kind = .down ∨ y.request.kind = .urgent) ∧ t < y.active) : RequestPart T ceiling y :=
      .inr ⟨hp.trans hphase, t, timer, by rw [hr]; exact htarget, by rw [ht]; exact htimer, hmax, hceil, hT, hrule⟩
    unfold rebaseRequest
    rw [hr, htarget]
    rcases hkind with ⟨hk, -⟩ | ⟨hk | hk, -⟩
    · rw [hk]
      dsimp only
      split
      · next hrule => exact hstands (.inl ⟨by rw [hr]; exact hk, hrule⟩)
      · exact hcancel
    · rw [hk]
      dsimp only
      split
      · next hrule => exact hstands (.inr ⟨.inl (by rw [hr]; exact hk), hrule⟩)
      · exact hcancel
    · rw [hk]
      dsimp only
      split
      · next hrule => exact hstands (.inr ⟨.inr (by rw [hr]; exact hk), hrule⟩)
      · exact hcancel

/-! ### What the request's operations leave -/

/-- The items beside the request, its timer, the memory and the answers. -/
def SameRest (x y : RxContext) : Prop :=
  y.active = x.active ∧ y.armed = x.armed ∧ y.hold = x.hold ∧ y.m = x.m ∧ y.upCounter = x.upCounter ∧ y.phase = x.phase

theorem SameRest.ranges {T : Nat} {x y : RxContext} (h : SameRest x y) (hx : RangesPart T x) : RangesPart T y := by
  obtain ⟨ha, har, hh, hm, hu, -⟩ := h
  unfold RangesPart at *
  rw [ha, har, hh, hm, hu]
  exact hx

theorem SameRest.phasePart {enabled lost : Bool} {x y : RxContext} (h : SameRest x y) (hx : PhasePart enabled lost x) :
    PhasePart enabled lost y := by
  obtain ⟨ha, har, -, -, -, hp⟩ := h
  unfold PhasePart at *
  rw [ha, har, hp]
  exact hx

theorem SameRest.trans {x y z : RxContext} (h1 : SameRest x y) (h2 : SameRest y z) : SameRest x z := by
  obtain ⟨a1, b1, c1, d1, e1, f1⟩ := h1
  obtain ⟨a2, b2, c2, d2, e2, f2⟩ := h2
  exact ⟨a2.trans a1, b2.trans b1, c2.trans c1, d2.trans d1, e2.trans e1, f2.trans f1⟩

theorem cancelRequest_sameRest (x : RxContext) : SameRest x (cancelRequest x) := by simp [SameRest]

theorem rebaseRequest_sameRest (x : RxContext) : SameRest x (rebaseRequest x) := by
  unfold rebaseRequest
  repeat' split
  all_goals first | exact cancelRequest_sameRest x | exact ⟨rfl, rfl, rfl, rfl, rfl, rfl⟩

/-! ### The environment -/

/-- The bounds that the working set gives the receive unit of an enabled carrier. -/
def EnvFits (env : RxEnv) : Prop :=
  env.link.holdFrames ≤ 4095 ∧ env.link.answerTimeout ≤ 255 ∧ env.ceiling < env.table.length

theorem envFits_rxEnv {s : State} (hs : ConfigSound s) {c : Carrier} (hc : s.enabled c = true) :
    EnvFits (rxEnv s c) := by
  obtain ⟨-, ⟨⟨-, -, -, -, -, -, -, -, -, -, hhold, -, -, htimeout, -⟩, -⟩, -, hlimits, -⟩ := hs
  exact ⟨hhold.2, htimeout.2, (hlimits c hc).2.1⟩

section
variable {env : RxEnv} {x : RxContext} (henv : EnvFits env)
include henv

theorem holdFrames_mul_le {m : Nat} (hm : m = 1 ∨ m = 2 ∨ m = 4 ∨ m = 8) : env.link.holdFrames * m ≤ 32760 :=
  Nat.mul_le_mul henv.1 (show m ≤ 8 by omega)

theorem rangesPart_reloadHold (hx : RangesPart env.table.length x) : RangesPart env.table.length (reloadHold env x) := by
  obtain ⟨ha, har, -, hm, hu⟩ := hx
  exact ⟨ha, har, holdFrames_mul_le henv hm, hm, hu⟩

theorem rangesPart_reloadUnlessPaused (hx : RangesPart env.table.length x) :
    RangesPart env.table.length (reloadUnlessPaused env x) := by
  unfold reloadUnlessPaused
  split
  · exact hx
  · exact rangesPart_reloadHold henv hx

/-! ### The evaluation of a report -/

/-- A sound context of an enabled carrier in service, in its two parts that move. -/
def Served (env : RxEnv) (x : RxContext) : Prop :=
  RequestPart env.table.length env.ceiling x ∧ RangesPart env.table.length x

omit henv in
theorem reloadUnlessPaused_part {T ceiling : Nat} (hx : RequestPart T ceiling x) :
    RequestPart T ceiling (reloadUnlessPaused env x) := by
  unfold reloadUnlessPaused
  split
  · exact hx
  · exact requestPart_congr rfl rfl rfl rfl hx

/-- A decision that the step rules and the bounds allow. -/
def Allowed (env : RxEnv) (a : Nat) (d : Option (ReqKind × Nat)) : Prop :=
  ∀ k t, d = some (k, t) → t ≤ env.ceiling ∧ t < env.table.length ∧
    (k = .up ∧ t = a + 1 ∨ (k = .down ∨ k = .urgent) ∧ t < a)

omit henv in
theorem downgradeKind_eq (a t : Nat) (h : Handover) : downgradeKind env a t h = .down ∨ downgradeKind env a t h = .urgent := by
  unfold downgradeKind
  split
  · exact .inr rfl
  · exact .inl rfl

omit henv in
theorem allowed_downgrade {a t : Nat} {h : Handover} (ht : downgradeTarget env a h = some t)
    (ha : a < env.table.length ∨ a = 0) : Allowed env a (some (downgradeKind env a t h, t)) := by
  intro k t' e
  cases e
  obtain ⟨hlt, hle⟩ := downgradeTarget_lt env a h t ht
  exact ⟨hle, by omega, .inr ⟨downgradeKind_eq a t h, hlt⟩⟩

theorem upgradeTest_served (pr : Int) (hx : Served env x) :
    Served env (upgradeTest env pr x).1 ∧ (upgradeTest env pr x).1.active = x.active ∧
      (upgradeTest env pr x).1.phase = x.phase ∧ Allowed env x.active (upgradeTest env pr x).2 := by
  have hnone : Allowed env x.active none := fun k t e => by cases e
  unfold upgradeTest
  split
  · exact ⟨hx, rfl, rfl, hnone⟩
  · split
    · exact ⟨hx, rfl, rfl, hnone⟩
    · next hceil =>
      split
      · exact ⟨hx, rfl, rfl, hnone⟩
      · split
        · exact ⟨⟨requestPart_congr rfl rfl rfl rfl hx.1, rangesPart_reloadHold henv hx.2⟩, rfl, rfl, hnone⟩
        · obtain ⟨hreq, ha, har, hh, hm, hu⟩ := hx
          refine ⟨⟨requestPart_congr rfl rfl rfl rfl hreq, ha, har, by dsimp only; omega, hm, hu⟩, rfl, rfl, ?_⟩
          intro k t e
          dsimp only at e
          split at e
          · cases e
            have := henv.2.2
            exact ⟨by omega, by omega, .inl ⟨rfl, rfl⟩⟩
          · cases e

theorem decide76_served (h : Handover) (hx : Served env x) :
    Served env (decide76 env h x).1 ∧ (decide76 env h x).1.active = x.active ∧
      (decide76 env h x).1.phase = x.phase ∧ Allowed env x.active (decide76 env h x).2 := by
  have ha : x.active < env.table.length ∨ x.active = 0 := hx.2.1
  unfold decide76
  split
  · next t ht _ =>
    have hy : (reloadUnlessPaused env x).active = x.active ∧ (reloadUnlessPaused env x).phase = x.phase := by
      unfold reloadUnlessPaused
      split <;> exact ⟨rfl, rfl⟩
    exact ⟨⟨reloadUnlessPaused_part hx.1, rangesPart_reloadUnlessPaused henv hx.2⟩, hy.1, hy.2, allowed_downgrade ht ha⟩
  · next t ar ht _ =>
    refine ⟨hx, rfl, rfl, ?_⟩
    dsimp only
    split
    · exact allowed_downgrade ht ha
    · exact fun k t e => by cases e
  · exact upgradeTest_served henv h.pr hx
  · exact ⟨hx, rfl, rfl, fun k t e => by cases e⟩

omit henv in
theorem allowed_passMemory {d : Option (ReqKind × Nat)} {a : Nat} (hd : Allowed env a d) :
    Allowed env a (passMemory env x d) := by
  intro k t e
  unfold passMemory at e
  split at e
  · split at e
    · cases e
    · exact hd k t e
  · cases e

theorem applyDecision_served {d : Option (ReqKind × Nat)} (hd : Allowed env x.active d) (hphase : x.phase = .working)
    (hx : Served env x) : Served env (applyDecision env d x) ∧ (applyDecision env d x).phase = x.phase := by
  unfold applyDecision
  split
  · next k t =>
    split
    · exact ⟨hx, rfl⟩
    · obtain ⟨hceil, hT, hkind⟩ := hd k t rfl
      exact ⟨⟨.inr ⟨hphase, t, 0, rfl, rfl, by omega, hceil, hT, hkind⟩, hx.2⟩, rfl⟩
  · split
    · refine ⟨⟨reloadUnlessPaused_part (.inl (cancelRequest_closed hx.1)),
        rangesPart_reloadUnlessPaused henv ((cancelRequest_sameRest x).ranges hx.2)⟩, ?_⟩
      unfold reloadUnlessPaused
      split <;> simp [reloadHold]
    · exact ⟨hx, rfl⟩

theorem evaluateReport_served (h : Handover) (hphase : x.phase = .working) (hx : Served env x) :
    Served env (evaluateReport env h x) ∧ (evaluateReport env h x).phase = x.phase := by
  obtain ⟨hy, hactive, hp, hd⟩ := decide76_served henv h hx
  rw [← hactive] at hd
  obtain ⟨hz, hpz⟩ := applyDecision_served henv (allowed_passMemory (x := (decide76 env h x).1) hd) (hp.trans hphase) hy
  exact ⟨hz, hpz.trans hp⟩

end

/-! ### Soundness under each operation -/

/-- Soundness of a context under its environment. -/
abbrev RxSound (env : RxEnv) (enabled lost : Bool) (x : RxContext) : Prop :=
  RxContextSound env.table.length env.ceiling enabled lost x

theorem enabled_of_phase {enabled lost : Bool} {x : RxContext} (h : PhasePart enabled lost x) (hp : x.phase ≠ .standby) :
    enabled = true := by
  cases enabled with
  | true => rfl
  | false => exact absurd (h.1.2 rfl) hp

theorem phasePart_working {x : RxContext} (hp : x.phase ≠ .standby) : PhasePart true false x :=
  ⟨by simpa using hp, by simp, by simp⟩

/-- A context in service of a running link is sound when its two moving parts are. -/
theorem rxSound_of_served {env : RxEnv} {x : RxContext} (hx : Served env x) (hp : x.phase ≠ .standby) :
    RxSound env true false x := (rxContextSound_iff _ _ _ _ _).2 ⟨hx.1, hx.2, phasePart_working hp⟩

theorem served_of_rxSound {env : RxEnv} {enabled lost : Bool} {x : RxContext} (hx : RxSound env enabled lost x) :
    Served env x ∧ PhasePart enabled lost x := by
  obtain ⟨h1, h2, h3⟩ := (rxContextSound_iff _ _ _ _ _).1 hx
  exact ⟨⟨h1, h2⟩, h3⟩

/-- An operation on contexts in service, which leaves those in STANDBY and keeps the two parts of the others. -/
theorem rxSound_of_inService {env : RxEnv} {enabled : Bool} {x y : RxContext} (henv : enabled = true → EnvFits env)
    (hx : RxSound env enabled false x) (hstandby : x.phase = .standby → y = x)
    (hserved : EnvFits env → x.phase ≠ .standby → Served env x → Served env y ∧ y.phase ≠ .standby) :
    RxSound env enabled false y := by
  by_cases hp : x.phase = .standby
  · rw [hstandby hp]; exact hx
  · obtain ⟨hs, hphase⟩ := served_of_rxSound hx
    obtain rfl := enabled_of_phase hphase hp
    obtain ⟨hy, hpy⟩ := hserved (henv rfl) hp hs
    exact rxSound_of_served hy hpy

theorem passToWorking_served {env : RxEnv} {x : RxContext} (henv : EnvFits env) (hx : Served env x)
    (hp : x.phase ≠ .working) : Served env (passToWorking env x) := by
  have hclosed : RequestClosed x := hx.1.resolve_right fun h => hp h.1
  exact ⟨.inl hclosed, rangesPart_reloadHold (x := { x with phase := .working }) henv hx.2⟩

theorem rxSound_takeHandover {env : RxEnv} {enabled : Bool} {x : RxContext} (henv : enabled = true → EnvFits env)
    (h : Handover) (hx : RxSound env enabled false x) : RxSound env enabled false (takeHandover env h x) := by
  refine rxSound_of_inService henv hx (fun hp => by simp [takeHandover, hp]) fun henv hp hs => ?_
  unfold takeHandover
  split
  · next hphase =>
    split
    · exact ⟨passToWorking_served henv hs (by simp [hphase]), by simp [passToWorking, reloadHold]⟩
    · exact ⟨hs, hp⟩
  · next hphase =>
    split
    · obtain ⟨hy, hpy⟩ := evaluateReport_served henv h hphase hs
      exact ⟨hy, by rw [hpy]; exact hp⟩
    · exact ⟨hs, hp⟩
  · exact ⟨hs, hp⟩
  · exact ⟨hs, hp⟩

/-! ### Switches -/

theorem guardSwitch_m {old new : Nat} {x : RxContext} (hm : x.m = 1 ∨ x.m = 2 ∨ x.m = 4 ∨ x.m = 8) :
    (guardSwitch old new x).m = 1 ∨ (guardSwitch old new x).m = 2 ∨ (guardSwitch old new x).m = 4 ∨
      (guardSwitch old new x).m = 8 := by
  unfold guardSwitch
  split
  · exact hm
  · split
    · dsimp only; omega
    · exact hm

/-- The guard leaves everything but m, its counter and itself. -/
theorem guardSwitch_eq (old new : Nat) (x : RxContext) :
    guardSwitch old new x = { x with m := (guardSwitch old new x).m, upCounter := (guardSwitch old new x).upCounter,
                                     guardOpen := (guardSwitch old new x).guardOpen } := by
  unfold guardSwitch
  repeat' split
  all_goals rfl

theorem guardSwitch_upCounter {old new : Nat} {x : RxContext} (h : x.upCounter ≤ 65535) :
    (guardSwitch old new x).upCounter ≤ 65535 := by
  unfold guardSwitch
  split
  · exact Nat.zero_le _
  · split <;> exact h

theorem switchTo_served {env : RxEnv} {x : RxContext} {next : Nat} (henv : EnvFits env) (hx : Served env x)
    (hnext : next < env.table.length) :
    Served env (switchTo env next x).1 ∧ (switchTo env next x).1.phase = x.phase := by
  obtain ⟨hreq, ha, har, hh, hm, hu⟩ := hx
  unfold switchTo
  split
  · exact ⟨⟨requestPart_congr rfl rfl rfl rfl hreq, ha, by simp, hh, hm, hu⟩, rfl⟩
  · have hranges : RangesPart env.table.length
        (reloadHold env (guardSwitch x.active next { x with armed := none, active := next })) := by
      refine rangesPart_reloadHold henv ?_
      rw [guardSwitch_eq]
      exact ⟨.inl hnext, by simp, hh, guardSwitch_m hm, guardSwitch_upCounter hu⟩
    have hsame := rebaseRequest_sameRest
      (reloadHold env (guardSwitch x.active next { x with armed := none, active := next }))
    refine ⟨⟨rebaseRequest_part (x := x) ?_ ?_ ?_ hreq, hsame.ranges hranges⟩, hsame.2.2.2.2.2.trans ?_⟩
    all_goals rw [reloadHold, guardSwitch_eq]

theorem slipTo_served {env : RxEnv} {x : RxContext} {profile : Nat} (henv : EnvFits env) (hx : Served env x)
    (hp : profile < env.table.length) :
    Served env (slipTo env profile x).1 ∧ (slipTo env profile x).1.phase = x.phase := by
  obtain ⟨hreq, ha, har, hh, hm, hu⟩ := hx
  have hranges : RangesPart env.table.length (reloadHold env { x with active := profile }) :=
    rangesPart_reloadHold henv ⟨.inl hp, har, hh, hm, hu⟩
  have hsame := rebaseRequest_sameRest (reloadHold env { x with active := profile })
  exact ⟨⟨rebaseRequest_part (x := x) rfl rfl rfl hreq, hsame.ranges hranges⟩, hsame.2.2.2.2.2⟩

/-! ### Taking a valid field -/

/-- What validity says of the parts that the receive unit reads (R101). -/
def PartsFit (T : Nat) (p : FieldParts) : Prop :=
  p.active < T ∧ (p.next ≠ 15 → p.next < T ∧ 1 ≤ p.count) ∧ p.count ≤ 7

theorem partsFit_of_fieldValid {T : Nat} {f : RawField} (h : fieldValid T f = true) : PartsFit T (fieldParts f) := by
  simp only [fieldValid, Bool.and_eq_true, Bool.or_eq_true, decide_eq_true_eq] at h
  obtain ⟨⟨⟨⟨⟨-, -⟩, hactive⟩, hnext⟩, -⟩, -⟩ := h
  refine ⟨hactive, fun hne => ?_, ?_⟩
  · rcases hnext with ⟨h15, -⟩ | hnext
    · exact absurd h15 hne
    · exact hnext
  · have := (f.b1.extractLsb' 1 3).isLt
    simp only [fieldParts]
    omega

theorem noteAnswer_same (kind : AnsKind) (seq : Seq) (x : RxContext) :
    noteAnswer kind seq x = { x with lastAnswer := (noteAnswer kind seq x).lastAnswer,
                                     consumed := (noteAnswer kind seq x).consumed } := by
  cases kind <;> rfl

theorem noteAnswer_served {env : RxEnv} {kind : AnsKind} {seq : Seq} {x : RxContext} (hx : Served env x) :
    Served env (noteAnswer kind seq x) ∧ (noteAnswer kind seq x).phase = x.phase := by
  rw [noteAnswer_same]
  exact ⟨⟨requestPart_congr rfl rfl rfl rfl hx.1, hx.2⟩, rfl⟩

theorem withdrawSwitch_served {env : RxEnv} {grant : Option Grant} {x : RxContext} (henv : EnvFits env)
    (hx : Served env x) : Served env (withdrawSwitch env grant x) ∧ (withdrawSwitch env grant x).phase = x.phase := by
  obtain ⟨hreq, ha, har, hh, hm, hu⟩ := hx
  have hranges : RangesPart env.table.length { x with armed := none } := ⟨ha, by simp, hh, hm, hu⟩
  have hstands : Served env { x with armed := none } := ⟨requestPart_congr rfl rfl rfl rfl hreq, hranges⟩
  unfold withdrawSwitch
  dsimp only
  split
  · next g =>
    split
    · split
      · next hc =>
        simp only [Bool.and_eq_true, decide_eq_true_eq] at hc
        obtain ⟨⟨⟨hphase, -⟩, htarget⟩, hceil⟩ := hc
        have := henv.2.2
        exact ⟨⟨.inr ⟨hphase, g.target, 0, rfl, rfl, by omega, hceil, by omega, .inl ⟨rfl, htarget⟩⟩, hranges⟩, rfl⟩
      · exact ⟨⟨.inl (replaceByNone_closed _), hranges⟩, rfl⟩
    · exact ⟨hstands, rfl⟩
  · exact ⟨hstands, rfl⟩

theorem takeAnnouncement_served {env : RxEnv} {p : FieldParts} {x : RxContext} (henv : EnvFits env)
    (hp : PartsFit env.table.length p) (hx : Served env x) :
    Served env (takeAnnouncement env p x).1 ∧ (takeAnnouncement env p x).1.phase = x.phase := by
  unfold takeAnnouncement
  split
  · split
    · exact ⟨hx, rfl⟩
    · next ar har =>
      split
      · exact switchTo_served henv hx (hx.2.2.1 ar har).1
      · exact withdrawSwitch_served henv hx
  · next hne =>
    obtain ⟨hreq, ha, -, hh, hm, hu⟩ := hx
    obtain ⟨hnext, hcount⟩ := hp.2.1 hne
    refine ⟨⟨requestPart_congr rfl rfl rfl rfl hreq, ha, fun a e => ?_, hh, hm, hu⟩, rfl⟩
    cases e
    exact ⟨hnext, hcount, hp.2.2⟩

theorem closeRequest_served {env : RxEnv} {x : RxContext} (hx : Served env x) : Served env (closeRequest x) :=
  ⟨.inl (closeRequest_closed x), hx.2⟩

theorem takeAnswer_served {env : RxEnv} {kind : AnsKind} {seq : Seq} {x : RxContext} (henv : EnvFits env)
    (hx : Served env x) : Served env (takeAnswer env kind seq x) ∧ (takeAnswer env kind seq x).phase = x.phase := by
  unfold takeAnswer
  split
  · next ho =>
    have hopen : x.request.kind ≠ .none := by
      simp only [Bool.and_eq_true, isOpen, decide_eq_true_eq] at ho
      exact ho.1
    split
    · split
      · next ar t har _ =>
        obtain ⟨hreq, ha, hars, hrest⟩ := hx
        refine ⟨⟨.inl (closeRequest_closed _), ha, fun a e => ?_, hrest⟩, rfl⟩
        cases e
        exact hars ar har
      · exact ⟨hx, rfl⟩
    · rcases hx.1 with hclosed | ⟨hphase, t, timer, htarget, -, -, hrule⟩
      · exact absurd hclosed.1 hopen
      · exact ⟨⟨.inr ⟨hphase, t, 0, htarget, rfl, by omega, hrule⟩, hx.2⟩, rfl⟩
    · dsimp only
      have hclosed (y : RxContext) (hy : y.phase = x.phase) (hserved : Served env y) :
          Served env (if x.request.kind = .up then reloadUnlessPaused env (closeRequest y) else closeRequest y) ∧
          (if x.request.kind = .up then reloadUnlessPaused env (closeRequest y) else closeRequest y).phase = x.phase := by
        have hcy := closeRequest_served hserved
        split
        · refine ⟨⟨reloadUnlessPaused_part hcy.1, rangesPart_reloadUnlessPaused henv hcy.2⟩, ?_⟩
          unfold reloadUnlessPaused
          split <;> exact hy
        · exact ⟨hcy, hy⟩
      refine hclosed _ ?_ ?_
      · split <;> rfl
      · split
        · exact ⟨requestPart_congr rfl rfl rfl rfl hx.1, hx.2⟩
        · exact hx
    · exact ⟨hx, rfl⟩
    · exact ⟨hx, rfl⟩
  · exact ⟨hx, rfl⟩

theorem slipTest_served {env : RxEnv} {active : Nat} {x : RxContext} (henv : EnvFits env)
    (ha : active < env.table.length) (hx : Served env x) :
    Served env (slipTest env active x).1 ∧ (slipTest env active x).1.phase = x.phase := by
  unfold slipTest
  split
  · exact slipTo_served henv hx ha
  · exact ⟨hx, rfl⟩

theorem noteLinked_served {env : RxEnv} {seeded : Bool} {x : RxContext} (henv : EnvFits env) (hx : Served env x) :
    Served env (noteLinked env seeded x) := by
  have hlinked : Served env { x with linked := true } := ⟨requestPart_congr rfl rfl rfl rfl hx.1, hx.2⟩
  unfold noteLinked
  split
  · next hc =>
    simp only [Bool.and_eq_true, decide_eq_true_eq] at hc
    exact passToWorking_served henv hlinked (by simp [hc.1])
  · exact hlinked

theorem noteLinked_phase {env : RxEnv} {seeded : Bool} {x : RxContext} (hp : x.phase ≠ .standby) :
    (noteLinked env seeded x).phase ≠ .standby := by
  unfold noteLinked
  split
  · simp [passToWorking, reloadHold]
  · exact hp

theorem rxSound_takeField {env : RxEnv} {enabled seeded : Bool} {p : FieldParts} {ans : AnsKind} {x : RxContext}
    (henv : enabled = true → EnvFits env) (hp : PartsFit env.table.length p) (hx : RxSound env enabled false x) :
    RxSound env enabled false (takeField env seeded p ans x).1 := by
  refine rxSound_of_inService henv hx (fun hp => by simp [takeField, hp]) fun henv hphase hs => ?_
  rw [takeField, if_neg hphase]
  obtain ⟨h1, hp1⟩ := noteAnswer_served (kind := ans) (seq := p.ansSeq) hs
  obtain ⟨h2, hp2⟩ := takeAnnouncement_served henv hp h1
  obtain ⟨h3, hp3⟩ := takeAnswer_served (kind := ans) (seq := p.ansSeq) henv h2
  obtain ⟨h4, hp4⟩ := slipTest_served henv hp.1 h3
  refine ⟨noteLinked_served henv h4, noteLinked_phase ?_⟩
  rw [hp4, hp3, hp2, hp1]
  exact hphase

/-! ### Frame-start work -/

theorem guardTick_served {env : RxEnv} {x : RxContext} (hx : Served env x) :
    Served env (guardTick env x) ∧ (guardTick env x).phase = x.phase := by
  obtain ⟨hreq, ha, har, hh, hm, -⟩ := hx
  unfold guardTick
  split
  · exact ⟨⟨requestPart_congr rfl rfl rfl rfl hreq, ha, har, hh, by dsimp only; omega, Nat.min_le_left ..⟩, rfl⟩
  · exact ⟨⟨requestPart_congr rfl rfl rfl rfl hreq, ha, har, hh, hm, Nat.min_le_left ..⟩, rfl⟩

theorem armedTick_served {env : RxEnv} {x : RxContext} (henv : EnvFits env) (hx : Served env x) :
    Served env (armedTick env x).1 ∧ (armedTick env x).1.phase = x.phase := by
  unfold armedTick
  split
  · next ar har =>
    obtain ⟨hnext, hlo, hhi⟩ := hx.2.2.1 ar har
    split
    · exact switchTo_served henv hx hnext
    · next hdue =>
      have hcount : 2 ≤ ar.remaining := by
        simp only [switchDue, har, decide_eq_true_eq] at hdue
        omega
      obtain ⟨hreq, ha, -, hrest⟩ := hx
      refine ⟨⟨requestPart_congr rfl rfl rfl rfl hreq, ha, fun a e => ?_, hrest⟩, rfl⟩
      cases e
      exact ⟨hnext, by dsimp only; omega, by dsimp only; omega⟩
  · exact ⟨hx, rfl⟩

theorem timerTick_served {env : RxEnv} {x : RxContext} (henv : EnvFits env) (hx : Served env x) :
    Served env (timerTick env x).1 ∧ (timerTick env x).1.phase = x.phase := by
  unfold timerTick
  split
  · next t ht =>
    split
    · have hcancel : Served env (cancelRequest x) :=
        ⟨.inl (cancelRequest_closed hx.1), (cancelRequest_sameRest x).ranges hx.2⟩
      unfold timeOut
      dsimp only
      split
      · refine ⟨⟨reloadUnlessPaused_part hcancel.1, rangesPart_reloadUnlessPaused henv hcancel.2⟩, ?_⟩
        unfold reloadUnlessPaused
        split <;> simp [reloadHold]
      · exact ⟨hcancel, cancelRequest_phase x⟩
    · next hdue =>
      have hlt : t + 1 ≤ 255 := by
        have := henv.2.1
        simp only [timeoutDue, ht, decide_eq_true_eq] at hdue
        omega
      rcases hx.1 with ⟨-, -, hnone⟩ | ⟨hphase, target, timer, htarget, -, -, hrule⟩
      · rw [ht] at hnone; cases hnone
      · exact ⟨⟨.inr ⟨hphase, target, t + 1, htarget, rfl, hlt, hrule⟩, hx.2⟩, rfl⟩
  · exact ⟨hx, rfl⟩

theorem rxSound_rxFrameWork {env : RxEnv} {enabled : Bool} {x : RxContext} (henv : enabled = true → EnvFits env)
    (hx : RxSound env enabled false x) : RxSound env enabled false (rxFrameWork env x).1 := by
  refine rxSound_of_inService henv hx (fun hp => by simp [rxFrameWork, hp]) fun henv hphase hs => ?_
  rw [rxFrameWork, if_neg hphase]
  obtain ⟨h1, hp1⟩ := guardTick_served hs
  obtain ⟨h2, hp2⟩ := armedTick_served henv h1
  obtain ⟨h3, hp3⟩ := timerTick_served henv h2
  refine ⟨h3, ?_⟩
  rw [hp3, hp2, hp1]
  exact hphase

/-! ### Commits, losses, abort and resume -/

theorem rxSound_cancelRequest {env : RxEnv} {enabled lost : Bool} {x : RxContext} (hx : RxSound env enabled lost x) :
    RxSound env enabled lost (cancelRequest x) := by
  obtain ⟨⟨hreq, hranges⟩, hphase⟩ := served_of_rxSound hx
  have hsame := cancelRequest_sameRest x
  exact (rxContextSound_iff _ _ _ _ _).2
    ⟨.inl (cancelRequest_closed hreq), hsame.ranges hranges, hsame.phasePart hphase⟩

theorem rxSound_reloadHold {env : RxEnv} {lost : Bool} {x : RxContext} (henv : EnvFits env)
    (hx : RxSound env true lost x) : RxSound env true lost (reloadHold env x) := by
  obtain ⟨⟨hreq, hranges⟩, hphase⟩ := served_of_rxSound hx
  exact (rxContextSound_iff _ _ _ _ _).2
    ⟨requestPart_congr rfl rfl rfl rfl hreq, rangesPart_reloadHold henv hranges, hphase⟩

theorem rxSound_hostPause {T ceiling : Nat} {enabled lost v : Bool} {x : RxContext}
    (hx : RxContextSound T ceiling enabled lost x) :
    RxContextSound T ceiling enabled lost { x with hostPause := v } := hx

theorem rxSound_rxFrameLoss {T ceiling : Nat} {x : RxContext} (hx : RxContextSound T ceiling true false x) :
    RxContextSound T ceiling true true (rxFrameLoss x) := by
  obtain ⟨hreq, hranges, -⟩ := (rxContextSound_iff _ _ _ _ _).1 hx
  have hclosed := cancelRequest_closed hreq
  obtain ⟨ha, -, hh, hm, hu⟩ := (cancelRequest_sameRest x).ranges hranges
  exact (rxContextSound_iff _ _ _ _ _).2 ⟨.inl ⟨hclosed.1, hclosed.2.1, rfl⟩, ⟨ha, by simp [rxFrameLoss], hh, hm, hu⟩,
    by simp [rxFrameLoss], by simp, by simp [rxFrameLoss]⟩

theorem rxSound_rxSigLoss {T ceiling : Nat} {enabled lost : Bool} {x : RxContext}
    (hx : RxContextSound T ceiling enabled lost x) : RxContextSound T ceiling enabled lost (rxSigLoss x) := by
  have hlost (hp : x.phase ≠ .standby) : RxContextSound T ceiling enabled lost { cancelRequest x with phase := .siglost } := by
    obtain ⟨hreq, hranges, hphase⟩ := (rxContextSound_iff _ _ _ _ _).1 hx
    obtain rfl := enabled_of_phase hphase hp
    have hranges' := (cancelRequest_sameRest x).ranges hranges
    have harmed : lost = true → x.armed = none := fun h => (hphase.2.2 h).2
    exact (rxContextSound_iff _ _ _ _ _).2 ⟨.inl (cancelRequest_closed hreq), hranges', by simp, by simp,
      fun h => ⟨by simp, by simpa using harmed h⟩⟩
  unfold rxSigLoss
  split
  · next hp => exact hlost (by simp [hp])
  · next hp => exact hlost (by simp [hp])
  · exact hx
  · exact hx

theorem rxSound_rxSigRecovery {T ceiling : Nat} {enabled lost : Bool} {x : RxContext}
    (hx : RxContextSound T ceiling enabled lost x) : RxContextSound T ceiling enabled lost (rxSigRecovery x) := by
  unfold rxSigRecovery
  split
  · next hp =>
    obtain ⟨hreq, hranges, hphase⟩ := (rxContextSound_iff _ _ _ _ _).1 hx
    obtain rfl := enabled_of_phase hphase (by simp [hp])
    have hclosed : RequestClosed x := hreq.resolve_right fun h => by rw [hp] at h; cases h.1
    exact (rxContextSound_iff _ _ _ _ _).2 ⟨.inl hclosed, hranges, by simp, by simp,
      fun h => ⟨by simp, (hphase.2.2 h).2⟩⟩
  · exact hx
  · exact hx
  · exact hx

/-- Cleared to P0, a context with no request is sound for every table and ceiling. -/
theorem rxSound_clearContext {T T' ceiling ceiling' : Nat} {enabled enabled' lost lost' : Bool} {x : RxContext}
    (phase : RxPhase) (hx : RxContextSound T ceiling enabled lost x) (hk : x.request.kind = .none)
    (hphase : phase = .standby ∧ enabled' = false ∨ phase = .acquire ∧ enabled' = true) :
    RxContextSound T' ceiling' enabled' lost' { clearContext x with phase := phase } := by
  obtain ⟨hreq, ⟨-, -, hh, -⟩, -⟩ := (rxContextSound_iff _ _ _ _ _).1 hx
  obtain ⟨hkind, htarget, -⟩ := requestClosed_of_kind hreq hk
  refine (rxContextSound_iff _ _ _ _ _).2 ⟨.inl ⟨hkind, htarget, rfl⟩, ⟨.inr rfl, by simp [clearContext], hh, .inl rfl,
    le_rfl⟩, ?_⟩
  rcases hphase with ⟨rfl, rfl⟩ | ⟨rfl, rfl⟩ <;> simp [PhasePart, clearContext]

/-! A commit on a carrier enabled throughout is three tests and a reload (R73). -/

/-- An RX active profile that the new table does not hold slips to P0. -/
def slipAbsent (env : RxEnv) (x : RxContext) : RxContext × List Report :=
  if env.table.length ≤ x.active then slipTo env 0 x else (x, [])

/-- An armed switch to a profile that the new table does not hold goes. -/
def dropAbsentSwitch (env : RxEnv) (x : RxContext) : RxContext :=
  match x.armed with
  | some ar => if env.table.length ≤ ar.next then { x with armed := none } else x
  | none => x

/-- A request above the new ceiling is cancelled. -/
def dropHighRequest (env : RxEnv) (x : RxContext) : RxContext :=
  match x.request.target with
  | some t => if env.ceiling < t then cancelRequest x else x
  | none => x

theorem rxCommit_stays (env : RxEnv) (x : RxContext) :
    rxCommit env true true x =
      (reloadHold env (dropHighRequest env (dropAbsentSwitch env (slipAbsent env x).1)), (slipAbsent env x).2) := rfl

/-- Sound but for the bounds of a table and a ceiling that a commit has just replaced. -/
def Carried (T ceiling : Nat) (x : RxContext) : Prop :=
  RequestPart T ceiling x ∧ x.phase ≠ .standby ∧
  (∀ a ∈ x.armed, 1 ≤ a.remaining ∧ a.remaining ≤ 7) ∧ (x.m = 1 ∨ x.m = 2 ∨ x.m = 4 ∨ x.m = 8) ∧ x.upCounter ≤ 65535

theorem Carried.of_sameRest {T ceiling T' ceiling' : Nat} {x y : RxContext} (h : SameRest x y)
    (hy : RequestPart T' ceiling' y) (hx : Carried T ceiling x) : Carried T' ceiling' y := by
  obtain ⟨-, har, -, hm, hu, hp⟩ := h
  obtain ⟨-, hservice, hrange, hguard⟩ := hx
  exact ⟨hy, by rw [hp]; exact hservice, by rw [har]; exact hrange, by rw [hm, hu]; exact hguard⟩

section
variable {env : RxEnv} {T ceiling : Nat} {x : RxContext} (henv : EnvFits env)
include henv

theorem carried_slipAbsent (hx : Carried T ceiling x) :
    Carried T ceiling (slipAbsent env x).1 ∧ (slipAbsent env x).1.active < env.table.length := by
  unfold slipAbsent
  split
  · obtain ⟨hreq, hservice, hrange, hguard⟩ := hx
    have hsame := rebaseRequest_sameRest (reloadHold env { x with active := 0 })
    have hcarried : Carried T ceiling (slipTo env 0 x).1 := by
      obtain ⟨-, har, -, hm, hu, hp⟩ := hsame
      exact ⟨rebaseRequest_part (x := x) rfl rfl rfl hreq, hp.trans_ne hservice,
        fun a h => hrange a (har.symm.trans h), by rw [slipTo, hm, hu]; exact hguard⟩
    have hactive : (slipTo env 0 x).1.active = 0 := hsame.1
    have := henv.2.2
    exact ⟨hcarried, by omega⟩
  · exact ⟨hx, by dsimp only; omega⟩

omit henv in
theorem carried_dropAbsentSwitch (hx : Carried T ceiling x) :
    Carried T ceiling (dropAbsentSwitch env x) ∧ (dropAbsentSwitch env x).active = x.active ∧
      ∀ a ∈ (dropAbsentSwitch env x).armed, a.next < env.table.length := by
  obtain ⟨hreq, hservice, hrange, hguard⟩ := hx
  unfold dropAbsentSwitch
  split
  · next ar har =>
    split
    · exact ⟨⟨requestPart_congr rfl rfl rfl rfl hreq, hservice, by simp, hguard⟩, rfl, by simp⟩
    · refine ⟨⟨hreq, hservice, hrange, hguard⟩, rfl, fun a h => ?_⟩
      rw [har] at h
      cases h
      omega
  · next har => exact ⟨⟨hreq, hservice, hrange, hguard⟩, rfl, by simp [har]⟩

theorem carried_dropHighRequest (hx : Carried T ceiling x) :
    Carried env.table.length env.ceiling (dropHighRequest env x) ∧ SameRest x (dropHighRequest env x) := by
  have hstands (h : RequestPart env.table.length env.ceiling x) :
      Carried env.table.length env.ceiling x ∧ SameRest x x :=
    have hsame : SameRest x x := ⟨rfl, rfl, rfl, rfl, rfl, rfl⟩
    ⟨hx.of_sameRest hsame h, hsame⟩
  unfold dropHighRequest
  split
  · next t htarget =>
    split
    · have hsame := cancelRequest_sameRest x
      exact ⟨hx.of_sameRest hsame (.inl (cancelRequest_closed hx.1)), hsame⟩
    · refine hstands (hx.1.imp_right ?_)
      rintro ⟨hphase, t', timer, htarget', htimer, hmax, -, -, hrule⟩
      rw [htarget] at htarget'
      cases htarget'
      have := henv.2.2
      exact ⟨hphase, t, timer, htarget, htimer, hmax, by omega, by omega, hrule⟩
  · next htarget =>
    refine hstands (.inl (hx.1.resolve_right ?_))
    rintro ⟨-, t, -, hsome, -⟩
    rw [htarget] at hsome
    cases hsome

/-- A commit on a carrier enabled throughout, from whatever table and ceiling (R73). -/
theorem rxSound_rxCommit_stays (hx : RxContextSound T ceiling true false x) :
    RxSound env true false (rxCommit env true true x).1 := by
  obtain ⟨hreq, ⟨-, har, -, hm, hu⟩, hphase⟩ := (rxContextSound_iff _ _ _ _ _).1 hx
  have hservice : x.phase ≠ .standby := fun h => by have := hphase.1.1 h; cases this
  obtain ⟨h1, ha1⟩ := carried_slipAbsent henv ⟨hreq, hservice, fun a h => (har a h).2, hm, hu⟩
  obtain ⟨h2, ha2, har2⟩ := carried_dropAbsentSwitch (env := env) h1
  obtain ⟨⟨hreq3, hservice3, hrange3, hm3, hu3⟩, ha3, har3, -⟩ := carried_dropHighRequest henv h2
  rw [rxCommit_stays]
  refine rxSound_of_served ⟨requestPart_congr rfl rfl rfl rfl hreq3, ?_, ?_, ?_, hm3, hu3⟩ hservice3
  · exact .inl (ha3.trans ha2 ▸ ha1)
  · exact fun a h => ⟨har2 a (har3 ▸ h), hrange3 a h⟩
  · exact holdFrames_mul_le henv hm3

end

theorem rxSound_rxCommit {env : RxEnv} {T ceiling : Nat} {old new : Bool} {x : RxContext} (henv : new = true → EnvFits env)
    (hx : RxContextSound T ceiling old false x) : RxSound env new false (rxCommit env old new x).1 := by
  obtain ⟨hreq, hranges, hphase⟩ := (rxContextSound_iff _ _ _ _ _).1 hx
  match old, new with
  | false, true =>
    have hstandby := hphase.1.2 rfl
    have hclosed : RequestClosed x := hreq.resolve_right fun h => by rw [hstandby] at h; cases h.1
    exact rxSound_clearContext .acquire hx hclosed.1 (.inr ⟨rfl, rfl⟩)
  | true, false =>
    have hcancel : RxContextSound T ceiling true false (cancelRequest x) :=
      (rxContextSound_iff _ _ _ _ _).2 ⟨.inl (cancelRequest_closed hreq), (cancelRequest_sameRest x).ranges hranges,
        (cancelRequest_sameRest x).phasePart hphase⟩
    exact rxSound_clearContext .standby hcancel (cancelRequest_kind x) (.inl ⟨rfl, rfl⟩)
  | true, true => exact rxSound_rxCommit_stays (henv rfl) hx
  | false, false =>
    have hstandby := hphase.1.2 rfl
    have hclosed : RequestClosed x := hreq.resolve_right fun h => by rw [hstandby] at h; cases h.1
    obtain ⟨hactive, harmed⟩ := hphase.2.1 rfl
    exact (rxContextSound_iff _ _ _ _ _).2
      ⟨.inl hclosed, ⟨.inr hactive, by simp [rxCommit, harmed], hranges.2.2⟩, hphase⟩

end Sys2Proof.Machine
end

section
/-! Every receive context stays sound: each operation of a step writes contexts by the unit's own operations. -/
namespace Sys2Proof.Machine

/-- The contexts are sound when each is, under the working set and the link of the state before. -/
theorem receiveSound_of_contexts {s t : State} (hw : t.working = s.working) (hl : t.port.link = s.port.link)
    (h : ∀ c, RxContextSound s.working.length (s.params c).rxCeiling (s.enabled c) (s.port.link = .frameLost)
      (t.rau.get c)) : ReceiveSound t := by
  intro c
  rw [State.enabled_eq, State.params_eq, hw, hl]
  exact h c

theorem receiveSound_of_eq {s t : State} (hw : t.working = s.working) (hl : t.port.link = s.port.link)
    (hr : t.rau = s.rau) (hs : ReceiveSound s) : ReceiveSound t :=
  receiveSound_of_contexts hw hl fun c => by rw [hr]; exact hs c

/-- One context rewritten, soundly. -/
theorem receiveSound_set {s : State} {c : Carrier} {x : RxContext} (hs : ReceiveSound s)
    (hx : RxContextSound s.working.length (s.params c).rxCeiling (s.enabled c) (s.port.link = .frameLost) x) :
    ReceiveSound (s.setRau (s.rau.set c x)) := by
  refine receiveSound_of_contexts rfl rfl fun d => ?_
  rw [State.setRau_rau, Four.get_set]
  split
  · next hd => rw [hd]; exact hx
  · exact hs d

/-! ### The operations that write a context -/

/-- A sound context of a running link, under its environment. -/
theorem rxSound_of_running {s : State} (hs : ReceiveSound s) (hlink : s.port.link = .running) (c : Carrier) :
    RxSound (rxEnv s c) (s.enabled c) false (s.rau.get c) := by
  have := hs c
  rw [hlink] at this
  exact this

theorem lost_eq_false {s : State} (hlink : s.port.link = .running) : decide (s.port.link = .frameLost) = false := by
  rw [hlink]
  decide

theorem receiveSound_set_running {s : State} {c : Carrier} {x : RxContext} (hs : ReceiveSound s)
    (hlink : s.port.link = .running) (hx : RxSound (rxEnv s c) (s.enabled c) false x) :
    ReceiveSound (s.setRau (s.rau.set c x)) := by
  refine receiveSound_set hs ?_
  rw [lost_eq_false hlink]
  exact hx

theorem receiveSound_takeReport (c : Carrier) (a b : Option BranchPart) (errors : Nat) {s : State} (hcfg : ConfigSound s)
    (hs : ReceiveSound s) (hlink : s.port.link = .running) : ReceiveSound (takeReport c a b errors s) := by
  have h (handed : Handover) := rxSound_takeHandover (envFits_rxEnv hcfg (c := c)) handed
    (rxSound_of_running hs hlink c)
  exact receiveSound_of_eq (s := s.setRau (s.rau.set c _)) rfl rfl rfl (receiveSound_set_running hs hlink (h _))

theorem State.enabled_congr {s t : State} (h : t.working = s.working) (c : Carrier) : t.enabled c = s.enabled c := by
  rw [State.enabled_eq, State.enabled_eq, h]

theorem onEnabledRau_rau (s : State) (f : Carrier → RxContext → RxContext) (c : Carrier) :
    (onEnabledRau s f).rau.get c = if s.enabled c = true then f c (s.rau.get c) else s.rau.get c := by
  simp [onEnabledRau]

theorem linkAbort_rau_get (cause : AbortCause) (s : State) (c : Carrier) :
    (linkAbort cause s).rau.get c = if s.enabled c = true then cancelRequest (s.rau.get c) else s.rau.get c := by
  unfold linkAbort
  dsimp only
  rw [settleHolds_rau, onEnabledRau_rau, State.enabled_congr (abortLane_working _), abortLane_rau]
  rfl

theorem receiveSound_linkAbort (cause : AbortCause) {s : State} (hs : ReceiveSound s) :
    ReceiveSound (linkAbort cause s) := by
  refine receiveSound_of_contexts (linkAbort_working ..) (by rw [linkAbort_port]) fun c => ?_
  rw [linkAbort_rau_get]
  split
  · exact rxSound_cancelRequest (env := rxEnv s c) (hs c)
  · exact hs c

theorem receiveSound_rederiveDemand (held : Bool) (cause : AbortCause) {s : State} (hs : ReceiveSound s) :
    ReceiveSound (rederiveDemand held cause s) := by
  unfold rederiveDemand
  split
  · exact receiveSound_linkAbort cause hs
  · exact hs

theorem receiveSound_takeEquipFault (c : Carrier) (v : Bool) {s : State} (hs : ReceiveSound s) :
    ReceiveSound (takeEquipFault c v s) := by
  unfold takeEquipFault
  split
  · exact receiveSound_rederiveDemand _ _ (s := (storeFarFault c true s).report _) hs
  · exact hs

theorem receiveSound_takeFaultLevel (v : Bool) {s : State} (hs : ReceiveSound s) : ReceiveSound (takeFaultLevel v s) := by
  unfold takeFaultLevel
  split
  · exact hs
  · dsimp only
    split
    · exact receiveSound_rederiveDemand _ _ (s := (s.setFault _).report _) hs
    · exact hs

theorem receiveSound_routeToReceive (c : Carrier) {p : FieldParts} (ans : AnsKind) {s : State} (hcfg : ConfigSound s)
    (hp : PartsFit s.working.table.length p) (hs : ReceiveSound s) (hlink : s.port.link = .running) :
    ReceiveSound (routeToReceive c p ans s) := by
  have h := rxSound_takeField (seeded := (s.est.get c).seeded) (ans := ans) (envFits_rxEnv hcfg (c := c)) hp
    (rxSound_of_running hs hlink c)
  exact receiveSound_of_eq (s := s.setRau (s.rau.set c _)) rfl rfl rfl (receiveSound_set_running hs hlink h)

theorem configSound_takeEquipFault (c : Carrier) (v : Bool) {s : State} (hs : ConfigSound s) :
    ConfigSound (takeEquipFault c v s) := configSound_of_eq (by simp) (by simp) (by simp) hs

section
variable (c : Carrier) {p : FieldParts} (ans : AnsKind) {s : State} (hcfg : ConfigSound s)
  (hp : PartsFit s.working.table.length p) (hs : ReceiveSound s) (hlink : s.port.link = .running)
include hcfg hp hs hlink

theorem receiveSound_routePart : ReceiveSound (routePart c p ans s) :=
  receiveSound_routeToReceive c ans (configSound_takeEquipFault c _ hcfg) (by rw [takeEquipFault_working]; exact hp)
    (receiveSound_takeEquipFault c _ hs) (by rw [takeEquipFault_port]; exact hlink)

theorem receiveSound_routeFull : ReceiveSound (routeFull c p ans s) :=
  receiveSound_of_eq (s := routePart c p ans s) (by simp [routeFull, routePart, routeToLane])
    (by simp [routeFull, routePart, routeToLane]) (by simp [routeFull, routePart, routeToLane])
    (receiveSound_routePart c ans hcfg hp hs hlink)

end

theorem receiveSound_recoverSig (c : Carrier) {s : State} (hs : ReceiveSound s) : ReceiveSound (recoverSig c s) :=
  receiveSound_of_eq (s := s.setRau (s.rau.set c (rxSigRecovery (s.rau.get c)))) rfl rfl rfl
    (receiveSound_set hs (rxSound_rxSigRecovery (hs c)))

theorem receiveSound_enterSigLost (c : Carrier) {s : State} (hs : ReceiveSound s) : ReceiveSound (enterSigLost c s) :=
  receiveSound_of_eq (s := s.setRau (s.rau.set c (rxSigLoss (s.rau.get c)))) (by simp) (by simp) (by simp [enterSigLost])
    (receiveSound_set hs (rxSound_rxSigLoss (hs c)))

theorem receiveSound_takeInvalid (c : Carrier) {s : State} (hs : ReceiveSound s) : ReceiveSound (takeInvalid c s) := by
  unfold takeInvalid
  dsimp only
  split
  · exact hs
  · split
    · exact receiveSound_enterSigLost c hs
    · exact hs

theorem receiveSound_takeValid (c : Carrier) {f : RawField} (ans : AnsKind) {s : State} (hcfg : ConfigSound s)
    (hf : fieldValid s.working.table.length f = true) (hs : ReceiveSound s) (hlink : s.port.link = .running) :
    ReceiveSound (takeValid c f ans s) := by
  have hp := partsFit_of_fieldValid hf
  unfold takeValid
  dsimp only
  split
  · split
    · refine receiveSound_routeFull c ans (s := recoverSig c (storeSig c _ s)) ?_ hp ?_ hlink
      · exact hcfg
      · exact receiveSound_recoverSig c (s := storeSig c _ s) hs
    · exact receiveSound_routePart c ans (s := storeSig c _ s) hcfg hp hs hlink
  · exact receiveSound_routeFull c ans (s := storeSig c _ s) hcfg hp hs hlink

theorem receiveSound_handField (c : Carrier) (f : Option RawField) {s : State} (hcfg : ConfigSound s)
    (hs : ReceiveSound s) (hlink : s.port.link = .running) : ReceiveSound (handField c f s) := by
  unfold handField
  split
  · exact receiveSound_takeInvalid c hs
  · split
    · next hf =>
      split
      · exact receiveSound_takeValid c _ hcfg hf hs hlink
      · exact receiveSound_takeInvalid c hs
    · exact receiveSound_takeInvalid c hs

theorem receiveSound_rauWork {s : State} (hcfg : ConfigSound s) (hs : ReceiveSound s) (hlink : s.port.link = .running) :
    ReceiveSound (rauWork s) := by
  refine receiveSound_of_contexts (s := s) rfl rfl fun c => ?_
  rw [lost_eq_false hlink]
  have h := rxSound_rxFrameWork (envFits_rxEnv hcfg (c := c)) (rxSound_of_running hs hlink c)
  have e : (rauWork s).rau.get c = (rxFrameWork (rxEnv s c) (s.rau.get c)).1 := by simp [rauWork, perCarrier]
  rw [e]
  exact h

/-! ### The commit -/

/-- The state in which the receive unit finds the commit: the new working set, and the lane's part done. -/
def committedLane (s : State) : State := commitLane s.working (commitConfiguration s)

@[simp] theorem committedLane_working (s : State) : (committedLane s).working = stagedAsWorking s.staged := rfl

/-- The commit with every block's part done, before the abort that it may raise. -/
def commitParts (n : FrameNo) (s : State) : State :=
  commitFarFault s.working (commitPort s.working (commitMapper s.working n (commitPower s.working
    (commitSig s.working (commitIntake s.working (commitMonitor s.working (commitEst s.working (commitRau s.working
      (committedLane s)))))))))

theorem commitWork_eq (n : FrameNo) (s : State) :
    commitWork n s = rederiveAfterCommit (abortDemand s) (commitParts n s) := rfl

theorem commitParts_rau (n : FrameNo) (s : State) (c : Carrier) :
    (commitParts n s).rau.get c =
      (rxCommit (rxEnv (committedLane s) c) (s.enabled c) ((committedLane s).enabled c) (s.rau.get c)).1 := by
  simp [commitParts, commitFarFault, commitPort, State.setPortCarriers, commitMapper, commitPower, commitSig,
    commitIntake, commitEst, commitRau, perCarrier]
  rfl

/-- A commit's context is the unit's part, and its request cancelled where the commit raises an abort (R72, R73,
R174). -/
theorem commitWork_rau (n : FrameNo) (s : State) (c : Carrier) :
    (commitWork n s).rau.get c = (commitParts n s).rau.get c ∨
    (commitWork n s).rau.get c = cancelRequest ((commitParts n s).rau.get c) := by
  rw [commitWork_eq]
  unfold rederiveAfterCommit
  split
  · rw [linkAbort_rau_get]
    split
    · exact .inr rfl
    · exact .inl rfl
  · exact .inl rfl

theorem receiveSound_commitWork (n : FrameNo) {s : State} (hcfg : ConfigSound s) (hp : s.applyPending = true)
    (hs : ReceiveSound s) (hlink : s.port.link = .running) : ReceiveSound (commitWork n s) := by
  have hcfg' := configSound_commitWork n hcfg hp
  have henv (c : Carrier) (hc : (committedLane s).enabled c = true) : EnvFits (rxEnv (committedLane s) c) := by
    have := envFits_rxEnv hcfg' (c := c) (by rw [State.enabled_eq, commitWork_working]; exact hc)
    unfold EnvFits rxEnv at this
    rw [State.params_eq, commitWork_working] at this
    exact this
  intro c
  rw [State.enabled_eq, State.params_eq, commitWork_working, commitWork_link, lost_eq_false hlink]
  have hx := rxSound_rxCommit (henv c) (rxSound_of_running hs hlink c)
  rw [← commitParts_rau n] at hx
  rcases commitWork_rau n s c with e | e
  · rw [e]; exact hx
  · rw [e]; exact rxSound_cancelRequest (env := rxEnv (committedLane s) c) hx

/-! ### Loss, restoration and the other writers -/

/-- The port's and the estimator's part of a frame loss: the link FRAME_LOST, muted, and every record unseeded (R5,
R20). -/
def lossMuted (s : State) : State :=
  lossEst (muteSettings ((s.setPort { s.port with link := .frameLost, watch := none }).report
    [{ kind := .frameLost, index := 0, edge := some .enter }]))

@[simp] theorem lossMuted_working (s : State) : (lossMuted s).working = s.working := muteSettings_working _

@[simp] theorem lossMuted_rau (s : State) : (lossMuted s).rau = s.rau := muteSettings_rau _

theorem takeFrameLoss_rau (s : State) (c : Carrier) :
    (takeFrameLoss s).rau.get c = if s.enabled c = true then rxFrameLoss (s.rau.get c) else s.rau.get c := by
  have h : (takeFrameLoss s).rau = (onEnabledRau (lossMuted s) fun _ x => rxFrameLoss x).rau := rfl
  rw [h, onEnabledRau_rau, State.enabled_congr (lossMuted_working s), lossMuted_rau]

theorem takeFrameLoss_link (s : State) : (takeFrameLoss s).port.link = .frameLost := by
  simp only [takeFrameLoss, lossSig, lossMapper, lossEst]
  simp only [State.setFault_port, State.report_port, State.setSig_port, State.setMapper_port, State.setPcu_port,
    State.setLane_port, onEnabledRau_port, State.setEst_port]
  unfold muteSettings
  split <;> rfl

theorem receiveSound_takeFrameLoss {s : State} (hs : ReceiveSound s) (hlink : s.port.link = .running) :
    ReceiveSound (takeFrameLoss s) := by
  intro c
  have hx := hs c
  rw [State.enabled_eq, State.params_eq, takeFrameLoss_working, takeFrameLoss_link, takeFrameLoss_rau]
  rw [lost_eq_false hlink] at hx
  split
  · next hc =>
    rw [hc] at hx
    rw [← State.enabled_eq, hc]
    exact rxSound_rxFrameLoss hx
  · next hc =>
    rw [Bool.not_eq_true] at hc
    rw [hc] at hx
    rw [← State.enabled_eq, hc]
    obtain ⟨hreq, hranges, hstandby, hoff, -⟩ := (rxContextSound_iff _ _ _ _ _).1 hx
    exact (rxContextSound_iff _ _ _ _ _).2
      ⟨hreq, hranges, hstandby, hoff, fun _ => ⟨by simp [hstandby.2 rfl], (hoff rfl).2⟩⟩

theorem restored_rau (n : FrameNo) (s : State) (c : Carrier) :
    (restored n s).rau.get c = if s.enabled c = true then { s.rau.get c with active := 0 } else s.rau.get c := by
  simp only [restored, restoreBlocks, State.setMapper_rau, settleHolds_rau, State.setLane_rau, onEnabledRau_rau]
  rfl

theorem receiveSound_restored (n : FrameNo) {s : State} (hs : ReceiveSound s) (hlost : s.port.link = .frameLost) :
    ReceiveSound (restored n s) := by
  intro c
  have hx := hs c
  rw [State.enabled_eq, State.params_eq, restored_link, restored_rau,
    show (restored n s).working = s.working by simp [restored, restoredPort], ← State.enabled_eq, ← State.params_eq]
  rw [hlost] at hx
  obtain ⟨hreq, ⟨-, hranges⟩, hstandby, hoff, hl⟩ := (rxContextSound_iff _ _ _ _ _).1 hx
  have hclosed : RequestClosed (s.rau.get c) := hreq.resolve_right fun h => (hl (by decide)).1 h.1
  split
  · next hc => exact (rxContextSound_iff _ _ _ _ _).2 ⟨.inl hclosed, ⟨.inr rfl, hranges⟩, hstandby,
      by simp [hc], by simp⟩
  · next hc =>
    have hoff' := hoff (by simpa using hc)
    exact (rxContextSound_iff _ _ _ _ _).2 ⟨.inl hclosed, ⟨.inr hoff'.1, hranges⟩, hstandby, hoff,
      by simp⟩

theorem receiveSound_linkResume {s : State} (hcfg : ConfigSound s) (hs : ReceiveSound s) : ReceiveSound (linkResume s) := by
  refine receiveSound_of_contexts (linkResume_working s) (by rw [linkResume_port]) fun c => ?_
  have e : (linkResume s).rau.get c =
      if s.enabled c = true then reloadHold (rxEnv s c) (s.rau.get c) else s.rau.get c := by
    simp only [linkResume, settleHolds_rau, onEnabledRau_rau]
    rfl
  rw [e]
  split
  · next hc =>
    have hx := hs c
    rw [hc] at hx ⊢
    exact rxSound_reloadHold (env := rxEnv s c) (envFits_rxEnv hcfg hc) hx
  · exact hs c

theorem receiveSound_setCombineMode (c : Carrier) (m : CombiningMode) {s : State} (hs : ReceiveSound s) :
    ReceiveSound (setCombineMode c m s) := by
  intro d
  have hx := hs d
  have hparams : ((setCombineMode c m s).params d).rxCeiling = (s.params d).rxCeiling ∧
      ((setCombineMode c m s).params d).enable = (s.params d).enable := by
    simp only [State.params_eq]
    unfold setCombineMode
    dsimp only
    split <;> simp [Four.get_set] <;> split <;> simp_all [State.params_eq]
  have hrest : (setCombineMode c m s).working.length = s.working.length ∧ (setCombineMode c m s).rau = s.rau ∧
      (setCombineMode c m s).port = s.port := by
    unfold setCombineMode
    dsimp only
    split <;> exact ⟨rfl, rfl, rfl⟩
  rw [hrest.1, hparams.1, hrest.2.1, hrest.2.2, show (setCombineMode c m s).enabled d = s.enabled d from hparams.2]
  exact hx

/-- A context as a reset leaves it is sound for a disabled carrier. -/
theorem receiveSound_initial {t : State} (hw : t.working = .default) (hr : t.rau = .fill .initial) (hl : t.port = .initial) :
    ReceiveSound t := by
  intro c
  rw [State.enabled_eq, State.params_eq, hw, hr, hl]
  cases c <;> simp [RxContextSound, RequestSound, RxContext.initial, WorkingSet.default, CarrierParams.default, Four.fill,
    Four.get, Port.initial]

theorem receiveSound_piece {s t : State} (h : Piece s t) (hcfg : ConfigSound s) (hs : ReceiveSound s) :
    ReceiveSound t := by
  cases h with
  | port p hl => exact receiveSound_of_eq (s := s) rfl hl rfl hs
  | report c hlink => exact receiveSound_takeReport c none none 0 hcfg hs hlink
  | notice c hlink => exact receiveSound_handField c none hcfg hs hlink
  | rau hlink => exact receiveSound_rauWork hcfg hs hlink
  | commit n hlink hp => exact receiveSound_commitWork n hcfg hp hs hlink
  | laneStep3 n => exact receiveSound_of_eq (by simp) (by simp) (by simp) hs
  | laneStep4 n => exact receiveSound_of_eq (by simp) (by simp) (by simp) hs
  | restored n hlost => exact receiveSound_restored n hs hlost
  | events | grace | mapper | power | laneStep1 | scan | atten => exact hs

theorem receiveSound_storeRau {s : State} {c : Carrier} {x : RxContext × List Report} (hcfg : ConfigSound s)
    (hs : ReceiveSound s) (hservice : inService s c = true)
    (hx : EnvFits (rxEnv s c) → Served (rxEnv s c) (s.rau.get c) →
      Served (rxEnv s c) x.1 ∧ x.1.phase = (s.rau.get c).phase) : ReceiveSound (storeRau c x s) := by
  have hlink := link_of_inService hservice
  have hphase : (s.rau.get c).phase ≠ .standby := by
    simp only [inService, Bool.and_eq_true, decide_eq_true_eq] at hservice
    exact hservice.2
  have hsound := rxSound_of_inService (y := x.1) (envFits_rxEnv hcfg (c := c)) (rxSound_of_running hs hlink c)
    (fun h => absurd h hphase) fun henv _ hserved => by
      obtain ⟨h1, h2⟩ := hx henv hserved
      exact ⟨h1, by rw [h2]; exact hphase⟩
  exact receiveSound_of_eq (s := s.setRau _) rfl rfl rfl (receiveSound_set_running hs hlink hsound)

theorem receiveSound_effect {i : Instr} {s t : State} (h : Effect i s t) (hcfg : ConfigSound s) (hs : ReceiveSound s) :
    ReceiveSound t := by
  cases h with
  | port p hl => exact receiveSound_of_eq (s := s) rfl hl rfl hs
  | report c a b errors hlink => exact receiveSound_takeReport c a b errors hcfg hs hlink
  | field c f hlink => exact receiveSound_handField c f hcfg hs hlink
  | frameStart n order =>
    exact ((pieces_takeFrameStart n order s).keeps (P := fun u => ConfigSound u ∧ ReceiveSound u)
      (fun _ _ hp hu => ⟨configSound_piece hp hu.1, receiveSound_piece hp hu.1 hu.2⟩) ⟨hcfg, hs⟩).2
  | window c hservice => exact receiveSound_storeRau hcfg hs hservice fun _ hx => guardTick_served hx
  | rxSwitch c hservice => exact receiveSound_storeRau hcfg hs hservice fun henv hx => armedTick_served henv hx
  | timeout c hservice => exact receiveSound_storeRau hcfg hs hservice fun henv hx => timerTick_served henv hx
  | commit n hlink hp =>
    exact receiveSound_of_eq (s := commitWork n s) (by simp) rfl (by simp) (receiveSound_commitWork n hcfg hp hs hlink)
  | frameLoss hlink => exact receiveSound_takeFrameLoss hs hlink
  | faultLevel v => exact receiveSound_takeFaultLevel v hs
  | powerOn => exact receiveSound_initial rfl rfl rfl
  | reset => exact receiveSound_initial rfl rfl rfl
  | hostPause c v => exact receiveSound_set hs (rxSound_hostPause (hs c))
  | combine c m => exact receiveSound_setCombineMode c m hs
  | powerShadow c => unfold loadPowerShadow; split <;> exact hs
  | abort => exact receiveSound_linkAbort _ hs
  | resume => exact receiveSound_linkResume hcfg hs
  | intake | events | hml | freeCount | graceExpiry | announcementSwitch | mapShadow | staged | applied | txHold => exact hs

/-- Settles O7: every write of a context is one of the unit's operations, each of which keeps it sound. -/
theorem receiveContextsStaySound : Obligations.ReceiveContextsStaySound := fun _ _ hcfg hs h =>
  (step_keeps (P := fun u => ConfigSound u ∧ ReceiveSound u) (fun _ => id)
    (fun _ _ _ _ heff hu => ⟨configSound_effect heff hu.1, receiveSound_effect heff hu.1 hu.2⟩) ⟨hcfg, hs⟩ h).2

end Sys2Proof.Machine
end

section
/-! The Branch Monitor and the Signalling Unit: run counts belong to their states (R40, R108), EXCLUDED to its flag (R47). -/
namespace Sys2Proof.Machine

/-! ### One branch -/

theorem branchSound_sampleBranch {link : LinkParams} {excluded bad : Bool} {b : BranchState}
    (hfault : link.faultScans ≤ 15) (hrecover : link.recoverScans ≤ 31) (hb : BranchSound excluded b) :
    BranchSound excluded (sampleBranch link bad b).1 := by
  obtain ⟨health, badRun, goodRun⟩ := b
  obtain ⟨hexcl, hruns⟩ := hb
  cases health with
  | healthy =>
    cases bad
    · exact ⟨hexcl, hruns⟩
    · exact ⟨by simpa [sampleBranch] using hexcl, by simp [sampleBranch]⟩
  | suspect =>
    cases bad
    · exact ⟨by simpa [sampleBranch] using hexcl, by simp [sampleBranch]⟩
    · obtain ⟨-, -, hgood⟩ := hruns
      rcases Nat.lt_or_ge (badRun + 1) link.faultScans with h | h
      · rw [sampleBranch_suspect_counts h]
        exact ⟨by simpa using hexcl, by dsimp only; omega, by dsimp only; omega, hgood⟩
      · rw [sampleBranch_suspect_enters h]
        exact ⟨by simpa using hexcl, by simp⟩
  | faulted =>
    cases bad
    · rcases Nat.lt_or_ge (goodRun + 1) link.recoverScans with h | h
      · rw [sampleBranch_faulted_counts h]
        exact ⟨by simpa using hexcl, hruns.1, by dsimp only; omega⟩
      · rw [sampleBranch_faulted_leaves h]
        exact ⟨by simpa using hexcl, by simp⟩
    · exact ⟨by simpa [sampleBranch] using hexcl, hruns.1, Nat.zero_le _⟩
  | excluded => exact ⟨hexcl, hruns⟩

theorem branchSound_excludeBranch {before after : Bool} {b : BranchState} (hb : BranchSound before b) :
    BranchSound after (excludeBranch before after b).1 := by
  cases before <;> cases after
  · exact hb
  · exact ⟨by simp [excludeBranch], rfl, rfl⟩
  · exact ⟨by simp [excludeBranch], rfl, rfl⟩
  · exact hb

/-! ### The monitor's updates, branch by branch -/

theorem setBranch_get (c d : Carrier) (side side' : Side) (b : BranchState) (x : Monitor) :
    ((setBranch c side b x).branches.get d).get side' =
      if d = c ∧ side' = side then b else (x.branches.get d).get side' := by
  simp only [setBranch, Four.get_set]
  split
  · next hd => subst hd; rw [Sides.get_set]; split <;> simp_all
  · next hd => simp [hd]

@[simp] theorem setBranch_grace (c : Carrier) (side : Side) (b : BranchState) (x : Monitor) :
    (setBranch c side b x).grace = x.grace := rfl

@[simp] theorem advanceScan_branches (x : Monitor) : (advanceScan x).branches = x.branches := by
  unfold advanceScan; split <;> rfl

@[simp] theorem advanceScan_grace (x : Monitor) : (advanceScan x).grace = x.grace := by
  unfold advanceScan; split <;> rfl

/-- The branch of a slot takes its sample and no other branch moves (R43 to R46). -/
theorem evaluateBranch_branches (link : LinkParams) (n : FrameNo) (c : Carrier) (side : Side)
    (record : Option BranchRecord) (x : Monitor) (d : Carrier) (side' : Side) :
    ((evaluateBranch link n c side record x).1.branches.get d).get side' =
      if d = c ∧ side' = side
      then (sampleBranch link (badSample link n record) ((x.branches.get c).get side)).1
      else (x.branches.get d).get side' := by
  unfold evaluateBranch
  dsimp only
  split
  · exact setBranch_get ..
  · exact setBranch_get ..

/-- A sample that makes a fault transition starts its carrier's grace, and no other (R49). -/
theorem evaluateBranch_grace (link : LinkParams) (n : FrameNo) (c : Carrier) (side : Side)
    (record : Option BranchRecord) (x : Monitor) (d : Carrier) :
    (evaluateBranch link n c side record x).1.grace.get d =
      if d = c ∧ (sampleBranch link (badSample link n record) ((x.branches.get c).get side)).2.isSome = true
      then link.pauseGrace else x.grace.get d := by
  unfold evaluateBranch
  dsimp only
  split
  · next h => simp [h]
  · next h => simp [h, startGrace, Four.get_set]

/-- A commit's exclusion changes, on its own carrier (R47). -/
theorem monitorCommit_branches (link : LinkParams) (c : Carrier) (old new : CarrierParams) (x : Monitor) (d : Carrier)
    (side : Side) :
    ((monitorCommit link c old new x).1.branches.get d).get side =
      if d = c then (excludeBranch (old.excludes side) (new.excludes side) ((x.branches.get c).get side)).1
      else (x.branches.get d).get side := by
  have h : ((monitorCommit link c old new x).1.branches.get d).get side =
      ((setBranch c .b (excludeBranch old.excludeB new.excludeB ((x.branches.get c).b)).1
        (setBranch c .a (excludeBranch old.excludeA new.excludeA ((x.branches.get c).a)).1 x)).branches.get d).get side := by
    unfold monitorCommit
    dsimp only
    split
    · rfl
    · split <;> rfl
  rw [h, setBranch_get, setBranch_get]
  cases side <;> by_cases hd : d = c <;> simp [hd] <;> rfl

/-- A mode or an exclude flag of a carrier differs between two records (R49). -/
def changesBranches (old new : CarrierParams) : Bool :=
  old.mode ≠ new.mode || old.excludeA ≠ new.excludeA || old.excludeB ≠ new.excludeB

/-- A commit's grace changes, on its own carrier (R49). -/
theorem monitorCommit_grace (link : LinkParams) (c : Carrier) (old new : CarrierParams) (x : Monitor) (d : Carrier) :
    (monitorCommit link c old new x).1.grace.get d =
      if d = c then
        (if old.enable = true ∧ new.enable = true ∧ changesBranches old new = true then link.pauseGrace
         else if old.enable = true ∧ new.enable = false then 0 else x.grace.get c)
      else x.grace.get d := by
  have hchange : changesBranches old new =
      (old.mode ≠ new.mode || old.excludeA ≠ new.excludeA || old.excludeB ≠ new.excludeB) := rfl
  unfold monitorCommit
  dsimp only
  rw [← hchange]
  cases old.enable <;> cases new.enable <;> cases changesBranches old new <;>
    by_cases hd : d = c <;> simp [hd, startGrace, Four.get_set]

/-- The commit's exclusion changes of every carrier. -/
theorem commitMonitor_branches (old : WorkingSet) (s : State) (c : Carrier) (side : Side) :
    ((commitMonitor old s).monitor.branches.get c).get side =
      (excludeBranch ((old.carriers.get c).excludes side) ((s.params c).excludes side)
        ((s.monitor.branches.get c).get side)).1 := by
  have one (d e : Carrier) (t : State) : ((commitMonitorCarrier old d t).monitor.branches.get e).get side =
      if e = d then (excludeBranch ((old.carriers.get d).excludes side) ((t.params d).excludes side)
        ((t.monitor.branches.get d).get side)).1
      else (t.monitor.branches.get e).get side := monitorCommit_branches ..
  have params (d e : Carrier) (t : State) : (commitMonitorCarrier old d t).params e = t.params e := rfl
  have h : commitMonitor old s = commitMonitorCarrier old .c3 (commitMonitorCarrier old .c2
    (commitMonitorCarrier old .c1 (commitMonitorCarrier old .c0 s))) := rfl
  rw [h]
  cases c <;> simp only [one, params] <;> rfl

/-- The commit's grace changes of every carrier. -/
theorem commitMonitor_grace (old : WorkingSet) (s : State) (c : Carrier) :
    (commitMonitor old s).monitor.grace.get c =
      if (old.carriers.get c).enable = true ∧ s.enabled c = true ∧
          changesBranches (old.carriers.get c) (s.params c) = true then s.working.link.pauseGrace
      else if (old.carriers.get c).enable = true ∧ s.enabled c = false then 0
      else s.monitor.grace.get c := by
  have one (d e : Carrier) (t : State) : (commitMonitorCarrier old d t).monitor.grace.get e =
      if e = d then
        (if (old.carriers.get d).enable = true ∧ t.enabled d = true ∧
            changesBranches (old.carriers.get d) (t.params d) = true then t.working.link.pauseGrace
         else if (old.carriers.get d).enable = true ∧ t.enabled d = false then 0 else t.monitor.grace.get d)
      else t.monitor.grace.get e := monitorCommit_grace ..
  have params (d e : Carrier) (t : State) : (commitMonitorCarrier old d t).params e = t.params e := rfl
  have enabled (d e : Carrier) (t : State) : (commitMonitorCarrier old d t).enabled e = t.enabled e := rfl
  have working (d : Carrier) (t : State) : (commitMonitorCarrier old d t).working = t.working := rfl
  have h : commitMonitor old s = commitMonitorCarrier old .c3 (commitMonitorCarrier old .c2
    (commitMonitorCarrier old .c1 (commitMonitorCarrier old .c0 s))) := rfl
  rw [h]
  cases c <;> simp only [one, params, enabled, working] <;> rfl

/-! ### The monitor of a state -/

theorem monitorSound_of_eq {s t : State} (hw : t.working = s.working) (hm : t.monitor = s.monitor) (hs : MonitorSound s) :
    MonitorSound t := by
  unfold MonitorSound
  rw [hm, show t.params = s.params by funext c; rw [State.params_eq, State.params_eq, hw]]
  exact hs

theorem monitorSound_scanWork (n : FrameNo) (pass : Carrier → Bool) {s : State} (hcfg : ConfigSound s)
    (hs : MonitorSound s) : MonitorSound (scanWork n pass s) := by
  obtain ⟨-, ⟨⟨-, -, -, -, -, -, ⟨-, hfault⟩, ⟨-, hrecover⟩, -, hpause, -⟩, -⟩, -⟩ := hcfg
  obtain ⟨hbranches, hgrace⟩ := hs
  have hmonitor : (scanWork n pass s).monitor = (scanBranch s.working n pass s.intake s.monitor).1 := rfl
  unfold MonitorSound
  rw [hmonitor]
  unfold scanBranch
  dsimp only
  split
  · exact ⟨fun c side => by rw [advanceScan_branches]; exact hbranches c side,
      fun c => by rw [advanceScan_grace]; exact hgrace c⟩
  · rw [advanceScan_branches, advanceScan_grace]
    refine ⟨fun c side => ?_, fun c => ?_⟩
    · rw [evaluateBranch_branches]
      split
      · next h => rw [h.1, h.2]; exact branchSound_sampleBranch hfault hrecover (hbranches _ _)
      · exact hbranches c side
    · rw [evaluateBranch_grace]
      split
      · exact hpause
      · exact hgrace c

theorem commitWork_monitor (n : FrameNo) (s : State) :
    (commitWork n s).monitor = (commitMonitor s.working (committedLane s)).monitor := by
  rw [commitWork_eq, rederiveAfterCommit_monitor]
  have h (t u : State) (hw : u.working = t.working) (hm : u.monitor = t.monitor) :
      (commitMonitor s.working u).monitor = (commitMonitor s.working t).monitor := by
    have one (c : Carrier) (t u : State) (hw : u.working = t.working) (hm : u.monitor = t.monitor) :
        (commitMonitorCarrier s.working c u).monitor = (commitMonitorCarrier s.working c t).monitor ∧
        (commitMonitorCarrier s.working c u).working = (commitMonitorCarrier s.working c t).working := by
      simp only [commitMonitorCarrier, State.report_monitor, State.report_working, State.setMonitor_monitor,
        State.setMonitor_working, State.params_eq, hw, hm, and_self]
    obtain ⟨m0, w0⟩ := one .c0 t u hw hm
    obtain ⟨m1, w1⟩ := one .c1 _ _ w0 m0
    obtain ⟨m2, w2⟩ := one .c2 _ _ w1 m1
    exact (one .c3 _ _ w2 m2).1
  exact h (committedLane s) (commitEst s.working (commitRau s.working (committedLane s))) rfl rfl

theorem monitorSound_commitWork (n : FrameNo) {s : State} (hcfg : ConfigSound s) (hp : s.applyPending = true)
    (hs : MonitorSound s) : MonitorSound (commitWork n s) := by
  obtain ⟨hbranches, hgrace⟩ := hs
  obtain ⟨-, ⟨⟨-, -, -, -, -, -, -, -, -, hpause, -⟩, -⟩, -⟩ := configSound_commitWork n hcfg hp
  rw [commitWork_working] at hpause
  refine ⟨fun c side => ?_, fun c => ?_⟩
  · rw [commitWork_monitor, commitMonitor_branches, State.params_eq, commitWork_working]
    exact branchSound_excludeBranch (hbranches c side)
  · rw [commitWork_monitor, commitMonitor_grace]
    split
    · exact hpause
    · split
      · exact Nat.zero_le _
      · exact hgrace c

theorem monitorSound_setCombineMode (c : Carrier) (m : CombiningMode) {s : State} (hcfg : ConfigSound s)
    (hs : MonitorSound s) : MonitorSound (setCombineMode c m s) := by
  obtain ⟨-, ⟨⟨-, -, -, -, -, -, -, -, -, hpause, -⟩, -⟩, -⟩ := hcfg
  obtain ⟨hbranches, hgrace⟩ := hs
  have hexcl (d : Carrier) (side : Side) : ((setCombineMode c m s).params d).excludes side = (s.params d).excludes side := by
    have h : (setCombineMode c m s).params d = if d = c then { s.params c with mode := m } else s.params d := by
      simp only [State.params_eq, ← Four.get_set]
      unfold setCombineMode
      dsimp only
      split <;> rfl
    rw [h]
    split
    · next hd => rw [hd]; cases side <;> rfl
    · rfl
  refine ⟨fun d side => ?_, fun d => ?_⟩
  · rw [hexcl]
    have : (setCombineMode c m s).monitor.branches = s.monitor.branches := by
      unfold setCombineMode
      dsimp only
      split <;> rfl
    rw [this]
    exact hbranches d side
  · unfold setCombineMode
    dsimp only
    split
    · rw [State.setMonitor_monitor, startGrace, Four.get_set]
      split
      · exact hpause
      · exact hgrace d
    · exact hgrace d

theorem monitorSound_initial {t : State} (hw : t.working = .default) (hm : t.monitor = .initial) : MonitorSound t := by
  refine ⟨fun c side => ?_, fun c => ?_⟩
  · rw [State.params_eq, hw, hm]
    cases c <;> cases side <;> exact ⟨by decide, rfl, rfl⟩
  · rw [hm]
    cases c <;> decide

theorem monitorSound_piece {s t : State} (h : Piece s t) (hcfg : ConfigSound s) (hs : MonitorSound s) :
    MonitorSound t := by
  cases h with
  | grace =>
    refine ⟨hs.1, fun c => ?_⟩
    have := hs.2 c
    simp only [graceWork, State.setMonitor_monitor, graceTick, Four.get_ofFn]
    omega
  | scan n pass => exact monitorSound_scanWork n pass hcfg hs
  | commit n _ hp => exact monitorSound_commitWork n hcfg hp hs
  | notice c => exact monitorSound_of_eq (by simp) (by simp) hs
  | laneStep3 n => exact monitorSound_of_eq (by simp) (by simp) hs
  | laneStep4 n => exact monitorSound_of_eq (by simp) (by simp) hs
  | restored n =>
    refine ⟨fun c side => ?_, fun c => ?_⟩
    · have := hs.1 c side
      rw [State.params_eq, show (restored n s).working = s.working by simp [restored, restoredPort],
        show (restored n s).monitor = graceTick s.monitor by simp [restored, restoredPort, graceWork]]
      exact this
    · have := hs.2 c
      rw [show (restored n s).monitor = graceTick s.monitor by simp [restored, restoredPort, graceWork], graceTick,
        Four.get_ofFn]
      omega
  | port | report | events | mapper | power | rau | laneStep1 | atten => exact hs

theorem monitorSound_effect {i : Instr} {s t : State} (h : Effect i s t) (hcfg : ConfigSound s) (hs : MonitorSound s) :
    MonitorSound t := by
  cases h with
  | frameStart n order =>
    exact ((pieces_takeFrameStart n order s).keeps (P := fun u => ConfigSound u ∧ MonitorSound u)
      (fun _ _ hp hu => ⟨configSound_piece hp hu.1, monitorSound_piece hp hu.1 hu.2⟩) ⟨hcfg, hs⟩).2
  | graceExpiry c =>
    refine ⟨hs.1, fun d => ?_⟩
    simp only [expireGrace, State.setMonitor_monitor, Four.get_set]
    split
    · exact Nat.zero_le _
    · exact hs.2 d
  | commit n _ hp => exact monitorSound_of_eq (s := commitWork n s) (by simp) rfl (monitorSound_commitWork n hcfg hp hs)
  | combine c m => exact monitorSound_setCombineMode c m hcfg hs
  | powerOn => exact monitorSound_initial rfl rfl
  | reset => exact monitorSound_initial rfl rfl
  | field c f => exact monitorSound_of_eq (by simp) (by simp) hs
  | frameLoss => exact monitorSound_of_eq (by simp) (by simp) hs
  | faultLevel v => exact monitorSound_of_eq (by simp) (by simp) hs
  | abort => exact monitorSound_of_eq (by simp) (by simp) hs
  | resume => exact monitorSound_of_eq (by simp) (by simp) hs
  | powerShadow c => unfold loadPowerShadow; split <;> exact hs
  | port | report | intake | events | hml | freeCount | window | rxSwitch | timeout | announcementSwitch | mapShadow
  | staged | applied | hostPause | txHold => exact hs

/-! ### Signalling -/

/-- The run that does not belong to the SIG state is 0, and no run passes 255. -/
def SigSound (x : SigCarrier) : Prop :=
  (x.lost = true → x.invalidRun = 0) ∧ (x.lost = false → x.validRun = 0) ∧ x.invalidRun ≤ 255 ∧ x.validRun ≤ 255

theorem sigSound_initial : SigSound .initial := by simp [SigSound, SigCarrier.initial]

theorem signallingSound_of_eq {s t : State} (h : t.sig = s.sig) (hs : SignallingSound s) : SignallingSound t := by
  unfold SignallingSound
  rw [h]
  exact hs

theorem signallingSound_storeSig (c : Carrier) {x : SigCarrier} {s : State} (hx : SigSound x) (hs : SignallingSound s) :
    SignallingSound (storeSig c x s) := by
  intro d
  rw [storeSig, State.setSig_sig, Four.get_set]
  split
  · exact hx
  · exact hs d

theorem enterSigLost_sig (c : Carrier) (s : State) :
    (enterSigLost c s).sig = s.sig.set c { s.sig.get c with lost := true, invalidRun := 0, validRun := 0 } := by
  simp [enterSigLost, storeSig]

theorem recoverSig_sig (c : Carrier) (s : State) :
    (recoverSig c s).sig = s.sig.set c { s.sig.get c with lost := false, invalidRun := 0, validRun := 0 } := rfl

theorem signallingSound_takeInvalid (c : Carrier) {s : State} (hcfg : ConfigSound s) (hs : SignallingSound s) :
    SignallingSound (takeInvalid c s) := by
  obtain ⟨-, ⟨⟨-, -, -, -, -, -, -, -, -, -, -, -, -, -, -, ⟨-, hloss⟩, -⟩, -⟩, -⟩ := hcfg
  obtain ⟨hlost, hlinked, hinvalid, hvalid⟩ := hs c
  unfold takeInvalid
  dsimp only
  split
  · next h => exact signallingSound_storeSig c ⟨hlost, fun hl => rfl, hinvalid, Nat.zero_le _⟩ hs
  · next h =>
    split
    · exact signallingSound_of_eq (enterSigLost_sig c s)
        (signallingSound_storeSig c ⟨fun _ => rfl, fun _ => rfl, Nat.zero_le _, Nat.zero_le _⟩ hs)
    · next hrun =>
      exact signallingSound_storeSig c ⟨fun hl => absurd hl h, hlinked, by dsimp only; omega, hvalid⟩ hs

theorem signallingSound_takeValid (c : Carrier) (f : RawField) (ans : AnsKind) {s : State} (hcfg : ConfigSound s)
    (hs : SignallingSound s) : SignallingSound (takeValid c f ans s) := by
  obtain ⟨-, ⟨⟨-, -, -, -, -, -, -, -, -, -, -, -, -, -, -, -, ⟨-, hrecover⟩, -⟩, -⟩, -⟩ := hcfg
  obtain ⟨hlost, hlinked, hinvalid, hvalid⟩ := hs c
  unfold takeValid
  dsimp only
  split
  · next h =>
    split
    · refine signallingSound_of_eq ?_ (signallingSound_storeSig c
        (x := ⟨false, 0, 0, some ⟨f, s.port.current⟩⟩) ⟨fun _ => rfl, fun _ => rfl, Nat.zero_le _, Nat.zero_le _⟩ hs)
      rw [routeFull_sig, recoverSig_sig]
      refine Four.ext_get fun d => ?_
      simp only [storeSig, State.setSig_sig, Four.get_set]
      split <;> simp
    · next hrun =>
      have hx : SigSound ⟨(s.sig.get c).lost, (s.sig.get c).invalidRun, (s.sig.get c).validRun + 1,
          some ⟨f, s.port.current⟩⟩ := ⟨hlost, fun hl => absurd (h.symm.trans hl) (by decide), hinvalid, by dsimp only; omega⟩
      exact signallingSound_of_eq (routePart_sig ..) (signallingSound_storeSig c hx hs)
  · next h =>
    have hx : SigSound ⟨(s.sig.get c).lost, 0, (s.sig.get c).validRun, some ⟨f, s.port.current⟩⟩ :=
      ⟨fun hl => absurd hl h, hlinked, Nat.zero_le _, hvalid⟩
    exact signallingSound_of_eq (routeFull_sig ..) (signallingSound_storeSig c hx hs)

theorem signallingSound_handField (c : Carrier) (f : Option RawField) {s : State} (hcfg : ConfigSound s)
    (hs : SignallingSound s) : SignallingSound (handField c f s) := by
  unfold handField
  split
  · exact signallingSound_takeInvalid c hcfg hs
  · split
    · split
      · exact signallingSound_takeValid c _ _ hcfg hs
      · exact signallingSound_takeInvalid c hcfg hs
    · exact signallingSound_takeInvalid c hcfg hs

theorem commitWork_sig (n : FrameNo) (s : State) (c : Carrier) :
    (commitWork n s).sig.get c =
      if enableChanges s.working (stagedAsWorking s.staged) c = true then .initial else s.sig.get c := by
  rw [commitWork_eq, rederiveAfterCommit_sig]
  simp only [commitParts, commitFarFault, commitPort, State.setPortCarriers, commitMapper, commitPower, commitSig,
    commitIntake, commitEst, commitRau, perCarrier]
  simp
  split
  · simp
  · simp [committedLane, commitLane, commitConfiguration]

theorem signallingSound_of_initial {t : State} (h : t.sig = .fill .initial) : SignallingSound t := by
  intro c
  rw [h, Four.get_fill]
  exact sigSound_initial

theorem takeFrameLoss_sig (s : State) : (takeFrameLoss s).sig = .fill .initial := rfl

theorem signallingSound_commitWork (n : FrameNo) {s : State} (hs : SignallingSound s) :
    SignallingSound (commitWork n s) := by
  intro c
  rw [commitWork_sig]
  split
  · exact sigSound_initial
  · exact hs c

theorem signallingSound_piece {s t : State} (h : Piece s t) (hcfg : ConfigSound s) (hs : SignallingSound s) :
    SignallingSound t := by
  cases h with
  | notice c => exact signallingSound_handField c none hcfg hs
  | commit n => exact signallingSound_commitWork n hs
  | laneStep3 n => exact signallingSound_of_eq (by simp) hs
  | laneStep4 n => exact signallingSound_of_eq (by simp) hs
  | restored n => exact signallingSound_of_eq (by simp [restored, restoredPort]) hs
  | port | report | events | grace | mapper | power | rau | laneStep1 | scan | atten => exact hs

theorem signallingSound_effect {i : Instr} {s t : State} (h : Effect i s t) (hcfg : ConfigSound s)
    (hs : SignallingSound s) : SignallingSound t := by
  cases h with
  | field c f => exact signallingSound_handField c f hcfg hs
  | frameStart n order =>
    exact ((pieces_takeFrameStart n order s).keeps (P := fun u => ConfigSound u ∧ SignallingSound u)
      (fun _ _ hp hu => ⟨configSound_piece hp hu.1, signallingSound_piece hp hu.1 hu.2⟩) ⟨hcfg, hs⟩).2
  | commit n => exact signallingSound_of_eq (s := commitWork n s) rfl (signallingSound_commitWork n hs)
  | frameLoss => exact signallingSound_of_initial (takeFrameLoss_sig s)
  | powerOn => exact signallingSound_of_initial rfl
  | reset => exact signallingSound_of_initial rfl
  | combine c m => exact signallingSound_of_eq (by unfold setCombineMode; split <;> rfl) hs
  | faultLevel v => exact signallingSound_of_eq (by simp) hs
  | abort => exact signallingSound_of_eq (by simp) hs
  | resume => exact signallingSound_of_eq (by simp) hs
  | powerShadow c => unfold loadPowerShadow; split <;> exact hs
  | port | report | intake | events | hml | freeCount | graceExpiry | window | rxSwitch | timeout | announcementSwitch
  | mapShadow | staged | applied | hostPause | txHold => exact hs

/-- Settles O10: samples, commits and SET_COMBINE keep the monitor, fields, losses and commits the signalling records. -/
theorem branchAndSignallingRunsStaySound : Obligations.BranchAndSignallingRunsStaySound := fun _ _ hcfg hm hs h =>
  (step_keeps (P := fun u => ConfigSound u ∧ MonitorSound u ∧ SignallingSound u) (fun _ => id)
    (fun _ _ _ _ heff hu => ⟨configSound_effect heff hu.1, monitorSound_effect heff hu.1 hu.2.1,
      signallingSound_effect heff hu.1 hu.2.2⟩) ⟨hcfg, hm, hs⟩ h).2

end Sys2Proof.Machine
end

section
/-! The Power Control Unit: attenuation within its limits and 0 under every hold (R142, R143, R147, R149). -/
namespace Sys2Proof.Machine

/-! ### Holds -/

theorem powerHeld_congr {s t : State} (hw : t.working = s.working) (hsig : t.sig = s.sig)
    (hstate : t.fault.state = s.fault.state) (hl : t.port.link = s.port.link) (c : Carrier) :
    powerHeld t c = powerHeld s c := by
  unfold powerHeld
  rw [State.enabled_eq, State.params_eq, State.enabled_eq, State.params_eq, hw, hsig, hstate, hl]

theorem powerHeld_of_lost {s : State} (hl : s.port.link = .frameLost) (c : Carrier) : powerHeld s c = true := by
  simp [powerHeld, hl]

@[simp] theorem settleHold_eff (p : CarrierParams) (before after : Bool) (x : PowerCarrier) :
    (settleHold p before after x).eff = x.eff := by cases before <;> cases after <;> rfl

@[simp] theorem settleHold_shadow (p : CarrierParams) (before after : Bool) (x : PowerCarrier) :
    (settleHold p before after x).shadow = x.shadow := by cases before <;> cases after <;> rfl

theorem settleHold_atpc (p : CarrierParams) (before after : Bool) (x : PowerCarrier) :
    (settleHold p before after x).atpc = if before = false ∧ after = true then 0 else x.atpc := by
  cases before <;> cases after <;> rfl

theorem settleHold_period (p : CarrierParams) (before after : Bool) (x : PowerCarrier) :
    (settleHold p before after x).period = if before = true ∧ after = false then p.period else x.period := by
  cases before <;> cases after <;> rfl

theorem settleHolds_pcu (before s : State) (c : Carrier) :
    (settleHolds before s).pcu.get c = settleHold (s.params c) (powerHeld before c) (powerHeld s c) (s.pcu.get c) := by
  simp [settleHolds]

/-- A power record without the part that only the computation of the attenuation restores (R147): the limits, the hold,
and no shadow during a frame loss. -/
def PowerKept (s : State) (c : Carrier) : Prop :=
  (s.pcu.get c).atpc ≤ (s.params c).maxAtten ∧ (powerHeld s c = true → (s.pcu.get c).atpc = 0) ∧
  (s.pcu.get c).eff ≤ 40 ∧ (s.port.link = .frameLost → (s.pcu.get c).shadow = none)

/-- The effective attenuation of a disabled carrier is 0 (R147). -/
def OffMuted (s : State) : Prop := ∀ c, s.enabled c = false → (s.pcu.get c).eff = 0

theorem powerSound_iff (s : State) : PowerSound s ↔ (∀ c, PowerKept s c) ∧ OffMuted s :=
  ⟨fun h => ⟨fun c => ⟨(h c).1, (h c).2.1, (h c).2.2.1, (h c).2.2.2.2⟩, fun c => (h c).2.2.2.1⟩,
   fun h c => ⟨(h.1 c).1, (h.1 c).2.1, (h.1 c).2.2.1, h.2 c, (h.1 c).2.2.2⟩⟩

/-- Records that keep atpc_atten and the hold are kept where nothing they rest on moves. -/
theorem powerKept_of_same {s t : State} (hw : t.working = s.working) (hsig : t.sig = s.sig)
    (hstate : t.fault.state = s.fault.state) (hl : t.port.link = s.port.link) {c : Carrier}
    (hatpc : (t.pcu.get c).atpc = (s.pcu.get c).atpc) (heff : (t.pcu.get c).eff ≤ 40)
    (hshadow : t.port.link = .frameLost → (s.pcu.get c).shadow = none → (t.pcu.get c).shadow = none)
    (hs : PowerKept s c) : PowerKept t c := by
  obtain ⟨hmax, hheld, -, hlost⟩ := hs
  refine ⟨?_, ?_, heff, fun h => hshadow h (hlost (hl ▸ h))⟩
  · rw [hatpc, State.params_eq, hw]; exact hmax
  · rw [hatpc, powerHeld_congr hw hsig hstate hl]; exact hheld

theorem powerKept_of_eq {s t : State} (hw : t.working = s.working) (hsig : t.sig = s.sig)
    (hstate : t.fault.state = s.fault.state) (hl : t.port.link = s.port.link) (hp : t.pcu = s.pcu) {c : Carrier}
    (hs : PowerKept s c) : PowerKept t c :=
  powerKept_of_same hw hsig hstate hl (by rw [hp]) (by rw [hp]; exact hs.2.2.1) (fun _ h => by rw [hp]; exact h) hs

/-- An event that only moves holds keeps the records through the settling of R143; it may discard shadows. -/
theorem powerKept_settleHolds {s t : State} (hw : t.working = s.working) (hl : t.port.link = s.port.link) {c : Carrier}
    (hatpc : (t.pcu.get c).atpc = (s.pcu.get c).atpc) (heff : (t.pcu.get c).eff = (s.pcu.get c).eff)
    (hshadow : t.port.link = .frameLost → (s.pcu.get c).shadow = none → (t.pcu.get c).shadow = none)
    (hs : PowerKept s c) : PowerKept (settleHolds s t) c := by
  obtain ⟨hmax, hheld, heff40, hlost⟩ := hs
  have hheld' : powerHeld (settleHolds s t) c = powerHeld t c := powerHeld_congr (by simp) (by simp) (by simp) (by simp) c
  unfold PowerKept
  rw [hheld', State.params_eq, settleHolds_working, settleHolds_port, settleHolds_pcu, settleHold_atpc, settleHold_eff,
    settleHold_shadow, hatpc, heff, hw]
  refine ⟨?_, fun h => ?_, heff40, fun h => hshadow h (hlost (hl ▸ h))⟩
  · split
    · exact Nat.zero_le _
    · exact hmax
  · split
    · rfl
    · next hb => exact hheld (by simpa [h] using hb)

theorem offMuted_of_eq {s t : State} (hw : t.working = s.working) (heff : ∀ c, (t.pcu.get c).eff = (s.pcu.get c).eff)
    (hs : OffMuted s) : OffMuted t := by
  intro c hc
  rw [heff]
  rw [State.enabled_congr hw] at hc
  exact hs c hc

/-! ### Aborts, resumes and the FAULT input -/

theorem recordPowerShadows_get (a : Announcement) (x : Four PowerCarrier) (c : Carrier) :
    (recordPowerShadows a x).get c = { x.get c with
      shadow := match a.member? c with
        | some m => some { toP := m.toP, remaining := a.count }
        | none => (x.get c).shadow } := by
  simp only [recordPowerShadows, Four.get_ofFn]
  split <;> simp_all

theorem abortLane_pcu (s : State) (c : Carrier) :
    (abortLane s).pcu.get c = s.pcu.get c ∨ (abortLane s).pcu.get c = { s.pcu.get c with shadow := none } := by
  unfold abortLane
  split
  · exact .inl rfl
  · dsimp only
    split
    · exact .inr (by simp [discardShadows, discardPowerShadows])
    · exact .inl rfl

/-- The state of an abort before its holds are settled. -/
def abortUnsettled (cause : AbortCause) (s : State) : State :=
  onEnabledRau (abortLane ((s.setFault { s.fault with state := .aborted, cause := some cause }).report
    [{ kind := .aborted, index := 0, edge := some .enter }])) fun _ x => cancelRequest x

theorem linkAbort_eq (cause : AbortCause) (s : State) : linkAbort cause s = settleHolds s (abortUnsettled cause s) := rfl

theorem abortUnsettled_pcu (cause : AbortCause) (s : State) (c : Carrier) :
    (abortUnsettled cause s).pcu.get c = s.pcu.get c ∨
    (abortUnsettled cause s).pcu.get c = { s.pcu.get c with shadow := none } := by
  unfold abortUnsettled
  rw [onEnabledRau_pcu]
  exact abortLane_pcu ((s.setFault _).report _) c

theorem linkAbort_eff (cause : AbortCause) (s : State) (c : Carrier) :
    ((linkAbort cause s).pcu.get c).eff = (s.pcu.get c).eff := by
  rw [linkAbort_eq, settleHolds_pcu, settleHold_eff]
  rcases abortUnsettled_pcu cause s c with e | e <;> rw [e]

theorem powerKept_linkAbort (cause : AbortCause) {s : State} {c : Carrier} (hs : PowerKept s c) :
    PowerKept (linkAbort cause s) c := by
  rw [linkAbort_eq]
  refine powerKept_settleHolds (by simp [abortUnsettled]) (by simp [abortUnsettled]) ?_ ?_ ?_ hs <;>
    rcases abortUnsettled_pcu cause s c with e | e <;> rw [e]
  · exact fun _ h => h
  · exact fun _ _ => rfl

theorem powerKept_rederiveDemand (held : Bool) (cause : AbortCause) {s : State} {c : Carrier} (hs : PowerKept s c) :
    PowerKept (rederiveDemand held cause s) c := by
  unfold rederiveDemand
  split
  · exact powerKept_linkAbort cause hs
  · exact hs

theorem rederiveDemand_eff (held : Bool) (cause : AbortCause) (s : State) (c : Carrier) :
    ((rederiveDemand held cause s).pcu.get c).eff = (s.pcu.get c).eff := by
  unfold rederiveDemand
  split
  · exact linkAbort_eff ..
  · rfl

theorem powerKept_takeEquipFault (d : Carrier) (v : Bool) {s : State} {c : Carrier} (hs : PowerKept s c) :
    PowerKept (takeEquipFault d v s) c := by
  unfold takeEquipFault
  split
  · exact powerKept_rederiveDemand _ _ (s := (storeFarFault d true s).report _) hs
  · exact hs

theorem takeEquipFault_eff (d : Carrier) (v : Bool) (s : State) (c : Carrier) :
    ((takeEquipFault d v s).pcu.get c).eff = (s.pcu.get c).eff := by
  unfold takeEquipFault
  split
  · exact rederiveDemand_eff ..
  · rfl

theorem powerKept_takeFaultLevel (v : Bool) {s : State} {c : Carrier} (hs : PowerKept s c) :
    PowerKept (takeFaultLevel v s) c := by
  unfold takeFaultLevel
  split
  · exact hs
  · dsimp only
    split
    · exact powerKept_rederiveDemand _ _ (s := (s.setFault _).report _) hs
    · exact hs

theorem takeFaultLevel_eff (v : Bool) (s : State) (c : Carrier) :
    ((takeFaultLevel v s).pcu.get c).eff = (s.pcu.get c).eff := by
  unfold takeFaultLevel
  split
  · rfl
  · dsimp only
    split
    · exact rederiveDemand_eff ..
    · rfl

theorem powerKept_linkResume {s : State} {c : Carrier} (hs : PowerKept s c) : PowerKept (linkResume s) c := by
  unfold linkResume
  exact powerKept_settleHolds (by simp) (by simp) (by simp) (by simp) (by simp) hs

theorem linkResume_eff (s : State) (c : Carrier) : ((linkResume s).pcu.get c).eff = (s.pcu.get c).eff := by
  unfold linkResume
  rw [settleHolds_pcu, settleHold_eff]
  simp

/-! ### Fields -/

theorem applyLossPolicy_same (c : Carrier) (s : State) :
    (applyLossPolicy c s).pcu = s.pcu ∧ (applyLossPolicy c s).sig = s.sig ∧ (applyLossPolicy c s).fault = s.fault := by
  unfold applyLossPolicy dropToBase
  split
  · split <;> exact ⟨rfl, rfl, rfl⟩
  · exact ⟨rfl, rfl, rfl⟩

/-- The state of a signalling loss before its holds are settled. -/
def sigLostUnsettled (d : Carrier) (s : State) : State :=
  let s1 := (storeSig d { s.sig.get d with lost := true, invalidRun := 0, validRun := 0 } s).report
    [{ kind := .sigLost, index := d.toNat, edge := some .enter }]
  s1.setRau (s1.rau.set d (rxSigLoss (s1.rau.get d)))

theorem enterSigLost_eq (d : Carrier) (s : State) :
    enterSigLost d s = applyLossPolicy d ((settleHolds s (sigLostUnsettled d s)).setLane
      ((settleHolds s (sigLostUnsettled d s)).lane.update d refuseFarUp)) := rfl

theorem powerKept_enterSigLost (d : Carrier) {s : State} {c : Carrier} (hs : PowerKept s c) :
    PowerKept (enterSigLost d s) c := by
  rw [enterSigLost_eq]
  obtain ⟨hpcu, hsig, hfault⟩ := applyLossPolicy_same d ((settleHolds s (sigLostUnsettled d s)).setLane
    ((settleHolds s (sigLostUnsettled d s)).lane.update d refuseFarUp))
  refine powerKept_of_eq (s := settleHolds s (sigLostUnsettled d s)) ?_ hsig (by rw [hfault]; rfl) ?_ hpcu ?_
  · rw [applyLossPolicy_working, State.setLane_working]
  · rw [applyLossPolicy_port, State.setLane_port]
  · exact powerKept_settleHolds (s := s) (t := sigLostUnsettled d s) rfl rfl rfl rfl (fun _ h => h) hs

theorem enterSigLost_eff (d : Carrier) (s : State) (c : Carrier) :
    ((enterSigLost d s).pcu.get c).eff = (s.pcu.get c).eff := by
  rw [enterSigLost_eq, (applyLossPolicy_same ..).1, State.setLane_pcu, settleHolds_pcu, settleHold_eff]
  rfl

/-- Signalling items stored with the SIG state they had move no hold. -/
theorem powerHeld_storeSig {s : State} {d : Carrier} {x : SigCarrier} (hx : x.lost = (s.sig.get d).lost) (c : Carrier) :
    powerHeld (storeSig d x s) c = powerHeld s c := by
  have hlost : ((s.sig.set d x).get c).lost = (s.sig.get c).lost := by
    rw [Four.get_set]
    split
    · next h => rw [h, hx]
    · rfl
  unfold powerHeld storeSig
  simp only [State.setSig_sig, hlost]
  rfl

theorem powerKept_storeSig {s : State} {d : Carrier} {x : SigCarrier} (hx : x.lost = (s.sig.get d).lost) {c : Carrier}
    (hs : PowerKept s c) : PowerKept (storeSig d x s) c := by
  obtain ⟨hmax, hheld, heff, hlost⟩ := hs
  exact ⟨hmax, fun h => hheld (by rwa [powerHeld_storeSig hx] at h), heff, hlost⟩

theorem powerKept_takeInvalid (d : Carrier) {s : State} {c : Carrier} (hs : PowerKept s c) :
    PowerKept (takeInvalid d s) c := by
  unfold takeInvalid
  dsimp only
  split
  · exact powerKept_storeSig (by rfl) hs
  · split
    · exact powerKept_enterSigLost d hs
    · exact powerKept_storeSig (by rfl) hs

theorem takeInvalid_eff (d : Carrier) (s : State) (c : Carrier) :
    ((takeInvalid d s).pcu.get c).eff = (s.pcu.get c).eff := by
  unfold takeInvalid
  dsimp only
  split
  · rfl
  · split
    · exact enterSigLost_eff d s c
    · rfl

theorem powerStep_atpc_le (p : CarrierParams) (margin : Nat) (fade : Bool) {x : PowerCarrier} (h : x.atpc ≤ p.maxAtten) :
    (powerStep p margin fade x).atpc ≤ p.maxAtten := by
  unfold powerStep
  split
  · exact Nat.zero_le _
  · split
    · dsimp only; omega
    · split
      · simp only [reloadPeriod]; omega
      · exact h

theorem powerStep_same (p : CarrierParams) (margin : Nat) (fade : Bool) (x : PowerCarrier) :
    (powerStep p margin fade x).eff = x.eff ∧ (powerStep p margin fade x).shadow = x.shadow := by
  unfold powerStep
  split
  · exact ⟨rfl, rfl⟩
  · split
    · exact ⟨rfl, rfl⟩
    · split <;> exact ⟨rfl, rfl⟩

/-- A field's margin moves one record, and only one that is not held. -/
theorem takeMargin_pcu (d : Carrier) (margin : Nat) (fade : Bool) (s : State) (c : Carrier) :
    (takeMargin d margin fade s).pcu.get c =
      if c = d ∧ powerHeld s d = false then powerStep (s.params d) margin fade (s.pcu.get d) else s.pcu.get c := by
  unfold takeMargin
  split
  · next h => simp [h]
  · next h =>
    rw [State.setPcu_pcu, Four.get_set]
    simp [h]

theorem powerKept_takeMargin (d : Carrier) (margin : Nat) (fade : Bool) {s : State} {c : Carrier} (hs : PowerKept s c) :
    PowerKept (takeMargin d margin fade s) c := by
  have hheld' : powerHeld (takeMargin d margin fade s) c = powerHeld s c :=
    powerHeld_congr (by simp) (by simp) (by simp) (by simp) c
  obtain ⟨hmax, hheld, heff, hlost⟩ := hs
  unfold PowerKept
  rw [hheld', State.params_eq, takeMargin_working, takeMargin_port, takeMargin_pcu, ← State.params_eq]
  split
  · next h =>
    obtain ⟨rfl, hfree⟩ := h
    obtain ⟨he, hsh⟩ := powerStep_same (s.params c) margin fade (s.pcu.get c)
    exact ⟨powerStep_atpc_le _ _ _ hmax, fun h => absurd (h.symm.trans hfree) (by decide), by rw [he]; exact heff,
      fun h => by rw [hsh]; exact hlost h⟩
  · exact ⟨hmax, hheld, heff, hlost⟩

theorem takeMargin_eff (d : Carrier) (margin : Nat) (fade : Bool) (s : State) (c : Carrier) :
    ((takeMargin d margin fade s).pcu.get c).eff = (s.pcu.get c).eff := by
  rw [takeMargin_pcu]
  split
  · next h => rw [(powerStep_same ..).1, h.1]
  · rfl

theorem powerKept_routePart (d : Carrier) (p : FieldParts) (ans : AnsKind) {s : State} {c : Carrier} (hs : PowerKept s c) :
    PowerKept (routePart d p ans s) c := powerKept_takeEquipFault d _ hs

theorem powerKept_routeFull (d : Carrier) (p : FieldParts) (ans : AnsKind) {s : State} {c : Carrier} (hs : PowerKept s c) :
    PowerKept (routeFull d p ans s) c :=
  powerKept_takeMargin d _ _ (s := routeToLane d p (routePart d p ans s)) (powerKept_routePart d p ans hs)

theorem routePart_eff (d : Carrier) (p : FieldParts) (ans : AnsKind) (s : State) (c : Carrier) :
    ((routePart d p ans s).pcu.get c).eff = (s.pcu.get c).eff := takeEquipFault_eff ..

theorem routeFull_eff (d : Carrier) (p : FieldParts) (ans : AnsKind) (s : State) (c : Carrier) :
    ((routeFull d p ans s).pcu.get c).eff = (s.pcu.get c).eff :=
  (takeMargin_eff ..).trans (routePart_eff d p ans s c)

theorem powerKept_recoverSig (d : Carrier) {s : State} {c : Carrier} (hs : PowerKept s c) :
    PowerKept (recoverSig d s) c := by
  unfold recoverSig
  refine powerKept_settleHolds (s := s) ?_ ?_ ?_ ?_ (fun _ h => ?_) hs
  · rfl
  · rfl
  · rfl
  · rfl
  · exact h

theorem recoverSig_eff (d : Carrier) (s : State) (c : Carrier) :
    ((recoverSig d s).pcu.get c).eff = (s.pcu.get c).eff := by
  unfold recoverSig
  rw [settleHolds_pcu, settleHold_eff]
  rfl

theorem powerKept_takeValid (d : Carrier) (f : RawField) (ans : AnsKind) {s : State} {c : Carrier} (hs : PowerKept s c) :
    PowerKept (takeValid d f ans s) c := by
  unfold takeValid
  dsimp only
  split
  · split
    · exact powerKept_routeFull d _ ans (powerKept_recoverSig d (powerKept_storeSig (by rfl) hs))
    · exact powerKept_routePart d _ ans (powerKept_storeSig (by rfl) hs)
  · exact powerKept_routeFull d _ ans (powerKept_storeSig (by rfl) hs)

theorem takeValid_eff (d : Carrier) (f : RawField) (ans : AnsKind) (s : State) (c : Carrier) :
    ((takeValid d f ans s).pcu.get c).eff = (s.pcu.get c).eff := by
  unfold takeValid
  dsimp only
  split
  · split
    · rw [routeFull_eff, recoverSig_eff]; rfl
    · rw [routePart_eff]; rfl
  · rw [routeFull_eff]; rfl

theorem powerKept_handField (d : Carrier) (f : Option RawField) {s : State} {c : Carrier} (hs : PowerKept s c) :
    PowerKept (handField d f s) c := by
  unfold handField
  split
  · exact powerKept_takeInvalid d hs
  · split
    · split
      · exact powerKept_takeValid d _ _ hs
      · exact powerKept_takeInvalid d hs
    · exact powerKept_takeInvalid d hs

theorem handField_eff (d : Carrier) (f : Option RawField) (s : State) (c : Carrier) :
    ((handField d f s).pcu.get c).eff = (s.pcu.get c).eff := by
  unfold handField
  split
  · exact takeInvalid_eff d s c
  · split
    · split
      · exact takeValid_eff ..
      · exact takeInvalid_eff d s c
    · exact takeInvalid_eff d s c

/-! ### The commit -/

theorem commitParts_pcu (n : FrameNo) (s : State) (c : Carrier) :
    (commitParts n s).pcu.get c = powerCommit (s.params c) ((commitParts n s).params c)
      (((commitParts n s).sig.get c).lost || (commitParts n s).fault.state = .aborted) (s.pcu.get c) := by
  simp [commitParts, commitFarFault, commitPort, State.setPortCarriers, commitMapper, commitPower, commitSig,
    commitIntake, commitEst, commitRau, perCarrier]
  rfl

theorem commitParts_working (n : FrameNo) (s : State) : (commitParts n s).working = stagedAsWorking s.staged := by
  simp [commitParts, commitFarFault, commitPort, State.setPortCarriers, commitMapper, commitPower, commitSig,
    commitIntake, commitEst, commitRau]

theorem commitParts_link (n : FrameNo) (s : State) : (commitParts n s).port.link = s.port.link := by
  simp [commitParts, commitFarFault, commitPort, State.setPortCarriers, commitMapper, commitPower, commitSig,
    commitIntake, commitEst, commitRau, committedLane, commitLane, commitConfiguration]

theorem commitParts_fault (n : FrameNo) (s : State) : (commitParts n s).fault.state = s.fault.state ∧
    (commitParts n s).fault.faultLevel = s.fault.faultLevel ∧ (commitParts n s).fault.cause = s.fault.cause := by
  simp [commitParts, commitFarFault, commitPort, State.setPortCarriers, commitMapper, commitPower, commitSig,
    commitIntake, commitEst, commitRau, committedLane, commitLane, commitConfiguration]

theorem commitParts_sig (n : FrameNo) (s : State) (c : Carrier) :
    (commitParts n s).sig.get c =
      if enableChanges s.working (stagedAsWorking s.staged) c = true then .initial else s.sig.get c := by
  have := commitWork_sig n s c
  rw [commitWork_eq, rederiveAfterCommit_sig] at this
  exact this

theorem powerCommit_same (old new : CarrierParams) (other : Bool) (x : PowerCarrier) :
    (powerCommit old new other x).eff = x.eff ∧
    ((powerCommit old new other x).shadow = x.shadow ∨ (powerCommit old new other x).shadow = none) := by
  unfold powerCommit
  split
  · exact ⟨rfl, .inr rfl⟩
  · exact ⟨rfl, .inr rfl⟩
  · split
    · exact ⟨rfl, .inl rfl⟩
    · split
      · split <;> exact ⟨rfl, .inl rfl⟩
      · exact ⟨rfl, .inl rfl⟩
  · exact ⟨rfl, .inl rfl⟩

/-- A commit leaves atpc_atten within the new limit, and at 0 where it was 0, where ATPC is off or the enable moves. -/
theorem powerCommit_atpc {old new : CarrierParams} {other : Bool} {x : PowerCarrier}
    (hoff : old.enable = false ∨ old.atpcEnable = false → x.atpc = 0) :
    (powerCommit old new other x).atpc ≤ new.maxAtten ∧
    (x.atpc = 0 ∨ new.enable = false ∨ new.atpcEnable = false ∨ old.enable ≠ new.enable →
      (powerCommit old new other x).atpc = 0) := by
  unfold powerCommit
  cases hold : old.enable <;> cases hnew : new.enable
  · simp [hoff (.inl hold)]
  · simp
  · simp
  · cases hnewA : new.atpcEnable
    · simp
    · cases holdA : old.atpcEnable
      · have := hoff (.inr holdA)
        cases other <;> simp [this, reloadPeriod]
      · simp +contextual

theorem powerKept_commitParts (n : FrameNo) {s : State} {c : Carrier} (hs : PowerKept s c) (hl : s.port.link = .running) :
    PowerKept (commitParts n s) c := by
  obtain ⟨hmax, hheld, heff, hlost⟩ := hs
  have hold : (s.params c).enable = false ∨ (s.params c).atpcEnable = false → (s.pcu.get c).atpc = 0 := fun h =>
    hheld (by rcases h with h | h <;> simp [powerHeld, State.enabled, h])
  obtain ⟨hle, hzero⟩ := powerCommit_atpc (new := (commitParts n s).params c)
    (other := (((commitParts n s).sig.get c).lost || (commitParts n s).fault.state = .aborted)) hold
  unfold PowerKept
  rw [commitParts_pcu, (powerCommit_same ..).1, commitParts_link]
  refine ⟨hle, fun h => hzero ?_, heff, fun h => absurd (hl.symm.trans h) (by decide)⟩
  simp only [powerHeld, Bool.or_eq_true, Bool.not_eq_true', decide_eq_true_eq, commitParts_sig, (commitParts_fault n s).1,
    commitParts_link] at h
  rcases h with (((h | h) | h) | h) | h
  · exact .inr (.inl h)
  · exact .inr (.inr (.inl h))
  · split at h
    · cases h
    · exact .inl (hheld (by simp [powerHeld, h]))
  · exact .inl (hheld (by simp [powerHeld, h]))
  · exact .inl (hheld (by simp [powerHeld, h]))

theorem powerKept_commitWork (n : FrameNo) {s : State} {c : Carrier} (hs : PowerKept s c) (hl : s.port.link = .running) :
    PowerKept (commitWork n s) c := by
  rw [commitWork_eq]
  have h := powerKept_commitParts n hs hl
  unfold rederiveAfterCommit
  split
  · exact powerKept_linkAbort _ (s := (commitParts n s).setFreeCount _) h
  · exact h

/-! ### The frame-start work -/

theorem handAnnouncement_pcu (s : State) (c : Carrier) :
    ((handAnnouncement s).pcu.get c).atpc = (s.pcu.get c).atpc ∧
    ((handAnnouncement s).pcu.get c).period = (s.pcu.get c).period ∧
    ((handAnnouncement s).pcu.get c).eff = (s.pcu.get c).eff := by
  unfold handAnnouncement
  split
  · simp [recordPowerShadows_get]
  · exact ⟨rfl, rfl, rfl⟩

theorem discardShadows_pcu (s : State) (c : Carrier) :
    (discardShadows s).pcu.get c = { s.pcu.get c with shadow := none } := by
  simp [discardShadows, discardPowerShadows]

theorem laneStep3_pcu (n : FrameNo) (s : State) (c : Carrier) :
    ((laneStep3 n s).pcu.get c).atpc = (s.pcu.get c).atpc ∧ ((laneStep3 n s).pcu.get c).period = (s.pcu.get c).period ∧
    ((laneStep3 n s).pcu.get c).eff = (s.pcu.get c).eff := handAnnouncement_pcu _ c

theorem laneStep4_pcu (n : FrameNo) (s : State) (c : Carrier) :
    ((laneStep4 n s).pcu.get c).atpc = (s.pcu.get c).atpc ∧ ((laneStep4 n s).pcu.get c).period = (s.pcu.get c).period ∧
    ((laneStep4 n s).pcu.get c).eff = (s.pcu.get c).eff := by
  unfold laneStep4
  obtain ⟨h1, h2, h3⟩ := handAnnouncement_pcu ((discardShadows (s.setLane (laneWithdraw s.working restoreMember s.lane))).setLane
    (laneSelect s.working.link n false s.applyPending
      (discardShadows (s.setLane (laneWithdraw s.working restoreMember s.lane))).lane)) c
  rw [State.setLane_pcu, discardShadows_pcu] at h1 h2 h3
  exact ⟨h1, h2, h3⟩

theorem powerShadowTick_same (x : PowerCarrier) :
    (powerShadowTick x).1.atpc = x.atpc ∧ (powerShadowTick x).1.period = x.period ∧ (powerShadowTick x).1.eff = x.eff ∧
    (x.shadow = none → (powerShadowTick x).1.shadow = none) := by
  unfold powerShadowTick
  split
  · next sh h => split <;> exact ⟨rfl, rfl, rfl, fun hn => absurd (hn.symm.trans h) (by simp)⟩
  · exact ⟨rfl, rfl, rfl, fun h => h⟩

theorem powerWork_pcu (s : State) (c : Carrier) :
    (powerWork s).pcu.get c = (powerShadowTick (periodTick (s.pcu.get c))).1 := by
  simp [powerWork]

theorem computeAtten_pcu (loaded : Four (Option Nat)) (s : State) (c : Carrier) :
    (computeAtten loaded s).pcu.get c = { s.pcu.get c with
      eff := if s.enabled c = true
        then effectiveAtten s.working.table ((loaded.get c).getD (s.txActive c)) (s.pcu.get c) else 0 } := by
  simp only [computeAtten, State.setPcu_pcu, Four.get_ofFn]
  cases loaded.get c <;> rfl

theorem effectiveAtten_le (table : List ProfileRecord) (profile : Nat) (x : PowerCarrier) :
    effectiveAtten table profile x ≤ 40 := by
  unfold effectiveAtten
  omega

theorem powerKept_computeAtten (loaded : Four (Option Nat)) {s : State} {c : Carrier} (hs : PowerKept s c) :
    PowerKept (computeAtten loaded s) c := by
  refine powerKept_of_same (by simp) (by simp) (by simp) (by simp) (by rw [computeAtten_pcu]) ?_
    (fun _ h => by rw [computeAtten_pcu]; exact h) hs
  rw [computeAtten_pcu]
  dsimp only
  split
  · exact effectiveAtten_le ..
  · exact Nat.zero_le _

theorem offMuted_computeAtten (loaded : Four (Option Nat)) (s : State) : OffMuted (computeAtten loaded s) := by
  intro c hc
  rw [State.enabled_congr (computeAtten_working ..)] at hc
  rw [computeAtten_pcu]
  simp [hc]

theorem powerKept_restored (n : FrameNo) {s : State} (hlost : s.port.link = .frameLost) {c : Carrier}
    (hs : PowerKept s c) : PowerKept (restored n s) c := by
  obtain ⟨hmax, hheld, heff, -⟩ := hs
  have hatpc : (s.pcu.get c).atpc = 0 := hheld (powerHeld_of_lost hlost c)
  have hpcu : ∃ u : State, (restored n s).pcu.get c = settleHold (u.params c) (powerHeld s c) (powerHeld u c)
      (powerShadowTick (periodTick (s.pcu.get c))).1 := by
    simp only [restored, restoreBlocks, State.setMapper_pcu, settleHolds_pcu, State.setLane_pcu, onEnabledRau_pcu,
      powerWork_pcu]
    exact ⟨_, rfl⟩
  obtain ⟨u, hpcu⟩ := hpcu
  obtain ⟨hatpc1, -, heff1, -⟩ := powerShadowTick_same (periodTick (s.pcu.get c))
  have hzero : ((restored n s).pcu.get c).atpc = 0 := by
    rw [hpcu, settleHold_atpc, hatpc1]
    simp [periodTick, hatpc]
  refine ⟨by rw [hzero]; exact Nat.zero_le _, fun _ => hzero, ?_, fun h => ?_⟩
  · rw [hpcu, settleHold_eff, heff1]; exact heff
  · rw [restored_link] at h; cases h

theorem powerKept_piece {s t : State} (h : Piece s t) {c : Carrier} (hs : PowerKept s c) : PowerKept t c := by
  have shadowFree (hlink : s.port.link = .running) {u : State} (hp : u.port = s.port)
      (hw : u.working = s.working) (hsig : u.sig = s.sig) (hf : u.fault = s.fault)
      (hu : (u.pcu.get c).atpc = (s.pcu.get c).atpc ∧ (u.pcu.get c).period = (s.pcu.get c).period ∧
        (u.pcu.get c).eff = (s.pcu.get c).eff) : PowerKept u c :=
    powerKept_of_same hw hsig (by rw [hf]) (by rw [hp]) hu.1 (hu.2.2 ▸ hs.2.2.1)
      (fun h => by rw [hp, hlink] at h; cases h) hs
  cases h with
  | port p hl => exact powerKept_of_eq (s := s) (t := s.setPort p) rfl rfl rfl hl rfl hs
  | notice d => exact powerKept_handField d none hs
  | power =>
    obtain ⟨hatpc, -, heff, hshadow⟩ := powerShadowTick_same (periodTick (s.pcu.get c))
    exact powerKept_of_same (s := s) (t := powerWork s) rfl rfl rfl rfl (by rw [powerWork_pcu, hatpc]; rfl)
      (by rw [powerWork_pcu, heff]; exact hs.2.2.1) (fun _ h => by rw [powerWork_pcu]; exact hshadow h) hs
  | commit n hlink => exact powerKept_commitWork n hs hlink
  | laneStep3 n hlink => exact shadowFree hlink (by simp) (by simp) (by simp) (by simp) (laneStep3_pcu n s c)
  | laneStep4 n hlink => exact shadowFree hlink (by simp) (by simp) (by simp) (by simp) (laneStep4_pcu n s c)
  | atten loaded => exact powerKept_computeAtten loaded hs
  | restored n hlost => exact powerKept_restored n hlost hs
  | report | events | grace | mapper | rau | laneStep1 | scan => exact hs

/-! ### What holds at the end of a frame start -/

/-- What blind reports and missing notices keep, the hand-overs of a frame start keep. -/
theorem handovers_keeps {P : State → Prop} (hblind : ∀ c u, P u → P (takeBlind c u))
    (hnotice : ∀ c u, P u → P (handField c none u)) (order : FrameOrder) (counted missing : Four Bool)
    (time : HandoverTime) {s : State} (hs : P s) : P (handovers order counted missing time s) := by
  have keepFold {g : State → Carrier → State} (hg : ∀ t c, P t → P (g t c)) (l : List Carrier) (t : State) (ht : P t) :
      P (l.foldl g t) := List.foldlRecOn l g ht fun u hu c _ => hg u c hu
  have hblinds : P (if order.reports = time then takeBlinds counted s else s) := by
    split
    · exact keepFold (fun u c hu => by split; exacts [hblind c u hu, hu]) _ s hs
    · exact hs
  unfold handovers
  dsimp only
  split
  · exact keepFold (fun u c hu => by split; exacts [hnotice c u hu, hu]) _ _ hblinds
  · exact hblinds

/-- A frame start ends with the computation of the attenuation, writes of the port, blind reports and missing notices:
what the computation establishes and these keep holds after it. -/
theorem takeFrameStart_ends {P : State → Prop} (hatten : ∀ loaded u, P (computeAtten loaded u))
    (hport : ∀ p u, P u → P (u.setPort p)) (hblind : ∀ c u, P u → P (takeBlind c u))
    (hnotice : ∀ c u, P u → P (handField c none u)) (n : FrameNo) (order : FrameOrder) (s : State) :
    P (takeFrameStart n order s) := by
  unfold takeFrameStart
  split
  · obtain ⟨pass, e⟩ := restoringFrame_eq n s
    rw [e]
    exact hport _ _ (hport _ _ (hatten _ _))
  · exact hport _ _ (hport _ _ (hatten _ _))
  · rw [ordinaryFrame_eq]
    have hhand {time : HandoverTime} {t : State} (ht : P t) := handovers_keeps hblind hnotice order (countedCarriers s)
      (missingCarriers s) time ht
    exact hhand (hport _ _ (hhand (hport _ _ (hatten _ _))))

theorem offMuted_takeFrameStart (n : FrameNo) (order : FrameOrder) (s : State) : OffMuted (takeFrameStart n order s) :=
  takeFrameStart_ends offMuted_computeAtten (fun _ _ hu => hu)
    (fun c u hu => offMuted_of_eq (by simp [takeBlind]) (fun d => by simp [takeBlind]) hu)
    (fun c u hu => offMuted_of_eq (by simp) (fun d => handField_eff c none u d) hu) n order s

/-! ### Every step -/

theorem takeFrameLoss_pcu (s : State) (c : Carrier) : (takeFrameLoss s).pcu.get c = powerFrameLoss (s.pcu.get c) := by
  have h : (takeFrameLoss s).pcu.get c = powerFrameLoss (((onEnabledRau (lossMuted s) fun _ x => rxFrameLoss x).pcu).get c) := by
    simp [takeFrameLoss, lossSig, lossMapper, lossMuted]
  rw [h, onEnabledRau_pcu, lossMuted]
  simp [lossEst]

theorem powerSound_loadPowerShadow (d : Carrier) {s : State} (hs : PowerSound s) : PowerSound (loadPowerShadow d s) := by
  unfold loadPowerShadow
  split
  · next toP _ =>
    intro c
    obtain ⟨hmax, hheld, heff, hoff, hlost⟩ := hs c
    have hheld' : powerHeld (s.setPcu (s.pcu.set d { (powerShadowTick (s.pcu.get d)).1 with
      eff := if s.enabled d then effectiveAtten s.working.table toP (s.pcu.get d) else 0 })) c = powerHeld s c := rfl
    unfold PowerRecordSound
    rw [hheld', State.setPcu_pcu, Four.get_set]
    split
    · next h =>
      subst h
      obtain ⟨hatpc, -, -, hshadow⟩ := powerShadowTick_same (s.pcu.get c)
      dsimp only
      rw [hatpc]
      refine ⟨hmax, hheld, ?_, fun h => ?_, fun h => hshadow (hlost h)⟩
      · split
        · exact effectiveAtten_le ..
        · exact Nat.zero_le _
      · have : s.enabled c = false := h
        simp [this]
    · exact ⟨hmax, hheld, heff, hoff, hlost⟩
  · exact hs

theorem powerSound_setCombineMode (d : Carrier) (m : CombiningMode) {s : State} (hs : PowerSound s) :
    PowerSound (setCombineMode d m s) := by
  intro c
  have hparams : ((setCombineMode d m s).params c).maxAtten = (s.params c).maxAtten ∧
      ((setCombineMode d m s).params c).enable = (s.params c).enable ∧
      ((setCombineMode d m s).params c).atpcEnable = (s.params c).atpcEnable := by
    simp only [State.params_eq]
    unfold setCombineMode
    dsimp only
    split <;> simp [Four.get_set] <;> split <;> simp_all [State.params_eq]
  obtain ⟨hmax, hen, hatpc⟩ := hparams
  have hrest : (setCombineMode d m s).pcu = s.pcu ∧ (setCombineMode d m s).sig = s.sig ∧
      (setCombineMode d m s).fault = s.fault ∧ (setCombineMode d m s).port = s.port := by
    unfold setCombineMode
    dsimp only
    split <;> exact ⟨rfl, rfl, rfl, rfl⟩
  obtain ⟨hp, hsig, hf, hport⟩ := hrest
  have hx := hs c
  unfold PowerRecordSound powerHeld State.enabled at hx ⊢
  rw [hmax, hen, hatpc, hp, hsig, hf, hport]
  exact hx

theorem powerSound_initial {t : State} (hp : t.pcu = .fill .initial) : PowerSound t := by
  intro c
  unfold PowerRecordSound
  rw [hp, Four.get_fill]
  simp [PowerCarrier.initial]

theorem powerSound_of_same {s t : State} (hw : t.working = s.working) (heff : ∀ c, (t.pcu.get c).eff = (s.pcu.get c).eff)
    (h : ∀ c, PowerKept s c → PowerKept t c) (hs : PowerSound s) : PowerSound t := by
  obtain ⟨hkept, hoff⟩ := (powerSound_iff s).1 hs
  exact (powerSound_iff t).2 ⟨fun c => h c (hkept c), offMuted_of_eq hw heff hoff⟩

theorem powerSound_effect {i : Instr} {s t : State} (h : Effect i s t) (hs : PowerSound s) : PowerSound t := by
  have hkept := ((powerSound_iff s).1 hs).1
  cases h with
  | port p hl =>
    exact powerSound_of_same (s := s) (t := s.setPort p) rfl (fun _ => rfl)
      (fun c => powerKept_of_eq (s := s) (t := s.setPort p) rfl rfl rfl hl rfl) hs
  | report d a b errors => exact powerSound_of_same (by simp) (by simp) (fun c => powerKept_of_eq (by simp) (by simp) (by simp) (by simp) (by simp)) hs
  | field d f => exact powerSound_of_same (by simp) (handField_eff d f s) (fun c => powerKept_handField d f) hs
  | frameStart n order =>
    exact (powerSound_iff _).2 ⟨fun c => (pieces_takeFrameStart n order s).keeps (P := fun u => PowerKept u c)
      (fun _ _ hp hu => powerKept_piece hp hu) (hkept c), offMuted_takeFrameStart n order s⟩
  | powerShadow d => exact powerSound_loadPowerShadow d hs
  | commit n hlink =>
    exact (powerSound_iff _).2 ⟨fun c => powerKept_of_eq (s := computeAtten (.fill none) (commitWork n s)) rfl rfl rfl rfl rfl
      (powerKept_computeAtten _ (powerKept_commitWork n (hkept c) hlink)), offMuted_computeAtten (.fill none) (commitWork n s)⟩
  | frameLoss =>
    intro c
    obtain ⟨-, -, heff, hoff, -⟩ := hs c
    unfold PowerRecordSound
    rw [State.enabled_congr (takeFrameLoss_working s), takeFrameLoss_pcu]
    exact ⟨Nat.zero_le _, fun _ => rfl, heff, hoff, fun _ => rfl⟩
  | faultLevel v => exact powerSound_of_same (by simp) (takeFaultLevel_eff v s) (fun c => powerKept_takeFaultLevel v) hs
  | powerOn => exact powerSound_initial rfl
  | reset => exact powerSound_initial rfl
  | combine d m => exact powerSound_setCombineMode d m hs
  | abort => exact powerSound_of_same (by simp) (linkAbort_eff _ s) (fun c => powerKept_linkAbort _) hs
  | resume => exact powerSound_of_same (by simp) (linkResume_eff s) (fun c => powerKept_linkResume) hs
  | intake | events | hml | freeCount | graceExpiry | window | rxSwitch | timeout | announcementSwitch | mapShadow
  | staged | applied | hostPause | txHold => exact hs

/-- Settles O9: every operation keeps the limits and the holds, and each frame start and commit ends with the computation
of the attenuation. -/
theorem powerStaysSound : Obligations.PowerStaysSound := fun _ _ hs h =>
  step_keeps (P := PowerSound) (fun _ => id) (fun _ _ _ _ heff hu => powerSound_effect heff hu) hs h

end Sys2Proof.Machine
end

section
/-! The Change Lane's operations on one carrier's items, and on the lane, keep its bounds and step rules (R62, R129,
R134, R138). -/
namespace Sys2Proof.Machine

/-! ### The rules for entries and items -/

/-- The part of an entry's rules that does not turn on profiles: who may hold it, and no internal or aborted UP. -/
def EntryAllowed (enabled : Bool) (running : Prop) (aborted : Bool) (e : Entry) : Prop :=
  enabled = true ∧ running ∧ (aborted = true → e.kind ≠ .up) ∧ (e.isOwn = true → e.kind ≠ .up)

theorem entrySound_iff (T active bound : Nat) (e : Entry) : EntrySound T active bound e ↔
    (e.isOwn = false → e.kind = .up → e.target = active + 1 ∧ e.target < T) ∧
    (e.isOwn = false → e.kind ≠ .up → e.target < active) ∧
    (e.isOwn = true → e.kind ≠ .up ∧ e.target < bound) := by
  cases e with
  | far seq kind target arrival restored => cases kind <;> simp [EntrySound, Entry.isOwn, Entry.kind, Entry.target]
  | own maker kind target absorbed => cases kind <;> simp [EntrySound, Entry.isOwn, Entry.kind, Entry.target]

theorem entrySound_mono {T active bound bound' : Nat} {e : Entry} (h : bound ≤ bound') (he : EntrySound T active bound e) :
    EntrySound T active bound' e := by
  rw [entrySound_iff] at he ⊢
  exact ⟨he.1, he.2.1, fun ho => ⟨(he.2.2 ho).1, lt_of_lt_of_le (he.2.2 ho).2 h⟩⟩

/-- One carrier's lane items within the bound of R62 and the step rules of R129. -/
def ItemsFit (T bound : Nat) (enabled : Bool) (running : Prop) (aborted : Bool) (x : LaneCarrier) : Prop :=
  (x.active < T ∨ x.active = 0) ∧
  (∀ e ∈ x.entry, EntrySound T x.active bound e ∧ enabled = true ∧ running ∧ (aborted = true → e.kind ≠ .up)) ∧
  (enabled = false → x.active = 0)

section
variable {T bound : Nat} {enabled : Bool} {running : Prop} {aborted : Bool} {x y : LaneCarrier}

theorem ItemsFit.allowed (hx : ItemsFit T bound enabled running aborted x) :
    ∀ e ∈ x.entry, EntryAllowed enabled running aborted e := fun e he => by
  obtain ⟨hsound, hen, hrun, hab⟩ := hx.2.1 e he
  exact ⟨hen, hrun, hab, fun ho => (((entrySound_iff ..).1 hsound).2.2 ho).1⟩

theorem ItemsFit.mono {bound' : Nat} (h : bound ≤ bound') (hx : ItemsFit T bound enabled running aborted x) :
    ItemsFit T bound' enabled running aborted x :=
  ⟨hx.1, fun e he => ⟨entrySound_mono h (hx.2.1 e he).1, (hx.2.1 e he).2⟩, hx.2.2⟩

/-- Items whose entry stands or goes. -/
theorem ItemsFit.of_entry (ha : y.active = x.active) (he : y.entry = none ∨ y.entry = x.entry)
    (hx : ItemsFit T bound enabled running aborted x) : ItemsFit T bound enabled running aborted y := by
  obtain ⟨hactive, hentry, hoff⟩ := hx
  refine ⟨ha ▸ hactive, fun e h => ?_, fun h => ha ▸ hoff h⟩
  rcases he with he | he
  · rw [he] at h; cases h
  · rw [he] at h; rw [ha]; exact hentry e h

/-- A re-check keeps the kind of an entry and who made it. -/
theorem recheckEntry_kind (ceiling T : Nat) (x : LaneCarrier) :
    ∀ e ∈ (recheckEntry ceiling T x).entry, ∃ e0 ∈ x.entry, e.kind = e0.kind ∧ e.isOwn = e0.isOwn := by
  intro e he
  unfold recheckEntry at he
  split at he
  · next h => rw [h] at he; cases he
  · next h =>
    split at he
    · exact ⟨e, he, rfl, rfl⟩
    · simp at he
  · next h =>
    dsimp only at he
    split at he
    · cases he; rw [h]; exact ⟨_, rfl, rfl, rfl⟩
    · simp at he
  · next h =>
    dsimp only at he
    split at he
    · cases he; rw [h]; exact ⟨_, rfl, rfl, rfl⟩
    · simp at he

/-- What a re-check leaves keeps the step rules, whatever the entry was (R129). -/
theorem recheckEntry_fits {ceiling : Nat} (hceiling : enabled = true → ceiling < T)
    (hactive : x.active < T ∨ x.active = 0) (hoff : enabled = false → x.active = 0)
    (hentry : ∀ e ∈ x.entry, EntryAllowed enabled running aborted e) :
    ItemsFit T x.active enabled running aborted (recheckEntry ceiling T x) := by
  unfold ItemsFit
  rw [recheckEntry_active]
  refine ⟨hactive, fun e he => ?_, hoff⟩
  obtain ⟨e0, he0, hkind, hown⟩ := recheckEntry_kind ceiling T x e he
  obtain ⟨hen, hrun, hab, hup⟩ := hentry e0 he0
  obtain ⟨hstep, hdown⟩ := recheckEntry_entry ceiling T x e he
  refine ⟨(entrySound_iff ..).2 ⟨fun ho hk => ?_, fun _ hk => (hdown (.inr hk)).1, fun ho => ?_⟩, hen, hrun,
    fun h => hkind ▸ hab h⟩
  · exact ⟨(hstep ho hk).1, lt_of_le_of_lt (hstep ho hk).2 (hceiling hen)⟩
  · exact ⟨hkind ▸ hup (hown ▸ ho), (hdown (.inl ho)).1⟩

theorem mergeKind_ne_up (a b : ChangeKind) : mergeKind a b ≠ .up := by
  unfold mergeKind; split <;> decide

/-- An intake of an internal downgrade below the bound (R128). -/
theorem intakeOwn_fits {maker : Internal} {kind : ChangeKind} {target : Nat} (hkind : kind ≠ .up) (htarget : target < bound)
    (henabled : enabled = true) (hrunning : running) (hx : ItemsFit T bound enabled running aborted x) :
    ItemsFit T bound enabled running aborted (intakeOwn maker kind target x) := by
  have own (m : Internal) {k : ChangeKind} {t : Nat} (ab : Option Seq) (hk : k ≠ .up) (ht : t < bound) :
      EntrySound T x.active bound (.own m k t ab) ∧ enabled = true ∧ running ∧
        (aborted = true → (Entry.own m k t ab).kind ≠ .up) :=
    ⟨(entrySound_iff ..).2 ⟨fun h => by simp [Entry.isOwn] at h, fun h => by simp [Entry.isOwn] at h,
      fun _ => ⟨hk, ht⟩⟩, henabled, hrunning, fun _ => hk⟩
  unfold ItemsFit
  rw [intakeOwn_active]
  refine ⟨hx.1, fun e he => ?_, hx.2.2⟩
  unfold intakeOwn at he
  split at he
  · cases he; exact own _ _ hkind htarget
  · rw [giveAnswer_entry] at he; cases he; exact own _ _ hkind htarget
  · cases he; exact own _ _ (mergeKind_ne_up _ _) (lt_of_le_of_lt (Nat.min_le_right ..) htarget)
  · cases he; exact own _ _ (mergeKind_ne_up _ _) (lt_of_le_of_lt (Nat.min_le_right ..) htarget)

/-- A request that the intake does not refuse, clamped, keeps the step rules (R124, R125). -/
theorem entrySound_of_not_refused {ceiling target : Nat} {kind : ChangeKind} {seq : Seq} {frame : Option FrameNo}
    {restored : Bool} (h : ¬ refusedAtIntake kind (clampTarget kind target x.active ceiling T) aborted x = true) :
    EntrySound T x.active bound (.far seq kind (clampTarget kind target x.active ceiling T) frame restored) ∧
      aborted = false := by
  simp only [refusedAtIntake, Bool.or_eq_true, Bool.and_eq_true, decide_eq_true_eq, not_or, not_and] at h
  obtain ⟨⟨⟨⟨hne, hup⟩, hdown⟩, -⟩, hab⟩ := h
  refine ⟨(entrySound_iff ..).2 ⟨fun _ hk => ?_, fun _ hk => ?_, fun ho => by simp [Entry.isOwn] at ho⟩, by simpa using hab⟩
  · have hk : kind = .up := hk
    subst hk
    have := hup rfl
    simp only [Entry.target, clampTarget] at this ⊢
    omega
  · have := hdown hk
    simp only [Entry.target]
    omega

/-- An entry's far side dropped leaves nothing, or an internal entry with no absorbed seq. -/
theorem dropFarSide_entry {o : Option Entry} {e : Entry} (h : dropFarSide o = some e) :
    ∃ maker kind target ab0, e = .own maker kind target none ∧ o = some (.own maker kind target ab0) := by
  cases o with
  | none => cases h
  | some e0 =>
    cases e0 with
    | far => cases h
    | own maker kind target ab => cases h; exact ⟨_, _, _, _, rfl, rfl⟩

/-- What an intake of a request leaves in the table: nothing new, no far side, or the clamped request (R122 to R126). -/
theorem intakeRequest_entry (ceiling T : Nat) (aborted : Bool) (frame : Option FrameNo) (kind : ReqKind) (seq : Seq)
    (target : Nat) (x : LaneCarrier) :
    (intakeRequest ceiling T aborted frame kind seq target x).entry = none ∨
    (intakeRequest ceiling T aborted frame kind seq target x).entry = x.entry ∨
    (intakeRequest ceiling T aborted frame kind seq target x).entry = dropFarSide x.entry ∨
    ∃ k, ¬ refusedAtIntake k (clampTarget k target x.active ceiling T) aborted x = true ∧
      (intakeRequest ceiling T aborted frame kind seq target x).entry =
        some (.far seq k (clampTarget k target x.active ceiling T) frame false) := by
  unfold intakeRequest
  split
  · exact .inr (.inl rfl)
  · split
    · exact .inr (.inl (by simp))
    · split
      · exact .inr (.inr (.inl (by simp)))
      · next k _ =>
        dsimp only
        split
        · next hentry =>
          split
          · exact .inr (.inl (by simp [hentry]))
          · exact .inr (.inl (by simp))
        · split
          · exact .inl (by simp)
          · next hrefused => exact .inr (.inr (.inr ⟨k, hrefused, by simp⟩))

theorem intakeRequest_fits {ceiling target : Nat} {frame : Option FrameNo} {kind : ReqKind} {seq : Seq}
    (henabled : enabled = true) (hrunning : running) (hx : ItemsFit T bound enabled running aborted x) :
    ItemsFit T bound enabled running aborted (intakeRequest ceiling T aborted frame kind seq target x) := by
  rcases intakeRequest_entry ceiling T aborted frame kind seq target x with he | he | he | ⟨k, hrefused, he⟩
  · exact hx.of_entry (intakeRequest_active ..) (.inl he)
  · exact hx.of_entry (intakeRequest_active ..) (.inr he)
  · unfold ItemsFit
    rw [intakeRequest_active, he]
    refine ⟨hx.1, fun e h => ?_, hx.2.2⟩
    obtain ⟨maker, kind, target, ab0, rfl, hentry⟩ := dropFarSide_entry h
    obtain ⟨hs, hrest⟩ := hx.2.1 _ hentry
    exact ⟨(entrySound_iff ..).2 ((entrySound_iff T x.active bound (.own maker kind target ab0)).1 hs), hrest⟩
  · obtain ⟨hs, hab⟩ := entrySound_of_not_refused (bound := bound) (frame := frame) (seq := seq) (restored := false) hrefused
    unfold ItemsFit
    rw [intakeRequest_active, he]
    refine ⟨hx.1, fun e h => ?_, hx.2.2⟩
    cases h
    exact ⟨hs, henabled, hrunning, fun h => absurd (h.symm.trans hab) (by decide)⟩

theorem refuseFarUp_entry (x : LaneCarrier) :
    (refuseFarUp x).active = x.active ∧ ((refuseFarUp x).entry = none ∨ (refuseFarUp x).entry = x.entry) := by
  unfold refuseFarUp
  split
  · exact ⟨by simp, .inl (by simp)⟩
  · exact ⟨rfl, .inr rfl⟩

@[simp] theorem refuseFarSide_active (x : LaneCarrier) : (refuseFarSide x).active = x.active := by
  unfold refuseFarSide
  split
  · split <;> simp
  · rfl

theorem refuseFarSide_entry (x : LaneCarrier) : ∀ e ∈ (refuseFarSide x).entry, ∃ maker kind target absorbed ab0,
    e = .own maker kind target absorbed ∧ x.entry = some (.own maker kind target ab0) := by
  intro e he
  unfold refuseFarSide at he
  split at he
  · next e0 h0 =>
    cases e0 with
    | far seq k t arr r =>
      simp only [Entry.answerSeq?, giveAnswer_entry, h0, dropFarSide] at he
      cases he
    | own maker k t ab =>
      cases ab with
      | none =>
        simp only [Entry.answerSeq?, h0] at he
        cases he
        exact ⟨_, _, _, _, _, rfl, h0⟩
      | some seq =>
        simp only [Entry.answerSeq?, giveAnswer_entry, h0, dropFarSide] at he
        cases he
        exact ⟨_, _, _, _, _, rfl, h0⟩
  · next h0 => rw [h0] at he; cases he

/-- After the refusals of an abort only internal entries stand, so the items keep the rules in ABORTED (R138 step 2). -/
theorem refuseFarSide_fits (hx : ItemsFit T bound enabled running aborted x) :
    ItemsFit T bound enabled running true (refuseFarSide x) := by
  unfold ItemsFit
  rw [refuseFarSide_active]
  refine ⟨hx.1, fun e he => ?_, hx.2.2⟩
  obtain ⟨maker, kind, target, absorbed, ab0, rfl, hentry⟩ := refuseFarSide_entry x e he
  obtain ⟨hs, hen, hrun, -⟩ := hx.2.1 _ hentry
  have hown := ((entrySound_iff ..).1 hs).2.2 rfl
  exact ⟨(entrySound_iff ..).2 ⟨fun h => by simp [Entry.isOwn] at h, fun h => by simp [Entry.isOwn] at h, fun _ => hown⟩,
    hen, hrun, fun _ => hown.1⟩

theorem restoreMember_active (m : Member) (x : LaneCarrier) : (restoreMember m x).active = x.active := by
  unfold restoreMember; (repeat' split) <;> simp

/-- A withdrawn UP member's entry returns only where none stands, and as a far-end UP (R136). -/
theorem restoreMember_allowed {m : Member} (henabled : enabled = true) (hrunning : running) (hab : aborted = false)
    (hx : ∀ e ∈ x.entry, EntryAllowed enabled running aborted e) :
    ∀ e ∈ (restoreMember m x).entry, EntryAllowed enabled running aborted e := by
  intro e he
  unfold restoreMember at he
  split at he
  · split at he
    · rw [giveAnswer_entry] at he; exact hx e he
    · split at he
      · exact hx e he
      · rw [giveAnswer_entry] at he
        cases he
        exact ⟨henabled, hrunning, fun h => absurd (h.symm.trans hab) (by decide), fun h => by simp [Entry.isOwn] at h⟩
  · exact hx e he

@[simp] theorem refuseMember_active (m : Member) (x : LaneCarrier) : (refuseMember m x).active = x.active := by
  unfold refuseMember; split <;> simp

@[simp] theorem refuseMember_entry (m : Member) (x : LaneCarrier) : (refuseMember m x).entry = x.entry := by
  unfold refuseMember; split <;> simp

end

/-! ### Members and bounds -/

theorem Announcement.member?_spec {a : Announcement} {c : Carrier} {m : Member} (h : a.member? c = some m) :
    m ∈ a.members ∧ m.carrier = c :=
  ⟨List.mem_of_find?_eq_some h, by simpa using List.find?_some h⟩

theorem Lane.txBound_idle {l : Lane} (h : l.announcement = none) (c : Carrier) : l.txBound c = (l.carriers.get c).active := by
  simp [Lane.txBound, Lane.memberOf, h]

theorem Lane.txBound_of_not_member {l : Lane} {a : Announcement} (h : l.announcement = some a) {c : Carrier}
    (hm : a.member? c = none) : l.txBound c = (l.carriers.get c).active := by
  unfold Announcement.member? at hm
  simp only [Lane.txBound, Lane.memberOf, h, hm]

theorem Lane.txBound_of_member {l : Lane} {a : Announcement} (h : l.announcement = some a) {c : Carrier} {m : Member}
    (hm : a.member? c = some m) : l.txBound c = max (l.carriers.get c).active m.toP := by
  unfold Announcement.member? at hm
  simp only [Lane.txBound, Lane.memberOf, h, hm]

theorem Lane.active_le_txBound (l : Lane) (c : Carrier) : (l.carriers.get c).active ≤ l.txBound c := by
  unfold Lane.txBound
  split
  · exact Nat.le_max_left ..
  · exact le_refl _

/-- The TX bound rests on the announcement's members and the TX active profiles. -/
theorem Lane.txBound_congr {l k : Lane} (ha : k.announcement.map (·.members) = l.announcement.map (·.members)) {c : Carrier}
    (hc : (k.carriers.get c).active = (l.carriers.get c).active) : k.txBound c = l.txBound c := by
  have hm : k.memberOf c = l.memberOf c := by
    unfold Lane.memberOf
    cases hk : k.announcement <;> cases hl : l.announcement <;> simp_all
  unfold Lane.txBound
  rw [hm, hc]

theorem Lane.update_get (l : Lane) (c d : Carrier) (f : LaneCarrier → LaneCarrier) :
    (l.update c f).carriers.get d = if d = c then f (l.carriers.get c) else l.carriers.get d := by
  simp [Lane.update, Four.get_set]

@[simp] theorem Lane.update_announcement (l : Lane) (c : Carrier) (f : LaneCarrier → LaneCarrier) :
    (l.update c f).announcement = l.announcement := rfl

/-! ### The lane -/

/-- The Change Lane keeps its bounds and step rules under a working set (R62, R129, R134, R138). -/
def LaneFits (w : WorkingSet) (running : Prop) (aborted : Bool) (l : Lane) : Prop :=
  (∀ c, ItemsFit w.table.length (l.txBound c) (w.carriers.get c).enable running aborted (l.carriers.get c)) ∧
  ∀ a ∈ l.announcement, AnnouncementSound w.table.length (fun c => (w.carriers.get c).enable) l a ∧ running ∧
    (aborted = true → a.kind = .up → a.count = 1)

/-- The ceilings of the enabled carriers lie below the table length (R59, R183). -/
def CeilingsFit (w : WorkingSet) : Prop := ∀ c, (w.carriers.get c).enable = true → (w.carriers.get c).txCeiling < w.table.length

theorem ceilingsFit_of_configSound {s : State} (hs : ConfigSound s) : CeilingsFit s.working := fun c hc =>
  (hs.2.2.2.1 c hc).2.2

section
variable {w : WorkingSet} {running : Prop} {aborted : Bool} {l k : Lane}

/-- An announcement is sound for a lane by its TX active profiles alone. -/
theorem announcementSound_congr {T : Nat} {enabled : Carrier → Bool} {a : Announcement}
    (hactive : ∀ c, (k.carriers.get c).active = (l.carriers.get c).active) (h : AnnouncementSound T enabled l a) :
    AnnouncementSound T enabled k a := by
  obtain ⟨hne, hnodup, hen, hmembers, hone, hcount⟩ := h
  refine ⟨hne, hnodup, hen, fun m hm => ?_, hone, hcount⟩
  obtain ⟨hfrom, hto, hstep⟩ := hmembers m hm
  exact ⟨by rw [hactive]; exact hfrom, hto, hstep⟩

/-- Items rewritten under the same announcement and profiles. -/
theorem laneFits_of_items {aborted' : Bool} (ha : k.announcement = l.announcement)
    (hactive : ∀ c, (k.carriers.get c).active = (l.carriers.get c).active)
    (hitems : ∀ c, ItemsFit w.table.length (l.txBound c) (w.carriers.get c).enable running aborted' (k.carriers.get c))
    (hup : ∀ a ∈ l.announcement, aborted' = true → a.kind = .up → a.count = 1)
    (hl : LaneFits w running aborted l) : LaneFits w running aborted' k := by
  refine ⟨fun c => ?_, fun a h => ?_⟩
  · rw [Lane.txBound_congr (by rw [ha]) (hactive c)]
    exact hitems c
  · rw [ha] at h
    obtain ⟨hann, hrun, -⟩ := hl.2 a h
    exact ⟨announcementSound_congr hactive hann, hrun, hup a h⟩

theorem laneFits_update {c : Carrier} {f : LaneCarrier → LaneCarrier} (hactive : ∀ x, (f x).active = x.active)
    (hf : ItemsFit w.table.length (l.txBound c) (w.carriers.get c).enable running aborted (f (l.carriers.get c)))
    (hl : LaneFits w running aborted l) : LaneFits w running aborted (l.update c f) := by
  refine laneFits_of_items (l := l) rfl (fun d => ?_) (fun d => ?_) (fun a ha => (hl.2 a ha).2.2) hl
  · rw [Lane.update_get]
    split
    · next h => rw [hactive, h]
    · rfl
  · rw [Lane.update_get]
    split
    · next h => rw [h]; exact hf
    · exact hl.1 d

theorem txBound_update {c d : Carrier} {f : LaneCarrier → LaneCarrier} (hactive : ∀ x, (f x).active = x.active) :
    (l.update c f).txBound d = l.txBound d := by
  refine Lane.txBound_congr (l := l) (k := l.update c f) rfl ?_
  rw [Lane.update_get]
  split
  · next h => rw [hactive, h]
  · rfl

/-- A switch (R130): the members' profiles below the table length, their entries re-checked, no announcement left. -/
theorem laneFits_laneSwitch {a : Announcement} (hceilings : CeilingsFit w) (ha : l.announcement = some a)
    (hl : LaneFits w running aborted l) : LaneFits w running aborted (laneSwitch w a l).1 := by
  obtain ⟨⟨-, -, hen, hmembers, -⟩, -⟩ := hl.2 a ha
  refine ⟨fun c => ?_, fun b hb => by cases hb⟩
  rw [Lane.txBound_idle rfl]
  simp only [laneSwitch, Four.get_ofFn]
  split
  · next m hm =>
    obtain ⟨hmem, rfl⟩ := Announcement.member?_spec hm
    unfold recheckFor
    rw [recheckEntry_active]
    exact recheckEntry_fits (hceilings _) (.inl (hmembers m hmem).2.1)
      (fun h => absurd (h.symm.trans (hen m hmem)) (by decide)) (hl.1 _).allowed
  · next hm =>
    have := hl.1 c
    rwa [Lane.txBound_of_not_member ha hm] at this

theorem txBound_laneSwitch_le {a : Announcement} (ha : l.announcement = some a) (c : Carrier) :
    (laneSwitch w a l).1.txBound c ≤ l.txBound c := by
  rw [Lane.txBound_idle rfl]
  simp only [laneSwitch, Four.get_ofFn]
  split
  · next m hm =>
    rw [Lane.txBound_of_member ha hm, recheckFor, recheckEntry_active]
    exact Nat.le_max_right ..
  · exact Lane.active_le_txBound l c

theorem laneFits_laneCountdown (hceilings : CeilingsFit w) (hl : LaneFits w running aborted l) :
    LaneFits w running aborted (laneCountdown w l).1 := by
  unfold laneCountdown
  split
  · next a ha =>
    split
    · exact laneFits_laneSwitch hceilings ha hl
    · next hdue =>
      obtain ⟨⟨hne, hnodup, hen, hmembers, hone, hcount⟩, hrun, hab⟩ := hl.2 a ha
      have hlate : ¬ a.count ≤ 1 := by simpa [announcementDue, ha] using hdue
      refine ⟨fun c => ?_, fun b hb => ?_⟩
      · have hbound := Lane.txBound_congr (l := l) (k := { l with announcement := some { a with count := a.count - 1 } })
          (c := c) (by simp [ha]) rfl
        exact (hl.1 c).mono (le_of_eq hbound.symm)
      · cases hb
        refine ⟨⟨hne, hnodup, hen, hmembers, hone, by dsimp only; omega⟩, hrun, fun h hk => ?_⟩
        have := hab h hk
        omega
  · exact hl

theorem txBound_laneCountdown_le (c : Carrier) : (laneCountdown w l).1.txBound c ≤ l.txBound c := by
  unfold laneCountdown
  split
  · next a ha =>
    split
    · exact txBound_laneSwitch_le ha c
    · exact le_of_eq (Lane.txBound_congr (l := l) (k := { l with announcement := some { a with count := a.count - 1 } })
        (c := c) (by simp [ha]) rfl)
  · exact le_refl _

/-! ### The bundle and the upgrade -/

/-- A carrier has a DOWN or URGENT entry. -/
def downEntry (l : Lane) (c : Carrier) : Bool :=
  match (l.carriers.get c).entry with
  | some e => e.isDown
  | none => false

theorem hasDown_iff (l : Lane) : hasDown l = true ↔ ∃ c, downEntry l c = true :=
  List.any_eq_true.trans ⟨fun ⟨c, _, h⟩ => ⟨c, h⟩, fun ⟨c, h⟩ => ⟨c, c.mem_all, h⟩⟩

theorem mem_bundleMembers {l : Lane} {m : Member} : m ∈ bundleMembers l ↔
    ∃ c e, (l.carriers.get c).entry = some e ∧ e.isDown = true ∧ m = entryMember c (l.carriers.get c) e := by
  unfold bundleMembers
  rw [List.mem_filterMap]
  constructor
  · rintro ⟨c, -, h⟩
    split at h
    · next e he =>
      obtain ⟨hdown, hm⟩ := Option.ite_none_right_eq_some.1 h
      exact ⟨c, e, he, hdown, (Option.some.inj hm).symm⟩
    · cases h
  · rintro ⟨c, e, he, hdown, rfl⟩
    exact ⟨c, c.mem_all, by simp [he, hdown]⟩

/-- The member that a carrier gives to the bundle, if it gives one. -/
def bundleMember (l : Lane) (c : Carrier) : Option Member :=
  match (l.carriers.get c).entry with
  | some e => if e.isDown then some (entryMember c (l.carriers.get c) e) else none
  | none => none

theorem bundleMembers_eq (l : Lane) : bundleMembers l = Carrier.all.filterMap (bundleMember l) := rfl

theorem bundleMember_carrier (l : Lane) (c : Carrier) :
    (bundleMember l c).map Member.carrier = Option.guard (downEntry l) c := by
  unfold bundleMember downEntry Option.guard
  split
  · next h => split <;> simp_all [entryMember]
  · next h => simp [h]

/-- The bundle's members, by carrier, are the carriers with a DOWN or URGENT entry, in carrier order. -/
theorem bundleMembers_carriers (l : Lane) : (bundleMembers l).map (·.carrier) = Carrier.all.filter (downEntry l) := by
  rw [bundleMembers_eq, List.map_filterMap, ← List.filterMap_eq_filter]
  exact List.filterMap_congr fun c _ => bundleMember_carrier l c

theorem upAge_eq_some {n : FrameNo} {x : LaneCarrier} {age : Nat} (h : upAge n x = some age) :
    ∃ seq t arrival restored, x.entry = some (.far seq .up t arrival restored) := by
  unfold upAge at h
  split at h
  · next he => exact ⟨_, _, _, _, he⟩
  · cases h

theorem foldl_olderUp_mem (n : FrameNo) (l : Lane) (cs : List Carrier) (best : Option (Carrier × Nat))
    (hbest : ∀ p ∈ best, upAge n (l.carriers.get p.1) = some p.2) :
    ∀ p ∈ cs.foldl (olderUp n l) best, upAge n (l.carriers.get p.1) = some p.2 := by
  induction cs generalizing best with
  | nil => exact hbest
  | cons c cs ih =>
    refine ih _ fun p hp => ?_
    unfold olderUp at hp
    cases hage : upAge n (l.carriers.get c) with
    | none => exact hbest p (by simpa [hage] using hp)
    | some age =>
      cases best with
      | none =>
        obtain rfl : (c, age) = p := by simpa [hage] using hp
        exact hage
      | some q =>
        simp only [hage] at hp
        split at hp
        · cases hp; exact hage
        · exact hbest p hp

/-- The chosen carrier has an UP entry. -/
theorem chooseUp_entry {n : FrameNo} {l : Lane} {c : Carrier} (h : chooseUp n l = some c) :
    ∃ seq t arrival restored, (l.carriers.get c).entry = some (.far seq .up t arrival restored) := by
  obtain ⟨⟨d, age⟩, hp, rfl⟩ := Option.map_eq_some_iff.1 h
  exact upAge_eq_some (foldl_olderUp_mem n l Carrier.all none (fun p hp => by cases hp) _ hp)

section
variable {link : LinkParams} {n : FrameNo} (hlink : LinkInRange link) (hrun : running) (hidle : l.announcement = none)
  (hl : LaneFits w running aborted l)
include hlink hrun hidle hl

theorem laneFits_startBundle (hdown : hasDown l = true) : LaneFits w running aborted (startBundle link n l) := by
  obtain ⟨-, -, -, -, -, -, -, -, -, -, -, -, -, -, -, -, -, ⟨hann1, hann7⟩, hurg1, hurg7⟩ := hlink
  have hget (c : Carrier) : ((startBundle link n l).carriers.get c).active = (l.carriers.get c).active ∧
      (((startBundle link n l).carriers.get c).entry = none ∨
        ((startBundle link n l).carriers.get c).entry = (l.carriers.get c).entry) := by
    simp only [startBundle, Four.get_ofFn]
    split
    · split
      · exact ⟨grantEntry_active _, .inl (grantEntry_entry _)⟩
      · exact ⟨rfl, .inr rfl⟩
    · exact ⟨rfl, .inr rfl⟩
  refine ⟨fun c => ?_, fun a ha => ?_⟩
  · have hc := (hl.1 c).mono (le_of_eq_of_le (Lane.txBound_idle hidle c) (le_trans (le_of_eq (hget c).1.symm)
      (Lane.active_le_txBound (startBundle link n l) c)))
    exact hc.of_entry (hget c).1 (hget c).2
  · cases ha
    refine ⟨⟨fun hnil => ?_, ?_, fun m hm => ?_, fun m hm => ?_, nofun, ?_⟩, hrun, fun _ => nofun⟩
    · obtain ⟨c, hc⟩ := (hasDown_iff l).1 hdown
      have := congrArg (List.map (·.carrier)) hnil
      rw [bundleMembers_carriers] at this
      exact absurd (List.filter_eq_nil_iff.1 this c c.mem_all) (by simp [hc])
    · rw [bundleMembers_carriers]
      exact List.Nodup.filter _ (by decide)
    · obtain ⟨c, e, he, -, rfl⟩ := mem_bundleMembers.1 hm
      exact ((hl.1 c).2.1 e he).2.1
    · obtain ⟨c, e, he, hd, rfl⟩ := mem_bundleMembers.1 hm
      obtain ⟨hs, -⟩ := (hl.1 c).2.1 e he
      rw [Lane.txBound_idle hidle] at hs
      obtain ⟨-, hfar, hown⟩ := (entrySound_iff ..).1 hs
      have hlt : e.target < (l.carriers.get c).active := by
        cases ho : e.isOwn
        · exact hfar ho (by simpa [Entry.isDown] using hd)
        · exact (hown ho).2
      refine ⟨(hget c).1.symm, ?_, hlt⟩
      have := (hl.1 c).1
      simp only [entryMember]
      omega
    · dsimp only
      split <;> omega

theorem laneFits_startUpgrade (hab : aborted = false) {c : Carrier} (hc : chooseUp n l = some c) :
    LaneFits w running aborted (startUpgrade link n c l) := by
  obtain ⟨-, -, -, -, -, -, -, -, -, -, -, -, -, -, -, -, -, ⟨hann1, hann7⟩, -⟩ := hlink
  obtain ⟨seq, t, arrival, restored, he⟩ := chooseUp_entry hc
  unfold startUpgrade
  rw [he]
  have hget (d : Carrier) : ((l.carriers.set c (grantEntry (l.carriers.get c))).get d).active = (l.carriers.get d).active ∧
      (((l.carriers.set c (grantEntry (l.carriers.get c))).get d).entry = none ∨
        ((l.carriers.set c (grantEntry (l.carriers.get c))).get d).entry = (l.carriers.get d).entry) := by
    rw [Four.get_set]
    split
    · next h => rw [h]; exact ⟨grantEntry_active _, .inl (grantEntry_entry _)⟩
    · exact ⟨rfl, .inr rfl⟩
  obtain ⟨hs, hen, -, -⟩ := (hl.1 c).2.1 _ he
  obtain ⟨ht, htT⟩ := ((entrySound_iff ..).1 hs).1 rfl rfl
  refine ⟨fun d => ?_, fun a ha => ?_⟩
  · refine ((hl.1 d).mono ?_).of_entry (hget d).1 (hget d).2
    rw [Lane.txBound_idle hidle]
    exact le_trans (le_of_eq (hget d).1.symm) (Lane.active_le_txBound { announcement := some _, carriers := _ } d)
  · cases ha
    refine ⟨⟨by simp, by simp, fun m hm => ?_, fun m hm => ?_, fun _ => rfl, by dsimp only; omega⟩, hrun,
      fun h => absurd (h.symm.trans hab) (by decide)⟩
    · rw [List.mem_singleton.1 hm]; exact hen
    · rw [List.mem_singleton.1 hm]
      exact ⟨(hget c).1.symm, htT, ht⟩

theorem laneFits_laneSelect {link' : Bool} {applyPending : Bool} (hab : link' = true → aborted = false) :
    LaneFits w running aborted (laneSelect link n link' applyPending l) := by
  unfold laneSelect
  split
  · next hdown => exact laneFits_startBundle hlink hrun hidle hl hdown
  · split
    · next h =>
      simp only [Bool.and_eq_true] at h
      split
      · next c hc => exact laneFits_startUpgrade hlink hrun hidle hl (hab h.1) hc
      · exact hl
    · exact hl

end

/-- A bundle raises no TX bound. -/
theorem txBound_startBundle {link : LinkParams} {n : FrameNo} (hidle : l.announcement = none)
    (hl : LaneFits w running aborted l) (c : Carrier) : (startBundle link n l).txBound c = l.txBound c := by
  have hactive : ((startBundle link n l).carriers.get c).active = (l.carriers.get c).active := by
    simp only [startBundle, Four.get_ofFn]
    split
    · split
      · exact grantEntry_active _
      · rfl
    · rfl
  rw [Lane.txBound_idle hidle]
  cases hm : Announcement.member? _ c with
  | none => rw [Lane.txBound_of_not_member rfl hm, hactive]
  | some m =>
    rw [Lane.txBound_of_member rfl hm, hactive]
    obtain ⟨hmem, hcar⟩ := Announcement.member?_spec hm
    obtain ⟨d, e, he, hd, rfl⟩ := mem_bundleMembers.1 hmem
    obtain rfl : d = c := hcar
    obtain ⟨hs, -⟩ := (hl.1 d).2.1 e he
    rw [Lane.txBound_idle hidle] at hs
    obtain ⟨-, hfar, hown⟩ := (entrySound_iff ..).1 hs
    have hlt : e.target < (l.carriers.get d).active := by
      cases ho : e.isOwn
      · exact hfar ho (by simpa [Entry.isDown] using hd)
      · exact (hown ho).2
    simp only [entryMember]
    omega

/-- A selection that may start no upgrade raises no TX bound. -/
theorem txBound_laneSelect_bundle {link : LinkParams} {n : FrameNo} {applyPending : Bool} (hidle : l.announcement = none)
    (hl : LaneFits w running aborted l) (c : Carrier) :
    (laneSelect link n false applyPending l).txBound c = l.txBound c := by
  unfold laneSelect
  split
  · exact txBound_startBundle hidle hl c
  · simp

/-! ### Withdrawals and aborts -/

theorem laneWithdraw_some {deal : Member → LaneCarrier → LaneCarrier} {a : Announcement} (ha : l.announcement = some a) :
    (laneWithdraw w deal l).announcement = none ∧ ∀ c, (laneWithdraw w deal l).carriers.get c =
      match a.member? c with
      | some m => recheckFor w c (deal m (l.carriers.get c))
      | none => l.carriers.get c := by
  unfold laneWithdraw
  rw [ha]
  exact ⟨rfl, fun c => Four.get_ofFn ..⟩

theorem withdrawable_some (h : withdrawable l = true) : ∃ a, l.announcement = some a ∧ a.kind = .up ∧ 2 ≤ a.count := by
  unfold withdrawable at h
  split at h
  · next a ha =>
    simp only [Bool.and_eq_true, decide_eq_true_eq] at h
    exact ⟨a, ha, h⟩
  · cases h

/-- A withdrawal keeps the rules when each member's entry is dealt with by an allowed one; no bound is raised. -/
theorem laneFits_laneWithdraw {deal : Member → LaneCarrier → LaneCarrier} {a : Announcement} (hceilings : CeilingsFit w)
    (ha : l.announcement = some a) (hactive : ∀ m x, (deal m x).active = x.active)
    (hdeal : ∀ c m, a.member? c = some m → ∀ e ∈ (deal m (l.carriers.get c)).entry,
      EntryAllowed (w.carriers.get c).enable running aborted e)
    (hl : LaneFits w running aborted l) :
    LaneFits w running aborted (laneWithdraw w deal l) ∧ ∀ c, (laneWithdraw w deal l).txBound c ≤ l.txBound c := by
  obtain ⟨hnone, hget⟩ := laneWithdraw_some (w := w) (deal := deal) ha
  have hact (c : Carrier) : ((laneWithdraw w deal l).carriers.get c).active = (l.carriers.get c).active := by
    rw [hget]
    split
    · rw [recheckFor, recheckEntry_active, hactive]
    · rfl
  refine ⟨⟨fun c => ?_, fun b hb => by rw [hnone] at hb; cases hb⟩, fun c => ?_⟩
  · rw [Lane.txBound_idle hnone, hact, hget]
    split
    · next m hm =>
      have := recheckEntry_fits (x := deal m (l.carriers.get c)) (hceilings c) (by rw [hactive]; exact (hl.1 c).1)
        (by rw [hactive]; exact (hl.1 c).2.2) (hdeal c m hm)
      rwa [hactive] at this
    · next hm =>
      have := hl.1 c
      rwa [Lane.txBound_of_not_member ha hm] at this
  · rw [Lane.txBound_idle hnone, hact]
    exact Lane.active_le_txBound l c

/-- The lane of an abort between the withdrawal and the refusals (R138 step 1). -/
def abortWithdrawn (w : WorkingSet) (l : Lane) : Lane := if withdrawable l then laneWithdraw w refuseMember l else l

theorem laneAbort_get (w : WorkingSet) (l : Lane) (c : Carrier) : (laneAbort w l).carriers.get c =
    if (w.carriers.get c).enable = true ∧ 0 < (abortWithdrawn w l).txBound c
    then intakeOwn .abort .urgent 0 (refuseFarSide ((abortWithdrawn w l).carriers.get c))
    else refuseFarSide ((abortWithdrawn w l).carriers.get c) := by
  unfold laneAbort abortWithdrawn
  dsimp only
  rw [Four.get_ofFn]
  simp only [Bool.and_eq_true, decide_eq_true_eq]

theorem laneAbort_announcement (w : WorkingSet) (l : Lane) :
    (laneAbort w l).announcement = (abortWithdrawn w l).announcement := rfl

theorem laneFits_abortWithdrawn (hceilings : CeilingsFit w) (hl : LaneFits w running aborted l) :
    LaneFits w running aborted (abortWithdrawn w l) ∧ (∀ c, (abortWithdrawn w l).txBound c ≤ l.txBound c) ∧
    ∀ a ∈ (abortWithdrawn w l).announcement, a.kind = .up → a.count = 1 := by
  unfold abortWithdrawn
  split
  · next h =>
    obtain ⟨a, ha, -⟩ := withdrawable_some h
    obtain ⟨hfits, hbound⟩ := laneFits_laneWithdraw (deal := refuseMember) hceilings ha (fun _ _ => by simp)
      (fun c m _ e he => (hl.1 c).allowed e (by simpa using he)) hl
    exact ⟨hfits, hbound, fun b hb => by rw [(laneWithdraw_some ha).1] at hb; cases hb⟩
  · next h =>
    refine ⟨hl, fun _ => le_refl _, fun a ha hk => ?_⟩
    have hcount := (hl.2 a ha).1.2.2.2.2.2.1
    have : ¬ 2 ≤ a.count := fun h2 => h (by
      have ha : l.announcement = some a := ha
      simp [withdrawable, ha, hk, h2])
    omega

/-- The lane of an abort keeps the rules of ABORTED (R138). -/
theorem laneFits_laneAbort (hceilings : CeilingsFit w) (hrun : running) (hl : LaneFits w running aborted l) :
    LaneFits w running true (laneAbort w l) ∧ ∀ c, (laneAbort w l).txBound c ≤ l.txBound c := by
  obtain ⟨hfits, hbound, hcount⟩ := laneFits_abortWithdrawn hceilings hl
  have hactive (c : Carrier) : ((laneAbort w l).carriers.get c).active = ((abortWithdrawn w l).carriers.get c).active := by
    rw [laneAbort_get]
    split <;> simp
  refine ⟨laneFits_of_items (laneAbort_announcement w l) hactive (fun c => ?_) (fun a ha _ hk => hcount a ha hk) hfits,
    fun c => ?_⟩
  · rw [laneAbort_get]
    have hfar := refuseFarSide_fits (hfits.1 c)
    split
    · next h => exact intakeOwn_fits (by decide) h.2 h.1 hrun hfar
    · exact hfar
  · rw [Lane.txBound_congr (by rw [laneAbort_announcement]) (hactive c)]
    exact hbound c

end

end Sys2Proof.Machine
end

section
/-! The Change Lane stays sound: every operation of a step writes the lane by the lane's own operations. -/
namespace Sys2Proof.Machine

/-- While an APPLY is pending, the TX bounds lie below the staged length that it was checked against (R59, R60). -/
def BoundsFit (s : State) : Prop :=
  ∀ c, s.applyPending = true → s.enabled c = true → (s.staged.carriers.get c).enable = true →
    s.lane.txBound c < s.staged.tableLength

theorem laneSound_iff (s : State) : LaneSound s ↔
    LaneFits s.working (s.port.link = .running) (decide (s.fault.state = .aborted)) s.lane ∧ BoundsFit s := by
  simp only [LaneFits, ItemsFit, decide_eq_true_eq]
  constructor
  · intro ⟨hitems, hann⟩
    exact ⟨⟨fun c => ⟨(hitems c).1, (hitems c).2.1, (hitems c).2.2.1⟩, hann⟩, fun c => (hitems c).2.2.2⟩
  · intro ⟨⟨hitems, hann⟩, hbound⟩
    exact ⟨fun c => ⟨(hitems c).1, (hitems c).2.1, (hitems c).2.2, hbound c⟩, hann⟩

theorem boundsFit_of_le {s t : State} (hw : t.working = s.working) (hst : t.staged = s.staged)
    (hp : t.applyPending = s.applyPending) (hle : ∀ c, t.lane.txBound c ≤ s.lane.txBound c) (hs : BoundsFit s) :
    BoundsFit t := by
  intro c h1 h2 h3
  rw [hp] at h1
  rw [State.enabled_congr hw] at h2
  rw [hst] at h3 ⊢
  exact lt_of_le_of_lt (hle c) (hs c h1 h2 h3)

theorem laneSound_of_eq {s t : State} (hw : t.working = s.working) (hst : t.staged = s.staged)
    (hp : t.applyPending = s.applyPending) (hl : t.port.link = s.port.link) (hf : t.fault.state = s.fault.state)
    (hlane : t.lane = s.lane) (hs : LaneSound s) : LaneSound t := by
  rw [laneSound_iff] at hs ⊢
  rw [hw, hl, hf, hlane]
  exact ⟨hs.1, boundsFit_of_le hw hst hp (fun c => by rw [hlane]) hs.2⟩

/-- The lane alone rewritten, with no TX bound raised. -/
theorem laneSound_of_lane {s t : State} (hw : t.working = s.working) (hst : t.staged = s.staged)
    (hp : t.applyPending = s.applyPending) (hl : t.port.link = s.port.link) (hf : t.fault.state = s.fault.state)
    (hlane : LaneFits s.working (s.port.link = .running) (decide (s.fault.state = .aborted)) t.lane)
    (hle : ∀ c, t.lane.txBound c ≤ s.lane.txBound c) (hs : LaneSound s) : LaneSound t := by
  rw [laneSound_iff] at hs ⊢
  rw [hw, hl, hf]
  exact ⟨hlane, boundsFit_of_le hw hst hp hle hs.2⟩

/-- One carrier's items rewritten. -/
theorem laneSound_update {s : State} {c : Carrier} {f : LaneCarrier → LaneCarrier} (hactive : ∀ x, (f x).active = x.active)
    (hf : ItemsFit s.working.table.length (s.lane.txBound c) (s.enabled c) (s.port.link = .running)
        (decide (s.fault.state = .aborted)) (s.lane.carriers.get c) →
      ItemsFit s.working.table.length (s.lane.txBound c) (s.enabled c) (s.port.link = .running)
        (decide (s.fault.state = .aborted)) (f (s.lane.carriers.get c)))
    (hs : LaneSound s) : LaneSound (s.setLane (s.lane.update c f)) := by
  have hfits := ((laneSound_iff s).1 hs).1
  exact laneSound_of_lane (s := s) rfl rfl rfl rfl rfl (laneFits_update hactive (hf (hfits.1 c)) hfits)
    (fun d => le_of_eq (txBound_update hactive)) hs

/-! ### Aborts -/

theorem abortLane_lane (s : State) : (abortLane s).lane =
    if s.port.link = .running then laneAbort s.working s.lane else s.lane := by
  unfold abortLane
  split <;> simp_all

theorem linkAbort_lane (cause : AbortCause) (s : State) : (linkAbort cause s).lane =
    if s.port.link = .running then laneAbort s.working s.lane else s.lane := by
  rw [linkAbort_eq, settleHolds_lane, abortUnsettled, onEnabledRau_lane, abortLane_lane]
  rfl

theorem linkAbort_state (cause : AbortCause) (s : State) : (linkAbort cause s).fault.state = .aborted := by
  rw [linkAbort_eq]
  simp [abortUnsettled]

theorem laneSound_linkAbort (cause : AbortCause) {s : State} (hceilings : CeilingsFit s.working) (hs : LaneSound s) :
    LaneSound (linkAbort cause s) := by
  obtain ⟨hfits, hbounds⟩ := (laneSound_iff s).1 hs
  have hnew : LaneFits s.working (s.port.link = .running) true (linkAbort cause s).lane ∧
      ∀ c, (linkAbort cause s).lane.txBound c ≤ s.lane.txBound c := by
    rw [linkAbort_lane]
    split
    · next hlink => exact laneFits_laneAbort hceilings hlink hfits
    · next hlink =>
      refine ⟨⟨fun c => ⟨(hfits.1 c).1, fun e he => absurd ((hfits.1 c).2.1 e he).2.2.1 hlink, (hfits.1 c).2.2⟩,
        fun a ha => absurd (hfits.2 a ha).2.1 hlink⟩, fun c => le_refl _⟩
  rw [laneSound_iff, linkAbort_working, linkAbort_port, linkAbort_state]
  exact ⟨hnew.1, boundsFit_of_le (linkAbort_working ..) (by simp) (by simp) hnew.2 hbounds⟩

theorem laneSound_rederiveDemand (held : Bool) (cause : AbortCause) {s : State} (hceilings : CeilingsFit s.working)
    (hs : LaneSound s) : LaneSound (rederiveDemand held cause s) := by
  unfold rederiveDemand
  split
  · exact laneSound_linkAbort cause hceilings hs
  · exact hs

theorem laneSound_takeEquipFault (c : Carrier) (v : Bool) {s : State} (hceilings : CeilingsFit s.working)
    (hs : LaneSound s) : LaneSound (takeEquipFault c v s) := by
  unfold takeEquipFault
  split
  · exact laneSound_rederiveDemand _ _ (s := (storeFarFault c true s).report _) hceilings hs
  · exact hs

theorem laneSound_takeFaultLevel (v : Bool) {s : State} (hceilings : CeilingsFit s.working) (hs : LaneSound s) :
    LaneSound (takeFaultLevel v s) := by
  unfold takeFaultLevel
  split
  · exact hs
  · dsimp only
    split
    · exact laneSound_rederiveDemand _ _ (s := (s.setFault _).report _) hceilings hs
    · exact hs

theorem laneSound_linkResume {s : State} (hs : LaneSound s) : LaneSound (linkResume s) := by
  obtain ⟨hfits, hbounds⟩ := (laneSound_iff s).1 hs
  have hstate : (linkResume s).fault.state = .running := by simp [linkResume]
  rw [laneSound_iff, linkResume_working, linkResume_port, linkResume_lane, hstate]
  refine ⟨⟨fun c => ⟨(hfits.1 c).1, fun e he => ?_, (hfits.1 c).2.2⟩, fun a ha => ?_⟩,
    boundsFit_of_le (by simp) (by simp) (by simp) (fun c => by simp) hbounds⟩
  · obtain ⟨h1, h2, h3, -⟩ := (hfits.1 c).2.1 e he
    exact ⟨h1, h2, h3, fun h => by simp at h⟩
  · obtain ⟨h1, h2, -⟩ := hfits.2 a ha
    exact ⟨h1, h2, fun h => by simp at h⟩

/-! ### Fields -/

theorem laneSound_dropToBase (c : Carrier) {s : State} (hlink : s.port.link = .running) (hs : LaneSound s) :
    LaneSound (dropToBase c s) := by
  unfold dropToBase
  split
  · next hbound =>
    obtain ⟨hfits, -⟩ := (laneSound_iff s).1 hs
    have henabled : s.enabled c = true := by
      rw [← Bool.not_eq_false]
      intro hoff
      have hzero := (hfits.1 c).2.2 hoff
      cases ha : s.lane.announcement with
      | none => rw [Lane.txBound_idle ha, hzero] at hbound; omega
      | some a =>
        cases hm : a.member? c with
        | none => rw [Lane.txBound_of_not_member ha hm, hzero] at hbound; omega
        | some m =>
          obtain ⟨hmem, rfl⟩ := Announcement.member?_spec hm
          have : s.enabled m.carrier = true := (hfits.2 a ha).1.2.2.1 m hmem
          rw [hoff] at this
          cases this
    exact laneSound_update (fun _ => intakeOwn_active ..)
      (fun hx => intakeOwn_fits (by decide) hbound henabled hlink hx) hs
  · exact hs

theorem laneSound_enterSigLost (c : Carrier) {s : State} (hlink : s.port.link = .running) (hs : LaneSound s) :
    LaneSound (enterSigLost c s) := by
  rw [enterSigLost_eq]
  have hs1 : LaneSound ((settleHolds s (sigLostUnsettled c s)).setLane
      ((settleHolds s (sigLostUnsettled c s)).lane.update c refuseFarUp)) :=
    laneSound_update (s := settleHolds s (sigLostUnsettled c s)) (fun _ => (refuseFarUp_entry _).1)
      (fun hx => hx.of_entry (refuseFarUp_entry _).1 (refuseFarUp_entry _).2) hs
  unfold applyLossPolicy
  split
  · exact laneSound_dropToBase c hlink hs1
  · exact hs1

theorem laneSound_takeInvalid (c : Carrier) {s : State} (hlink : s.port.link = .running) (hs : LaneSound s) :
    LaneSound (takeInvalid c s) := by
  unfold takeInvalid
  dsimp only
  split
  · exact hs
  · split
    · exact laneSound_enterSigLost c hlink hs
    · exact hs

theorem laneSound_routeToLane (c : Carrier) (p : FieldParts) {s : State} (hlink : s.port.link = .running)
    (hc : s.enabled c = true) (hs : LaneSound s) : LaneSound (routeToLane c p s) :=
  laneSound_update (fun _ => intakeRequest_active ..) (fun hx => intakeRequest_fits hc hlink hx) hs

theorem laneSound_routePart (c : Carrier) (p : FieldParts) (ans : AnsKind) {s : State} (hcfg : ConfigSound s)
    (hs : LaneSound s) : LaneSound (routePart c p ans s) :=
  laneSound_takeEquipFault c _ (ceilingsFit_of_configSound hcfg) hs

theorem laneSound_routeFull (c : Carrier) (p : FieldParts) (ans : AnsKind) {s : State} (hcfg : ConfigSound s)
    (hlink : s.port.link = .running) (hc : s.enabled c = true) (hs : LaneSound s) : LaneSound (routeFull c p ans s) := by
  have h := laneSound_routeToLane c p (s := routePart c p ans s) (by simpa [routePart, routeToReceive] using hlink)
    (by rw [State.enabled_congr (s := s) (by simp [routePart, routeToReceive])]; exact hc) (laneSound_routePart c p ans hcfg hs)
  exact laneSound_of_eq (s := routeToLane c p (routePart c p ans s)) (takeMargin_working ..) (takeMargin_staged ..)
    (takeMargin_applyPending ..) (congrArg Port.link (takeMargin_port ..)) (congrArg Supervisor.state (takeMargin_fault ..))
    (takeMargin_lane ..) h

theorem laneSound_recoverSig (c : Carrier) {s : State} (hs : LaneSound s) : LaneSound (recoverSig c s) :=
  laneSound_of_eq (by simp) (by simp) (by simp) (by simp) (by simp) (by simp) hs

theorem configSound_recoverSig (c : Carrier) {s : State} (hs : ConfigSound s) : ConfigSound (recoverSig c s) :=
  configSound_of_eq (by simp) (by simp) (by simp) hs

theorem laneSound_takeValid (c : Carrier) (f : RawField) (ans : AnsKind) {s : State} (hcfg : ConfigSound s)
    (hlink : s.port.link = .running) (hc : s.enabled c = true) (hs : LaneSound s) : LaneSound (takeValid c f ans s) := by
  unfold takeValid
  dsimp only
  split
  · split
    · refine laneSound_routeFull c _ ans (configSound_recoverSig c hcfg) ?_ ?_ (laneSound_recoverSig c hs)
      · rw [recoverSig_port]; exact hlink
      · rw [State.enabled_congr (recoverSig_working ..)]; exact hc
    · exact laneSound_routePart c _ ans (s := storeSig c _ s) hcfg hs
  · exact laneSound_routeFull c _ ans (s := storeSig c _ s) hcfg hlink hc hs

theorem laneSound_handField (c : Carrier) (f : Option RawField) {s : State} (hcfg : ConfigSound s)
    (hlink : s.port.link = .running) (hc : f.isSome = true → s.enabled c = true) (hs : LaneSound s) :
    LaneSound (handField c f s) := by
  unfold handField
  split
  · exact laneSound_takeInvalid c hlink hs
  · split
    · split
      · exact laneSound_takeValid c _ _ hcfg hlink (hc rfl) hs
      · exact laneSound_takeInvalid c hlink hs
    · exact laneSound_takeInvalid c hlink hs

/-! ### The commit -/

theorem commitParts_lane (n : FrameNo) (s : State) :
    (commitParts n s).lane = laneCommit s.working (stagedAsWorking s.staged) s.lane := by
  simp [commitParts, commitFarFault, commitPort, State.setPortCarriers, commitMapper, commitPower, commitSig,
    commitIntake, commitEst, commitRau, committedLane, commitLane, commitConfiguration]

theorem laneCommitCarrier_active (old new : CarrierParams) (T : Nat) (x : LaneCarrier) :
    (laneCommitCarrier old new T x).active = if old.enable = new.enable then x.active else 0 := by
  unfold laneCommitCarrier
  cases old.enable <;> cases new.enable <;> simp
  split <;> simp

theorem laneCommitCarrier_fits {old new : CarrierParams} {T T' bound : Nat} {running : Prop} {aborted : Bool}
    {x : LaneCarrier} (hceiling : new.enable = true → new.txCeiling < T')
    (hactive : old.enable = true → new.enable = true → x.active < T')
    (hrun : running) (hx : ItemsFit T bound old.enable running aborted x) :
    ItemsFit T' (laneCommitCarrier old new T' x).active new.enable running aborted (laneCommitCarrier old new T' x) := by
  have hoff : old.enable = false → ∀ e, ¬ x.entry = some e := fun h e he =>
    absurd ((hx.2.1 e he).2.1.symm.trans h) (by decide)
  rw [laneCommitCarrier_active]
  unfold laneCommitCarrier
  cases hold : old.enable <;> cases hnew : new.enable
  · have hzero := hx.2.2 hold
    exact recheckEntry_fits (fun h => by cases h) (.inr hzero) (fun _ => hzero)
      fun e he => absurd he (hoff hold e)
  · exact recheckEntry_fits (x := { x with active := 0 }) (fun _ => hceiling hnew) (.inr rfl) (fun _ => rfl)
      fun e he => absurd he (hoff hold e)
  · exact ⟨.inr rfl, nofun, fun _ => rfl⟩
  · have hcheck := recheckEntry_fits (enabled := true) (T := T') (fun _ => hceiling hnew) (.inl (hactive hold hnew))
      nofun (by have := hx.allowed; rwa [hold] at this)
    rw [if_pos rfl]
    dsimp only
    split
    · next hlt => exact intakeOwn_fits (by decide) (by rwa [recheckEntry_active] at hlt) rfl hrun hcheck
    · exact hcheck

theorem laneSound_commitParts (n : FrameNo) {s : State} (hcfg : ConfigSound s) (hlink : s.port.link = .running)
    (hp : s.applyPending = true) (hidle : s.lane.announcement = none) (hs : LaneSound s) : LaneSound (commitParts n s) := by
  obtain ⟨hfits, hbounds⟩ := (laneSound_iff s).1 hs
  have hcfg' := configSound_commitWork n hcfg hp
  have hceil := ceilingsFit_of_configSound hcfg'
  rw [commitWork_working] at hceil
  have hlength : (stagedAsWorking s.staged).table.length = s.staged.tableLength := stagedAsWorking_length hcfg.1 (hcfg.2.2.2.2 hp).1
  have hget (c : Carrier) : (laneCommit s.working (stagedAsWorking s.staged) s.lane).carriers.get c =
      laneCommitCarrier (s.params c) ((stagedAsWorking s.staged).carriers.get c) (stagedAsWorking s.staged).table.length
        (s.lane.carriers.get c) := by
    simp [laneCommit, State.params]
  have hnone : (laneCommit s.working (stagedAsWorking s.staged) s.lane).announcement = none := hidle
  rw [laneSound_iff, commitParts_working, commitParts_link, commitParts_lane, (commitParts_fault n s).1]
  refine ⟨⟨fun c => ?_, fun a ha => by rw [hnone] at ha; cases ha⟩, fun c hpend => ?_⟩
  · rw [Lane.txBound_idle hnone, hget]
    refine laneCommitCarrier_fits (hceil c) (fun h1 h2 => ?_) hlink (hfits.1 c)
    rw [hlength, ← Lane.txBound_idle hidle]
    exact hbounds c hp h1 h2
  · have : (commitParts n s).applyPending = false := by
      have := commitWork_applyPending n s
      rw [commitWork_eq, rederiveAfterCommit_applyPending] at this
      exact this
    rw [this] at hpend
    cases hpend

theorem laneSound_commitWork (n : FrameNo) {s : State} (hcfg : ConfigSound s) (hlink : s.port.link = .running)
    (hp : s.applyPending = true) (hidle : s.lane.isIdle = true) (hs : LaneSound s) : LaneSound (commitWork n s) := by
  have hceil := ceilingsFit_of_configSound (configSound_commitWork n hcfg hp)
  rw [commitWork_working, ← commitParts_working n] at hceil
  have h := laneSound_commitParts n hcfg hlink hp (Option.isNone_iff_eq_none.1 hidle) hs
  rw [commitWork_eq]
  unfold rederiveAfterCommit
  split
  · exact laneSound_linkAbort _ (s := (commitParts n s).setFreeCount _) hceil h
  · exact h

/-! ### The frame-start work -/

theorem laneSound_laneStep1 {s : State} (hcfg : ConfigSound s) (hs : LaneSound s) : LaneSound (laneStep1 s) :=
  laneSound_of_lane (s := s) rfl rfl rfl rfl rfl
    (laneFits_laneCountdown (ceilingsFit_of_configSound hcfg) ((laneSound_iff s).1 hs).1) (fun c => txBound_laneCountdown_le c) hs

theorem laneStep3_lane (n : FrameNo) (s : State) : (laneStep3 n s).lane =
    laneSelect s.working.link n (s.fault.state = .running) s.applyPending s.lane := by
  simp [laneStep3]

theorem laneStep4_lane (n : FrameNo) (s : State) : (laneStep4 n s).lane =
    laneSelect s.working.link n false s.applyPending (laneWithdraw s.working restoreMember s.lane) := by
  simp [laneStep4]

theorem laneSound_laneStep3 (n : FrameNo) {s : State} (hcfg : ConfigSound s) (hlink : s.port.link = .running)
    (hp : s.applyPending = false) (hidle : s.lane.isIdle = true) (hs : LaneSound s) : LaneSound (laneStep3 n s) := by
  rw [laneSound_iff, laneStep3_working, laneStep3_port, laneStep3_fault, laneStep3_lane]
  refine ⟨laneFits_laneSelect hcfg.2.1.1 hlink (Option.isNone_iff_eq_none.1 hidle) ((laneSound_iff s).1 hs).1 fun h => ?_,
    fun c h => ?_⟩
  · rw [decide_eq_true_eq] at h
    rw [h]
    rfl
  · rw [laneStep3_applyPending, hp] at h
    cases h

theorem laneSound_laneStep4 (n : FrameNo) {s : State} (hcfg : ConfigSound s) (hlink : s.port.link = .running)
    (hw : withdrawable s.lane = true) (hs : LaneSound s) : LaneSound (laneStep4 n s) := by
  have hfits := ((laneSound_iff s).1 hs).1
  obtain ⟨a, ha, hkind, hcount⟩ := withdrawable_some hw
  have hab : decide (s.fault.state = .aborted) = false := by
    rw [decide_eq_false_iff_not]
    intro h
    have := (hfits.2 a ha).2.2 (by simpa using h) hkind
    omega
  obtain ⟨hfits1, hbound1⟩ := laneFits_laneWithdraw (deal := restoreMember) (ceilingsFit_of_configSound hcfg) ha restoreMember_active
    (fun c m hm => by
      obtain ⟨hmem, rfl⟩ := Announcement.member?_spec hm
      exact restoreMember_allowed ((hfits.2 a ha).1.2.2.1 m hmem) hlink hab (hfits.1 _).allowed) hfits
  have hidle := (laneWithdraw_some (w := s.working) (deal := restoreMember) ha).1
  refine laneSound_of_lane (laneStep4_working ..) (laneStep4_staged ..) (laneStep4_applyPending ..)
    (congrArg Port.link (laneStep4_port ..)) (congrArg Supervisor.state (laneStep4_fault ..)) ?_ (fun c => ?_) hs
  · rw [laneStep4_lane]
    exact laneFits_laneSelect hcfg.2.1.1 hlink hidle hfits1 fun h => by cases h
  · rw [laneStep4_lane, txBound_laneSelect_bundle hidle hfits1]
    exact hbound1 c

/-! ### Every step -/

theorem laneSound_of_empty {s t : State} (hann : t.lane.announcement = none)
    (hentry : ∀ c, (t.lane.carriers.get c).entry = none)
    (hactive : ∀ c, (t.lane.carriers.get c).active = (s.lane.carriers.get c).active ∨ (t.lane.carriers.get c).active = 0)
    (hw : t.working = s.working) (hst : t.staged = s.staged) (hp : t.applyPending = s.applyPending) (hs : LaneSound s) :
    LaneSound t := by
  obtain ⟨hfits, hbounds⟩ := (laneSound_iff s).1 hs
  rw [laneSound_iff, hw]
  refine ⟨⟨fun c => ⟨?_, fun e he => (by rw [hentry] at he; cases he), fun h => ?_⟩, fun a ha => by rw [hann] at ha; cases ha⟩,
    boundsFit_of_le hw hst hp (fun c => ?_) hbounds⟩
  · rcases hactive c with h | h
    · rw [h]; exact (hfits.1 c).1
    · exact .inr h
  · rcases hactive c with h' | h'
    · rw [h']; exact (hfits.1 c).2.2 h
    · exact h'
  · rw [Lane.txBound_idle hann]
    rcases hactive c with h | h
    · rw [h]; exact Lane.active_le_txBound ..
    · rw [h]; exact Nat.zero_le _

theorem takeFrameLoss_lane (s : State) : (takeFrameLoss s).lane = laneFrameLoss s.lane := by
  have h : (takeFrameLoss s).lane = laneFrameLoss (onEnabledRau (lossMuted s) fun _ x => rxFrameLoss x).lane := rfl
  rw [h, onEnabledRau_lane]
  simp [lossMuted, lossEst]

theorem restored_lane (n : FrameNo) (s : State) : (restored n s).lane = laneRestore s.working s.lane := by
  simp [restored, restoreBlocks, restoredPort]

theorem laneSound_restored (n : FrameNo) {s : State} (hlost : s.port.link = .frameLost) (hs : LaneSound s) :
    LaneSound (restored n s) := by
  have hfits := ((laneSound_iff s).1 hs).1
  have hnot : ¬ s.port.link = .running := by rw [hlost]; decide
  refine laneSound_of_empty ?_ (fun c => ?_) (fun c => ?_) (by simp [restored, restoredPort])
    (by simp [restored, restoredPort]) (by simp [restored, restoredPort]) hs
  · rw [restored_lane]
    exact Option.eq_none_iff_forall_not_mem.2 fun a ha => hnot (hfits.2 a ha).2.1
  · have : (s.lane.carriers.get c).entry = none :=
      Option.eq_none_iff_forall_not_mem.2 fun e he => hnot ((hfits.1 c).2.1 e he).2.2.1
    simp only [restored_lane, laneRestore, Four.get_ofFn]
    split <;> exact this
  · simp only [restored_lane, laneRestore, Four.get_ofFn]
    split
    · exact .inr rfl
    · exact .inl rfl

theorem laneSound_staged {x : StagedSet} {s : State} (h : StagedWrite s.applyPending s.staged x) (hs : LaneSound s) :
    LaneSound (s.setStaged x) := by
  rw [laneSound_iff] at hs ⊢
  refine ⟨hs.1, fun c hp hc he => ?_⟩
  have hbound := hs.2 c hp hc
  cases h with
  | link | cls => exact hbound he
  | carrier payload d p hread hlimits =>
    refine hbound ?_
    have hsame := (changesLimits_eq_false_iff _ _).1 (hlimits hp)
    simp only [State.setStaged_staged, Four.get_set] at he
    split at he
    · next hd => rw [hd, ← hsame.1]; exact he
    · exact he
  | profile slot payload r hread hfree => exact absurd (hp.symm.trans hfree) (by decide)
  | length n hn hfree => exact absurd (hp.symm.trans hfree) (by decide)

theorem laneSound_applied {s : State} (hl : limitsOk s = true) (hs : LaneSound s) : LaneSound (s.setApplyPending true) := by
  rw [laneSound_iff] at hs ⊢
  refine ⟨hs.1, fun c _ hc he => ?_⟩
  have h := carrierLimitsOk_of_limitsOk hl c
  have hc : s.enabled c = true := hc
  have he : (s.staged.carriers.get c).enable = true := he
  simp only [carrierLimitsOk, he, hc, Bool.not_true, Bool.false_or, Bool.and_eq_true, decide_eq_true_eq] at h
  exact h.2.2

theorem laneSound_setCombineMode (c : Carrier) (m : CombiningMode) {s : State} (hs : LaneSound s) :
    LaneSound (setCombineMode c m s) := by
  have hparams (d : Carrier) : ((setCombineMode c m s).working.carriers.get d).enable = (s.working.carriers.get d).enable ∧
      ((setCombineMode c m s).staged.carriers.get d).enable = (s.staged.carriers.get d).enable := by
    unfold setCombineMode
    dsimp only
    split <;> simp [Four.get_set] <;> split <;> simp_all [State.params_eq]
  have hrest : (setCombineMode c m s).working.table = s.working.table ∧ (setCombineMode c m s).port = s.port ∧
      (setCombineMode c m s).fault = s.fault ∧ (setCombineMode c m s).lane = s.lane ∧
      (setCombineMode c m s).staged.tableLength = s.staged.tableLength ∧
      (setCombineMode c m s).applyPending = s.applyPending := by
    unfold setCombineMode
    dsimp only
    split <;> exact ⟨rfl, rfl, rfl, rfl, rfl, rfl⟩
  obtain ⟨htable, hport, hfault, hlane, hlength, hpending⟩ := hrest
  rw [laneSound_iff] at hs ⊢
  simp only [LaneFits, BoundsFit, State.enabled_eq] at hs ⊢
  simp only [hparams, htable, hport, hfault, hlane, hlength, hpending]
  exact hs

theorem laneSound_initial {t : State} (hl : t.lane = .initial) (hp : t.applyPending = false) : LaneSound t := by
  rw [laneSound_iff, hl]
  refine ⟨⟨fun c => ?_, fun a ha => by cases ha⟩, fun c h => by rw [hp] at h; cases h⟩
  simp [ItemsFit, Lane.initial]

theorem laneSound_piece {s t : State} (h : Piece s t) (hcfg : ConfigSound s) (hs : LaneSound s) : LaneSound t := by
  cases h with
  | port p hl => exact laneSound_of_eq (s := s) (t := s.setPort p) rfl rfl rfl hl rfl rfl hs
  | notice c hlink => exact laneSound_handField c none hcfg hlink (by simp) hs
  | laneStep1 => exact laneSound_laneStep1 hcfg hs
  | commit n hlink hp hidle => exact laneSound_commitWork n hcfg hlink hp hidle hs
  | laneStep3 n hlink hp hidle => exact laneSound_laneStep3 n hcfg hlink hp hidle hs
  | laneStep4 n hlink hw => exact laneSound_laneStep4 n hcfg hlink hw hs
  | restored n hlost => exact laneSound_restored n hlost hs
  | report | events | grace | mapper | power | rau | scan | atten => exact hs

theorem laneSound_effect {i : Instr} {s t : State} (h : Effect i s t) (hcfg : ConfigSound s) (hs : LaneSound s) :
    LaneSound t := by
  cases h with
  | port p hl => exact laneSound_of_eq (s := s) (t := s.setPort p) rfl rfl rfl hl rfl rfl hs
  | field c f hlink hc => exact laneSound_handField c f hcfg hlink (fun _ => hc) hs
  | frameStart n order =>
    exact ((pieces_takeFrameStart n order s).keeps (P := fun u => ConfigSound u ∧ LaneSound u)
      (fun _ _ hp hu => ⟨configSound_piece hp hu.1, laneSound_piece hp hu.1 hu.2⟩) ⟨hcfg, hs⟩).2
  | announcementSwitch => exact laneSound_laneStep1 hcfg hs
  | powerShadow c => unfold loadPowerShadow; split <;> exact hs
  | commit n hlink hp hidle =>
    exact laneSound_of_eq (s := commitWork n s) (by simp) (by simp) (by simp) rfl rfl (by simp)
      (laneSound_commitWork n hcfg hlink hp hidle hs)
  | frameLoss =>
    exact laneSound_of_empty (by rw [takeFrameLoss_lane]; rfl) (fun c => by simp [takeFrameLoss_lane, laneFrameLoss])
      (fun c => .inl (by simp [takeFrameLoss_lane, laneFrameLoss])) (by simp) (by simp) (by simp) hs
  | faultLevel v => exact laneSound_takeFaultLevel v (ceilingsFit_of_configSound hcfg) hs
  | powerOn => exact laneSound_initial rfl rfl
  | reset => exact laneSound_initial rfl rfl
  | staged x hx => exact laneSound_staged hx hs
  | applied ht hl => exact laneSound_applied hl hs
  | txHold c v =>
    refine laneSound_update (fun x => ?_) (fun hx => ?_) hs
    · split
      · exact (refuseFarUp_entry _).1
      · rfl
    · split
      · exact hx.of_entry (refuseFarUp_entry _).1 (refuseFarUp_entry _).2
      · exact hx.of_entry rfl (.inr rfl)
  | combine c m => exact laneSound_setCombineMode c m hs
  | abort => exact laneSound_linkAbort _ (ceilingsFit_of_configSound hcfg) hs
  | resume => exact laneSound_linkResume hs
  | intake | events | hml | freeCount | report | graceExpiry | window | rxSwitch | timeout | mapShadow | hostPause => exact hs

/-- Settles O8: every write of the lane is one of its operations, each of which keeps the bounds and the step rules. -/
theorem laneStaysSound : Obligations.LaneStaysSound := fun _ _ hcfg hs h =>
  (step_keeps (P := fun u => ConfigSound u ∧ LaneSound u) (fun _ => id)
    (fun _ _ _ _ heff hu => ⟨configSound_effect heff hu.1, laneSound_effect heff hu.1 hu.2⟩) ⟨hcfg, hs⟩ h).2

end Sys2Proof.Machine
end

section
/-! Placement (R156 to R159): the order of the visit, what one class takes, and the state of a visit under way. -/
namespace Sys2Proof.Machine

/-! ### The order of the visit -/

theorem mem_visitOrder {classes : Eight ClassRecord} (hclasses : ∀ k, ClassInRange (classes.get k)) (k : Cls) :
    k ∈ visitOrder classes ↔ (classes.get k).active = true := by
  have hpriority : (classes.get k).priority ≤ 7 := (hclasses k).1
  simp only [visitOrder, List.mem_flatMap, List.mem_range, List.mem_filter, Bool.and_eq_true, decide_eq_true_eq]
  exact ⟨fun ⟨_, _, _, h, _⟩ => h, fun h => ⟨_, by omega, k.mem_all, h, rfl⟩⟩

theorem visitOrder_active {classes : Eight ClassRecord} {k : Cls} (h : k ∈ visitOrder classes) :
    (classes.get k).active = true := by
  simp only [visitOrder, List.mem_flatMap, List.mem_filter, Bool.and_eq_true] at h
  obtain ⟨_, _, _, h, _⟩ := h
  exact h

theorem visitOrder_pairwise (classes : Eight ClassRecord) : (visitOrder classes).Pairwise fun j k =>
    (classes.get j).priority < (classes.get k).priority ∨
    ((classes.get j).priority = (classes.get k).priority ∧ j.toNat < k.toNat) := by
  unfold visitOrder
  rw [List.pairwise_flatMap]
  constructor
  · intro p _
    have hall : Cls.all.Pairwise fun j k => j.toNat < k.toNat := by decide
    refine (hall.filter _).imp_of_mem fun {j k} hj hk hlt => .inr ⟨?_, hlt⟩
    simp only [List.mem_filter, Bool.and_eq_true, decide_eq_true_eq] at hj hk
    rw [hj.2.2, hk.2.2]
  · refine (List.pairwise_lt_range (n := 8)).imp fun {p q} hpq j hj k hk => .inl ?_
    simp only [List.mem_filter, Bool.and_eq_true, decide_eq_true_eq] at hj hk
    rw [hj.2.2, hk.2.2]
    exact hpq

theorem visitOrder_nodup (classes : Eight ClassRecord) : (visitOrder classes).Nodup :=
  (visitOrder_pairwise classes).imp fun {j k} h hjk => by subst hjk; omega

theorem length_le_of_nodup_cls {l : List Cls} (h : l.Nodup) : l.length ≤ 8 :=
  (List.subperm_of_subset h fun k _ => k.mem_all).length_le

theorem ringFrom_nodup (home : Carrier) : (ringFrom home).Nodup := by cases home <;> decide

theorem mem_ringFrom (home c : Carrier) : c ∈ ringFrom home := by cases home <;> cases c <;> decide

/-! ### Segments -/

@[simp] theorem segmentSum_nil : segmentSum [] = 0 := rfl
@[simp] theorem segmentSum_cons (seg : Carrier × Nat) (segs : List (Carrier × Nat)) :
    segmentSum (seg :: segs) = seg.2 + segmentSum segs := rfl
@[simp] theorem segmentSum_append (x y : List (Carrier × Nat)) : segmentSum (x ++ y) = segmentSum x + segmentSum y := by
  simp [segmentSum]

/-- The segments on one carrier. -/
def segmentsOn (segs : List (Carrier × Nat)) (c : Carrier) : List (Carrier × Nat) := segs.filter fun seg => seg.1 = c

theorem slotsOn_eq (e : ClassEntry) (c : Carrier) : slotsOn e c = segmentSum (segmentsOn e.segments c) := rfl

theorem takeSegments_get (free : Four Nat) (segs : List (Carrier × Nat)) (c : Carrier) :
    (takeSegments free segs).get c = free.get c - segmentSum (segmentsOn segs c) := by
  unfold takeSegments segmentsOn
  induction segs generalizing free with
  | nil => rfl
  | cons seg segs ih =>
    rw [List.foldl_cons, ih, Four.get_set, List.filter_cons]
    by_cases h : c = seg.1
    · simp [h, Nat.sub_sub]
    · simp [h, Ne.symm h]

theorem addPairs_get (k : Cls) (segs : List (Carrier × Nat)) (maps : Four (List (Cls × Nat))) (c : Carrier) :
    (addPairs k segs maps).get c = maps.get c ++ (segmentsOn segs c).map fun seg => (k, seg.2) := by
  unfold addPairs segmentsOn
  induction segs generalizing maps with
  | nil => simp
  | cons seg segs ih =>
    rw [List.foldl_cons, ih, Four.get_set, List.filter_cons]
    by_cases h : c = seg.1
    · simp [h]
    · simp [h, Ne.symm h]

/-- With distinct carriers a class has at most one segment on a carrier. -/
theorem segmentsOn_of_nodup {segs : List (Carrier × Nat)} (h : (segs.map (·.1)).Nodup) (c : Carrier) :
    segmentsOn segs c = [] ∨ ∃ n, segmentsOn segs c = [(c, n)] := by
  induction segs with
  | nil => exact .inl rfl
  | cons seg segs ih =>
    rw [List.map_cons, List.nodup_cons] at h
    unfold segmentsOn
    rw [List.filter_cons]
    split
    · next hc =>
      rw [decide_eq_true_eq] at hc
      have hnone : segs.filter (fun s => decide (s.1 = c)) = [] :=
        List.filter_eq_nil_iff.2 fun s hs => by
          rw [decide_eq_true_eq]
          exact fun hsc => h.1 (List.mem_map.2 ⟨s, hs, hsc.trans hc.symm⟩)
      exact .inr ⟨seg.2, by rw [hnone, ← hc]⟩
    · exact ih h.2

/-! ### What one class takes -/

/-- Round a ring, each carrier gives the smaller of its free count and what remains (R158). -/
theorem splitTake_left (free : Four Nat) (cs : List Carrier) (r : Nat) :
    (splitTake free cs r).2 = r - (cs.map free.get).sum := by
  induction cs generalizing r with
  | nil => rfl
  | cons c cs ih =>
    simp only [splitTake, ih, List.map_cons, List.sum_cons]
    omega

theorem splitTake_sum (free : Four Nat) (cs : List Carrier) (r : Nat) :
    segmentSum (splitTake free cs r).1 = min r (cs.map free.get).sum := by
  induction cs generalizing r with
  | nil => simp [splitTake]
  | cons c cs ih =>
    simp only [splitTake, List.map_cons, List.sum_cons]
    split
    · rw [ih]; omega
    · rw [segmentSum_cons, ih]; dsimp only; omega

theorem splitTake_sublist (free : Four Nat) (cs : List Carrier) (r : Nat) :
    ((splitTake free cs r).1.map (·.1)).Sublist cs := by
  induction cs generalizing r with
  | nil => exact .slnil
  | cons c cs ih =>
    simp only [splitTake]
    split
    · exact (ih _).cons c
    · exact (ih _).cons_cons c

theorem splitTake_counts (free : Four Nat) (cs : List Carrier) (r : Nat) :
    ∀ seg ∈ (splitTake free cs r).1, 1 ≤ seg.2 ∧ seg.2 ≤ free.get seg.1 := by
  induction cs generalizing r with
  | nil => simp [splitTake]
  | cons c cs ih =>
    simp only [splitTake]
    split
    · exact ih _
    · next h =>
      intro seg hseg
      rcases List.mem_cons.1 hseg with rfl | hseg
      · dsimp only; omega
      · exact ih _ seg hseg

theorem splitTake_slots (free : Four Nat) {cs : List Carrier} (hcs : cs.Nodup) (r i : Nat) (c : Carrier)
    (hc : cs[i]? = some c) :
    segmentSum (segmentsOn (splitTake free cs r).1 c) = min (free.get c) (r - ((cs.take i).map free.get).sum) := by
  induction cs generalizing r i with
  | nil => simp at hc
  | cons d cs ih =>
    obtain ⟨hd, hcs⟩ := List.nodup_cons.1 hcs
    simp only [splitTake]
    cases i with
    | zero =>
      obtain rfl : d = c := by simpa using hc
      have hrest : segmentsOn (splitTake free cs (r - min (free.get d) r)).1 d = [] :=
        List.filter_eq_nil_iff.2 fun seg hseg => by
          rw [decide_eq_true_eq]
          rintro rfl
          exact hd ((splitTake_sublist ..).subset (List.mem_map_of_mem hseg))
      split
      · rw [hrest, segmentSum_nil, List.take_zero, List.map_nil, List.sum_nil]
        omega
      · unfold segmentsOn at hrest ⊢
        rw [List.filter_cons, hrest]
        simp
    | succ i =>
      have hc' : cs[i]? = some c := by simpa using hc
      have hne : d ≠ c := fun h => hd (h ▸ List.mem_of_getElem? hc')
      have hget := ih hcs (r - min (free.get d) r) i hc'
      rw [List.take_succ_cons, List.map_cons, List.sum_cons]
      split
      · rw [hget]; omega
      · unfold segmentsOn at hget ⊢
        rw [List.filter_cons]
        simp only [hne, decide_false, Bool.false_eq_true, if_false]
        rw [hget]
        omega

/-- What the placing of one class gives, whatever the free counts: carriers in ring order, counts within the free
ones, and a state that fits them. -/
structure EntryPlaced (r : ClassRecord) (free : Four Nat) (e : ClassEntry) : Prop where
  ring : (e.segments.map (·.1)).Sublist (ringFrom r.home)
  counts : ∀ seg ∈ e.segments, 1 ≤ seg.2 ∧ seg.2 ≤ free.get seg.1
  placed : e.placed = segmentSum e.segments
  active : e.state ≠ .inactive
  held : e.segments = [] ↔ e.state = .shed
  whole : e.state = .placed → e.placed = r.need
  partly : e.state = .partly → r.split = true ∧ e.placed < r.need ∧ r.min.getD r.need ≤ e.placed
  single : r.split = false → e.segments.length ≤ 1

theorem entryPlaced_placeWhole {r : ClassRecord} (hneed : 1 ≤ r.need) (free : Four Nat) :
    EntryPlaced r free (placeWhole r free) := by
  unfold placeWhole
  split
  · next c hc =>
    have hroom : r.need ≤ free.get c := by simpa using List.find?_some hc
    have hring : c ∈ ringFrom r.home := List.mem_of_find?_eq_some hc
    exact { ring := by simpa using hring
            counts := by simpa using ⟨hneed, hroom⟩
            placed := by simp
            active := by simp
            held := by simp
            whole := fun _ => rfl
            partly := nofun
            single := fun _ => by simp }
  · exact { ring := by simp
            counts := by simp
            placed := rfl
            active := by simp
            held := by simp
            whole := nofun
            partly := nofun
            single := fun _ => by simp }

theorem placeSplit_eq (r : ClassRecord) (free : Four Nat) :
    placeSplit r free =
      if r.need ≤ ((ringFrom r.home).map free.get).sum then
        { state := .placed, placed := r.need, segments := (splitTake free (ringFrom r.home) r.need).1 }
      else if r.min.getD r.need ≤ ((ringFrom r.home).map free.get).sum then
        { state := .partly, placed := ((ringFrom r.home).map free.get).sum,
          segments := (splitTake free (ringFrom r.home) r.need).1 }
      else { state := .shed, placed := 0, segments := [] } := by
  have hleft := splitTake_left free (ringFrom r.home) r.need
  have hsum := splitTake_sum free (ringFrom r.home) r.need
  unfold placeSplit
  dsimp only
  rw [hleft, hsum]
  by_cases h : r.need ≤ ((ringFrom r.home).map free.get).sum
  · rw [if_pos (by omega), if_pos h, Nat.min_eq_left h]
  · rw [if_neg (by omega), if_neg h, Nat.min_eq_right (by omega)]

theorem entryPlaced_placeSplit {r : ClassRecord} (hr : ClassInRange r) (hsplit : r.split = true) (free : Four Nat) :
    EntryPlaced r free (placeSplit r free) := by
  obtain ⟨-, ⟨hneed, -⟩, hsome, hmin⟩ := hr
  obtain ⟨m, hm⟩ := Option.isSome_iff_exists.1 (hsome.2 hsplit)
  obtain ⟨hm1, hmneed⟩ := hmin m hm
  have hsum := splitTake_sum free (ringFrom r.home) r.need
  have hring := splitTake_sublist free (ringFrom r.home) r.need
  have hcounts := splitTake_counts free (ringFrom r.home) r.need
  have hnonempty (h : 1 ≤ ((ringFrom r.home).map free.get).sum) : (splitTake free (ringFrom r.home) r.need).1 ≠ [] := by
    intro hnil
    rw [hnil, segmentSum_nil] at hsum
    omega
  rw [placeSplit_eq, hm]
  split
  · next hroom =>
    exact { ring := hring
            counts := hcounts
            placed := by dsimp only; omega
            active := by simp
            held := by simpa using hnonempty (by omega)
            whole := fun _ => rfl
            partly := nofun
            single := fun h => absurd (h.symm.trans hsplit) (by decide) }
  · split
    · next hroom hpart =>
      rw [Option.getD_some] at hpart
      exact { ring := hring
              counts := hcounts
              placed := by dsimp only; omega
              active := by simp
              held := by simpa using hnonempty (by omega)
              whole := nofun
              partly := fun _ => ⟨hsplit, by dsimp only; omega, by rw [hm]; exact hpart⟩
              single := fun h => absurd (h.symm.trans hsplit) (by decide) }
    · exact { ring := by simp
              counts := by simp
              placed := rfl
              active := by simp
              held := by simp
              whole := nofun
              partly := nofun
              single := fun _ => by simp }

theorem entryPlaced_placeClass {r : ClassRecord} (hr : ClassInRange r) (free : Four Nat) :
    EntryPlaced r free (placeClass r free) := by
  unfold placeClass
  split
  · next h => exact entryPlaced_placeSplit hr h free
  · exact entryPlaced_placeWhole hr.2.1.1 free

theorem EntryPlaced.nodup {r : ClassRecord} {free : Four Nat} {e : ClassEntry} (h : EntryPlaced r free e) :
    (e.segments.map (·.1)).Nodup := h.ring.nodup (ringFrom_nodup r.home)

theorem EntryPlaced.slotsOn_le {r : ClassRecord} {free : Four Nat} {e : ClassEntry} (h : EntryPlaced r free e)
    (c : Carrier) : slotsOn e c ≤ free.get c := by
  rw [slotsOn_eq]
  rcases segmentsOn_of_nodup h.nodup c with he | ⟨n, he⟩
  · rw [he]; exact Nat.zero_le _
  · have hmem : (c, n) ∈ segmentsOn e.segments c := by rw [he]; exact List.mem_singleton_self _
    rw [he]
    exact (h.counts _ (List.mem_filter.1 hmem).1).2

/-! ### The visit -/

/-- The slots that the classes of a list hold on a carrier. -/
def heldBy (p : Placement) (ks : List Cls) (c : Carrier) : Nat := (ks.map fun j => slotsOn (p.entries.get j) c).sum

/-- The free counts that a class finds in the visit. -/
def freeAt (cap : Four Nat) (p : Placement) (vs : List Cls) (k : Cls) : Four Nat :=
  .ofFn fun c => cap.get c - heldBy p (vs.takeWhile (· ≠ k)) c

/-- The pairs that the classes of a list, in this order, have in a carrier's map (R159). -/
def pairsOf (p : Placement) (ks : List Cls) (c : Carrier) : List (Cls × Nat) :=
  ks.flatMap fun k => (segmentsOn (p.entries.get k).segments c).map fun seg => (k, seg.2)

theorem mapSum_pairsOf (p : Placement) (ks : List Cls) (c : Carrier) : mapSum (pairsOf p ks c) = heldBy p ks c := by
  unfold mapSum pairsOf heldBy
  induction ks with
  | nil => rfl
  | cons k ks ih =>
    rw [List.flatMap_cons, List.map_append, List.sum_append, ih, List.map_cons, List.sum_cons, slotsOn_eq, segmentSum,
      List.map_map]
    rfl

theorem mem_pairsOf {p : Placement} {ks : List Cls} {c : Carrier} {k : Cls} {n : Nat} :
    (k, n) ∈ pairsOf p ks c ↔ k ∈ ks ∧ (c, n) ∈ (p.entries.get k).segments := by
  simp only [pairsOf, segmentsOn, List.mem_flatMap, List.mem_map, List.mem_filter, decide_eq_true_eq, Prod.mk.injEq,
    Prod.exists]
  constructor
  · rintro ⟨j, hj, d, m, ⟨hmem, rfl⟩, rfl, rfl⟩
    exact ⟨hj, hmem⟩
  · rintro ⟨hk, hmem⟩
    exact ⟨k, hk, c, n, ⟨hmem, rfl⟩, rfl, rfl⟩

theorem pairsOf_classes_sublist {p : Placement} (h : ∀ k, ((p.entries.get k).segments.map (·.1)).Nodup) (ks : List Cls)
    (c : Carrier) : ((pairsOf p ks c).map (·.1)).Sublist ks := by
  unfold pairsOf
  induction ks with
  | nil => exact .slnil
  | cons k ks ih =>
    rw [List.flatMap_cons, List.map_append]
    rcases segmentsOn_of_nodup (h k) c with he | ⟨n, he⟩
    · rw [he]; exact ih.cons k
    · rw [he]; exact ih.cons_cons k

/-- A visit under way: the classes `vs` have been placed, in this order, over the capacities (R157 to R159). -/
structure Visited (cap : Four Nat) (classes : Eight ClassRecord) (vs : List Cls) (acc : Four Nat × Placement) : Prop where
  free : ∀ c, acc.1.get c = cap.get c - heldBy acc.2 vs c
  fits : ∀ c, heldBy acc.2 vs c ≤ cap.get c
  maps : ∀ c, acc.2.maps.get c = pairsOf acc.2 vs c
  others : ∀ k, k ∉ vs → acc.2.entries.get k = .inactive
  entries : ∀ k, k ∈ vs → acc.2.entries.get k = placeClass (classes.get k) (freeAt cap acc.2 vs k)

theorem heldBy_congr {p q : Placement} {ks : List Cls} (h : ∀ j ∈ ks, p.entries.get j = q.entries.get j) (c : Carrier) :
    heldBy p ks c = heldBy q ks c := by
  unfold heldBy
  rw [List.map_congr_left fun j hj => by rw [h j hj]]

theorem heldBy_append (p : Placement) (x y : List Cls) (c : Carrier) :
    heldBy p (x ++ y) c = heldBy p x c + heldBy p y c := by
  simp [heldBy]

theorem takeWhile_append_of_mem {k : Cls} {vs : List Cls} (h : k ∈ vs) (ws : List Cls) :
    (vs ++ ws).takeWhile (· ≠ k) = vs.takeWhile (· ≠ k) := by
  induction vs with
  | nil => cases h
  | cons v vs ih =>
    rw [List.cons_append, List.takeWhile_cons, List.takeWhile_cons]
    split
    · next hv =>
      rw [ih]
      rcases List.mem_cons.1 h with rfl | h
      · simp at hv
      · exact h
    · rfl

theorem takeWhile_ne_of_not_mem {k : Cls} {vs : List Cls} (h : k ∉ vs) (ws : List Cls) :
    (vs ++ k :: ws).takeWhile (· ≠ k) = vs := by
  rw [List.takeWhile_append_of_pos fun v hv => by rw [decide_eq_true_eq]; rintro rfl; exact h hv]
  simp

theorem visited_visitClass {cap : Four Nat} {classes : Eight ClassRecord} (hclasses : ∀ k, ClassInRange (classes.get k))
    {vs : List Cls} {acc : Four Nat × Placement} (h : Visited cap classes vs acc) {k : Cls} (hk : k ∉ vs) :
    Visited cap classes (vs ++ [k]) (visitClass classes acc k) := by
  obtain ⟨hfree, hfits, hmaps, hothers, hentries⟩ := h
  have hplaced := entryPlaced_placeClass (hclasses k) acc.1
  have hnew : (visitClass classes acc k).2.entries.get k = placeClass (classes.get k) acc.1 := by
    simp [visitClass]
  have hold (j : Cls) (hj : j ≠ k) : (visitClass classes acc k).2.entries.get j = acc.2.entries.get j := by
    simp [visitClass, Eight.get_set, hj]
  have holdIn (j : Cls) (hj : j ∈ vs) := hold j (by rintro rfl; exact hk hj)
  have hheld (c : Carrier) : heldBy (visitClass classes acc k).2 (vs ++ [k]) c =
      heldBy acc.2 vs c + slotsOn (placeClass (classes.get k) acc.1) c := by
    rw [heldBy_append, heldBy_congr holdIn]
    simp [heldBy, hnew]
  refine ⟨fun c => ?_, fun c => ?_, fun c => ?_, fun j hj => ?_, fun j hj => ?_⟩
  · rw [hheld]
    have : (visitClass classes acc k).1.get c = acc.1.get c - slotsOn (placeClass (classes.get k) acc.1) c :=
      takeSegments_get ..
    rw [this, hfree, Nat.sub_sub]
  · rw [hheld]
    have := hplaced.slotsOn_le c
    rw [hfree] at this
    have := hfits c
    omega
  · have : (visitClass classes acc k).2.maps.get c = acc.2.maps.get c ++
        (segmentsOn (placeClass (classes.get k) acc.1).segments c).map fun seg => (k, seg.2) := addPairs_get ..
    rw [this, hmaps, pairsOf, pairsOf, List.flatMap_append, List.flatMap_singleton, hnew]
    congr 1
    exact List.flatMap_congr fun j hj => by rw [holdIn j hj]
  · have hne : j ≠ k := by rintro rfl; exact hj (by simp)
    rw [hold j hne]
    exact hothers j fun h => hj (by simp [h])
  · by_cases hjk : j = k
    · subst hjk
      rw [hnew]
      congr 1
      refine Four.ext_get fun c => ?_
      simp only [freeAt, Four.get_ofFn]
      rw [takeWhile_ne_of_not_mem hk, heldBy_congr holdIn, hfree]
    · have hj : j ∈ vs := by simpa [hjk] using hj
      rw [holdIn j hj, hentries j hj]
      congr 1
      refine Four.ext_get fun c => ?_
      simp only [freeAt, Four.get_ofFn]
      rw [takeWhile_append_of_mem hj]
      congr 1
      exact heldBy_congr (fun i hi => (holdIn i (List.takeWhile_sublist _ |>.subset hi)).symm) c

theorem visited_foldl {cap : Four Nat} {classes : Eight ClassRecord} (hclasses : ∀ k, ClassInRange (classes.get k))
    (ks : List Cls) {vs : List Cls} {acc : Four Nat × Placement} (h : Visited cap classes vs acc)
    (hnodup : (vs ++ ks).Nodup) : Visited cap classes (vs ++ ks) (ks.foldl (visitClass classes) acc) := by
  induction ks generalizing vs acc with
  | nil => simpa using h
  | cons k ks ih =>
    have hk : k ∉ vs := fun hk => (List.nodup_append.1 hnodup).2.2 k hk k (List.mem_cons_self ..) rfl
    have := ih (visited_visitClass hclasses h hk) (by simpa using hnodup)
    simpa using this

/-- A placement is a visit that has come to its end. -/
theorem visited_placement (cap : Four Nat) {classes : Eight ClassRecord} (hclasses : ∀ k, ClassInRange (classes.get k)) :
    ∃ free, Visited cap classes (visitOrder classes) (free, placement cap classes) := by
  have hstart : Visited cap classes [] (cap, { maps := .fill [], entries := .fill .inactive }) :=
    ⟨fun c => by simp [heldBy], fun c => by simp [heldBy], fun c => by simp [pairsOf], fun k _ => by simp, nofun⟩
  exact ⟨_, visited_foldl hclasses (visitOrder classes) hstart (by simpa using visitOrder_nodup classes)⟩

/-! ### What a finished visit leaves -/

section
variable {cap : Four Nat} {classes : Eight ClassRecord} {vs : List Cls} {acc : Four Nat × Placement}
  (hclasses : ∀ k, ClassInRange (classes.get k)) (h : Visited cap classes vs acc)
include hclasses h

theorem Visited.entryPlaced {k : Cls} (hk : k ∈ vs) :
    EntryPlaced (classes.get k) (freeAt cap acc.2 vs k) (acc.2.entries.get k) := by
  rw [h.entries k hk]
  exact entryPlaced_placeClass (hclasses k) _

theorem Visited.segments_nodup (k : Cls) : ((acc.2.entries.get k).segments.map (·.1)).Nodup := by
  by_cases hk : k ∈ vs
  · exact (h.entryPlaced hclasses hk).nodup
  · rw [h.others k hk]; exact List.nodup_nil

theorem Visited.classEntrySound (k : Cls) : ClassEntrySound acc.2.maps k (acc.2.entries.get k) := by
  have hpairs (c : Carrier) (n : Nat) : (c, n) ∈ (acc.2.entries.get k).segments ↔ (k, n) ∈ acc.2.maps.get c := by
    rw [h.maps, mem_pairsOf]
    refine ⟨fun hmem => ⟨?_, hmem⟩, fun hmem => hmem.2⟩
    by_contra hk
    rw [h.others k hk] at hmem
    cases hmem
  by_cases hk : k ∈ vs
  · have hplaced := h.entryPlaced hclasses hk
    exact ⟨hplaced.placed, hplaced.nodup, fun seg hseg => (hplaced.counts seg hseg).1, hpairs,
      hplaced.held.trans ⟨.inr, fun h => h.resolve_left hplaced.active⟩⟩
  · have hinactive := h.others k hk
    refine ⟨?_, h.segments_nodup hclasses k, ?_, hpairs, ?_⟩ <;> rw [hinactive] <;> simp [ClassEntry.inactive]

theorem Visited.placementSound (hnodup : vs.Nodup) : PlacementSound acc.2 :=
  ⟨fun c => by
    rw [h.maps]
    exact (pairsOf_classes_sublist (h.segments_nodup hclasses) vs c).nodup hnodup,
   h.classEntrySound hclasses⟩

end

theorem Visited.mapSum_le {cap : Four Nat} {classes : Eight ClassRecord} {vs : List Cls} {acc : Four Nat × Placement}
    (h : Visited cap classes vs acc) (c : Carrier) : mapSum (acc.2.maps.get c) ≤ cap.get c := by
  rw [h.maps, mapSum_pairsOf]
  exact h.fits c

theorem placementSound_placement (cap : Four Nat) {classes : Eight ClassRecord}
    (hclasses : ∀ k, ClassInRange (classes.get k)) : PlacementSound (placement cap classes) := by
  obtain ⟨free, h⟩ := visited_placement cap hclasses
  exact Visited.placementSound (acc := (free, placement cap classes)) hclasses h (visitOrder_nodup classes)

theorem mapSum_placement_le (cap : Four Nat) {classes : Eight ClassRecord}
    (hclasses : ∀ k, ClassInRange (classes.get k)) (c : Carrier) :
    mapSum ((placement cap classes).maps.get c) ≤ cap.get c := by
  obtain ⟨free, h⟩ := visited_placement cap hclasses
  exact h.mapSum_le c

/-! ### The bounds of a placement -/

theorem freeAt_get (cap : Four Nat) (classes : Eight ClassRecord) (p : Placement) (k : Cls) (c : Carrier) :
    (freeAt cap p (visitOrder classes) k).get c = freeBefore cap classes p k c := by
  simp only [freeAt, Four.get_ofFn]
  rfl

/-- A class that is not split, from the free counts it finds (R157). -/
theorem placeWhole_spec (r : ClassRecord) (free : Four Nat) :
    (∀ i c, (ringFrom r.home)[i]? = some c → r.need ≤ free.get c →
      (∀ d ∈ (ringFrom r.home).take i, free.get d < r.need) →
      placeWhole r free = { state := .placed, placed := r.need, segments := [(c, r.need)] }) ∧
    ((∀ c, free.get c < r.need) → placeWhole r free = { state := .shed, placed := 0, segments := [] }) := by
  constructor
  · intro i c hc hroom hbefore
    have hfind : (ringFrom r.home).find? (fun c => r.need ≤ free.get c) = some c := by
      rw [List.find?_eq_some_iff_getElem]
      obtain ⟨hi, hget⟩ := List.getElem?_eq_some_iff.1 hc
      refine ⟨by simpa using hroom, i, hi, hget, fun j hj => ?_⟩
      have := hbefore (ringFrom r.home)[j] (List.mem_take_iff_getElem.2 ⟨j, by omega, rfl⟩)
      simpa using this
    unfold placeWhole
    rw [hfind]
  · intro hfull
    have hfind : (ringFrom r.home).find? (fun c => r.need ≤ free.get c) = none :=
      List.find?_eq_none.2 fun c _ => by simpa using hfull c
    unfold placeWhole
    rw [hfind]

/-- A split class, from the free counts it finds (R158). -/
theorem placeSplit_spec {r : ClassRecord} (hr : ClassInRange r) (hsplit : r.split = true) (free : Four Nat) :
    let room := ((ringFrom r.home).map free.get).sum
    let e := placeSplit r free
    (e.state = .placed ↔ r.need ≤ room) ∧
    (e.state = .partly ↔ room < r.need ∧ ∃ m, r.min = some m ∧ m ≤ room) ∧
    (e.state = .placed ∨ e.state = .partly → ∀ i c, (ringFrom r.home)[i]? = some c →
      slotsOn e c = min (free.get c) (r.need - (((ringFrom r.home).take i).map free.get).sum)) := by
  obtain ⟨m, hm⟩ := Option.isSome_iff_exists.1 (hr.2.2.1.2 hsplit)
  dsimp only
  rw [placeSplit_eq, hm, Option.getD_some]
  have hslots (i : Nat) (c : Carrier) := splitTake_slots free (ringFrom_nodup r.home) r.need i c
  by_cases hroom : r.need ≤ ((ringFrom r.home).map free.get).sum
  · rw [if_pos hroom]
    exact ⟨by simp [hroom], by simp; omega, fun _ => hslots⟩
  · rw [if_neg hroom]
    by_cases hpart : m ≤ ((ringFrom r.home).map free.get).sum
    · rw [if_pos hpart]
      exact ⟨by simp; omega, by simp [hpart]; omega, fun _ => hslots⟩
    · rw [if_neg hpart]
      exact ⟨by simp; omega, by simp; omega, by simp⟩

/-- Settles O45: each class takes its part of the free counts that the visit has left it. -/
theorem placementMeetsItsBounds : Obligations.PlacementMeetsItsBounds := by
  intro cap classes hclasses p
  obtain ⟨free, h⟩ := visited_placement cap hclasses
  have hsound : PlacementSound p :=
    Visited.placementSound (acc := (free, placement cap classes)) hclasses h (visitOrder_nodup classes)
  refine ⟨mem_visitOrder hclasses, visitOrder_pairwise classes, fun home i hi => ?_, fun c => ?_, hsound, fun k => ?_⟩
  · have : i = 0 ∨ i = 1 ∨ i = 2 ∨ i = 3 := by omega
    rcases this with rfl | rfl | rfl | rfl <;> cases home <;> rfl
  · have hsub : ((p.maps.get c).map (·.1)).Sublist (visitOrder classes) := by
      rw [h.maps]
      exact pairsOf_classes_sublist (h.segments_nodup hclasses) _ c
    refine ⟨h.mapSum_le c, ?_, hsub⟩
    calc (p.maps.get c).length = ((p.maps.get c).map (·.1)).length := by rw [List.length_map]
      _ ≤ 8 := length_le_of_nodup_cls (hsub.nodup (visitOrder_nodup classes))
  intro r e
  by_cases hk : k ∈ visitOrder classes
  · have hactive : r.active = true := visitOrder_active hk
    have hplaced := h.entryPlaced hclasses hk
    have he : e = placeClass r (freeAt cap p (visitOrder classes) k) := h.entries k hk
    have hfree : freeBefore cap classes p k = (freeAt cap p (visitOrder classes) k).get :=
      funext fun c => (freeAt_get cap classes p k c).symm
    have hlength : e.segments.length ≤ 4 :=
      calc e.segments.length = (e.segments.map (·.1)).length := by rw [List.length_map]
        _ ≤ (ringFrom r.home).length := hplaced.ring.length_le
        _ = 4 := rfl
    refine ⟨hlength, hplaced.ring, ⟨fun hs => absurd hs hplaced.active, fun hoff => absurd (hoff.symm.trans hactive) (by decide)⟩,
      hplaced.whole, fun hpart => ?_, fun hshed => ?_, hplaced.single, ?_⟩
    · obtain ⟨hsplit, hlt, hmin⟩ := hplaced.partly hpart
      obtain ⟨m, hm⟩ := Option.isSome_iff_exists.1 ((hclasses k).2.2.1.2 hsplit)
      rw [hm, Option.getD_some] at hmin
      exact ⟨hsplit, hlt, m, hm, hmin⟩
    · have : e.placed = segmentSum e.segments := hplaced.placed
      rw [this, hplaced.held.2 hshed, segmentSum_nil]
    · dsimp only
      rw [hfree, he]
      refine ⟨fun _ hwhole => ?_, fun _ hsplit => ?_⟩
      · rw [placeClass, if_neg (by simp [hwhole])]
        exact placeWhole_spec r _
      · rw [placeClass, if_pos hsplit]
        exact placeSplit_spec (hclasses k) hsplit _
  · have hoff : r.active = false := by
      rw [← Bool.not_eq_true]
      exact fun hactive => hk ((mem_visitOrder hclasses k).2 hactive)
    have he : e = .inactive := h.others k hk
    rw [he]
    simp [ClassEntry.inactive, hoff]

end Sys2Proof.Machine
end

section
/-! Conforming a placement to a new working set (R164): trimmed maps, cut segments, and what they leave sound. -/
namespace Sys2Proof.Machine

@[simp] theorem mapSum_nil : mapSum [] = 0 := rfl
@[simp] theorem mapSum_cons (pair : Cls × Nat) (m : List (Cls × Nat)) : mapSum (pair :: m) = pair.2 + mapSum m := rfl
@[simp] theorem mapSum_append (x y : List (Cls × Nat)) : mapSum (x ++ y) = mapSum x + mapSum y := by simp [mapSum]

theorem mapSum_reverse (m : List (Cls × Nat)) : mapSum m.reverse = mapSum m := by simp [mapSum, List.sum_reverse]

theorem mapSum_sublist {x y : List (Cls × Nat)} (h : x.Sublist y) : mapSum x ≤ mapSum y := by
  induction h with
  | slnil => exact le_refl _
  | cons _ _ ih => rw [mapSum_cons]; omega
  | cons_cons _ _ ih => rw [mapSum_cons, mapSum_cons]; omega

/-! ### Trimming a map -/

theorem trimMap_append (capacity : Nat) (m : List (Cls × Nat)) (pair : Cls × Nat) :
    trimMap capacity (m ++ [pair]) = if mapSum (m ++ [pair]) ≤ capacity then m ++ [pair] else trimMap capacity m := by
  have hsum : mapSum (pair :: m.reverse) = mapSum (m ++ [pair]) := by
    rw [mapSum_cons, mapSum_reverse, mapSum_append, mapSum_cons, mapSum_nil]; omega
  unfold trimMap
  rw [List.reverse_append, List.reverse_singleton, List.singleton_append, trimReversed, hsum]
  split
  · rw [List.reverse_cons, List.reverse_reverse]
  · rfl

/-- What is left of a map is its longest beginning within the capacity (R164 step 3). -/
theorem trimMap_spec (capacity : Nat) (m : List (Cls × Nat)) :
    trimMap capacity m <+: m ∧ mapSum (trimMap capacity m) ≤ capacity ∧
    ∀ longer, longer <+: m → mapSum longer ≤ capacity → longer.length ≤ (trimMap capacity m).length := by
  induction m using List.reverseRecOn with
  | nil => exact ⟨List.prefix_rfl, Nat.zero_le _, fun longer h _ => h.length_le⟩
  | append_singleton m pair ih =>
    rw [trimMap_append]
    split
    · next hfits => exact ⟨List.prefix_rfl, hfits, fun longer h _ => h.length_le⟩
    · next hfits =>
      obtain ⟨hprefix, hsum, hlongest⟩ := ih
      refine ⟨hprefix.trans (List.prefix_append ..), hsum, fun longer h hlonger => ?_⟩
      rcases List.prefix_concat_iff.1 h with rfl | h
      · exact absurd hlonger hfits
      · exact hlongest longer h hlonger

/-! ### Cutting a class's segments -/

/-- Segments kept from the first on until a budget is used up (R164 step 4). -/
def keepFirst : List (Carrier × Nat) → Nat → List (Carrier × Nat)
  | [], _ => []
  | (c, n) :: rest, budget => (if min n budget = 0 then [] else [(c, min n budget)]) ++ keepFirst rest (budget - n)

theorem keepFirst_zero (segs : List (Carrier × Nat)) : keepFirst segs 0 = [] := by
  induction segs with
  | nil => rfl
  | cons seg segs ih => simp [keepFirst, ih]

theorem keepFirst_append (x y : List (Carrier × Nat)) (budget : Nat) :
    keepFirst (x ++ y) budget = keepFirst x budget ++ keepFirst y (budget - segmentSum x) := by
  induction x generalizing budget with
  | nil => rfl
  | cons seg x ih =>
    obtain ⟨c, n⟩ := seg
    rw [List.cons_append, keepFirst, keepFirst, ih, segmentSum_cons, List.append_assoc, Nat.sub_sub]

/-- A budget that is enough keeps segments whole. -/
theorem keepFirst_of_le {segs : List (Carrier × Nat)} (h : ∀ seg ∈ segs, 1 ≤ seg.2) {budget : Nat}
    (hb : segmentSum segs ≤ budget) : keepFirst segs budget = segs := by
  induction segs generalizing budget with
  | nil => rfl
  | cons seg segs ih =>
    obtain ⟨c, n⟩ := seg
    have hn : 1 ≤ n := h (c, n) (List.mem_cons_self ..)
    rw [segmentSum_cons] at hb
    rw [keepFirst, ih (fun s hs => h s (List.mem_cons_of_mem _ hs)) (by omega), Nat.min_eq_left (by dsimp only at hb; omega),
      if_neg (by omega), List.singleton_append]

theorem cutReversed_zero {segs : List (Carrier × Nat)} (h : ∀ seg ∈ segs, 1 ≤ seg.2) : cutReversed segs 0 = segs := by
  cases segs with
  | nil => rfl
  | cons seg segs =>
    obtain ⟨c, n⟩ := seg
    have hn : 1 ≤ n := h (c, n) (List.mem_cons_self ..)
    rw [cutReversed, if_neg (by omega), Nat.sub_zero]

theorem cutReversed_eq {segs : List (Carrier × Nat)} (h : ∀ seg ∈ segs, 1 ≤ seg.2) {need : Nat}
    (hneed : need ≤ segmentSum segs) :
    (cutReversed segs.reverse (segmentSum segs - need)).reverse = keepFirst segs need := by
  induction segs using List.reverseRecOn with
  | nil => rfl
  | append_singleton segs seg ih =>
    obtain ⟨c, n⟩ := seg
    have hsegs : ∀ seg ∈ segs, 1 ≤ seg.2 := fun s hs => h s (List.mem_append_left _ hs)
    rw [segmentSum_append, segmentSum_cons, segmentSum_nil, Nat.add_zero] at hneed ⊢
    rw [List.reverse_append, List.reverse_singleton, List.singleton_append, cutReversed, keepFirst_append]
    dsimp only at hneed ⊢
    split
    · next hle =>
      rw [show segmentSum segs + n - need - n = segmentSum segs - need by omega, ih hsegs (by omega),
        show need - segmentSum segs = 0 by omega, keepFirst_zero, List.append_nil]
    · next hlt =>
      rw [List.reverse_cons, List.reverse_reverse, keepFirst_of_le hsegs (by omega), keepFirst, keepFirst,
        if_neg (by omega), List.append_nil, show min n (need - segmentSum segs) = n - (segmentSum segs + n - need) by omega]

theorem cutSegments_eq {segs : List (Carrier × Nat)} (h : ∀ seg ∈ segs, 1 ≤ seg.2) (need : Nat) :
    cutSegments segs need = keepFirst segs need := by
  unfold cutSegments
  split
  · exact cutReversed_eq h (by omega)
  · rw [keepFirst_of_le h (by omega)]

theorem keepFirst_sublist (segs : List (Carrier × Nat)) (budget : Nat) :
    ((keepFirst segs budget).map (·.1)).Sublist (segs.map (·.1)) := by
  induction segs generalizing budget with
  | nil => exact .slnil
  | cons seg segs ih =>
    obtain ⟨c, n⟩ := seg
    rw [keepFirst]
    split
    · exact (ih _).cons c
    · exact (ih _).cons_cons c

/-- Each kept segment is a part of a segment of its carrier. -/
theorem mem_keepFirst {segs : List (Carrier × Nat)} {budget : Nat} {c : Carrier} {n : Nat}
    (h : (c, n) ∈ keepFirst segs budget) : 1 ≤ n ∧ ∃ n0, (c, n0) ∈ segs ∧ n ≤ n0 := by
  induction segs generalizing budget with
  | nil => cases h
  | cons seg segs ih =>
    obtain ⟨d, m⟩ := seg
    rw [keepFirst, List.mem_append] at h
    rcases h with h | h
    · split at h
      · cases h
      · next hm =>
        obtain ⟨rfl, rfl⟩ := Prod.mk.inj (List.mem_singleton.1 h)
        exact ⟨by omega, m, List.mem_cons_self .., Nat.min_le_left ..⟩
    · obtain ⟨h1, n0, hmem, hle⟩ := ih h
      exact ⟨h1, n0, List.mem_cons_of_mem _ hmem, hle⟩

theorem keepFirst_slots {segs : List (Carrier × Nat)} (hnodup : (segs.map (·.1)).Nodup) (budget i : Nat) {c : Carrier}
    {n : Nat} (h : segs[i]? = some (c, n)) :
    segmentSum (segmentsOn (keepFirst segs budget) c) = min n (budget - segmentSum (segs.take i)) := by
  induction segs generalizing budget i with
  | nil => simp at h
  | cons seg segs ih =>
    obtain ⟨d, m⟩ := seg
    obtain ⟨hd, hnodup⟩ := List.nodup_cons.1 hnodup
    rw [keepFirst]
    unfold segmentsOn
    rw [List.filter_append, segmentSum_append]
    cases i with
    | zero =>
      obtain ⟨rfl, rfl⟩ : d = c ∧ m = n := by simpa using h
      have hrest : (keepFirst segs (budget - m)).filter (fun seg => decide (seg.1 = d)) = [] :=
        List.filter_eq_nil_iff.2 fun seg hseg => by
          rw [decide_eq_true_eq]
          rintro rfl
          exact hd ((keepFirst_sublist ..).subset (List.mem_map.2 ⟨seg, hseg, rfl⟩))
      rw [hrest]
      split
      · simp; omega
      · simp
    | succ i =>
      have h' : segs[i]? = some (c, n) := by simpa using h
      have hne : d ≠ c := by
        rintro rfl
        exact hd (List.mem_map.2 ⟨_, List.mem_of_getElem? h', rfl⟩)
      have hget := ih hnodup (budget - m) i h'
      unfold segmentsOn at hget
      rw [hget, List.take_succ_cons, segmentSum_cons]
      split
      · simp; omega
      · simp [hne]; omega

/-! ### The re-derived entry and map -/

section
variable {maps : Four (List (Cls × Nat))} {r : ClassRecord} {k : Cls} {e : ClassEntry}

/-- The state that held segments give, and the entry with it (R164 step 4). -/
theorem judgeHeld_ne_inactive (r : ClassRecord) (segs : List (Carrier × Nat)) : judgeHeld r segs ≠ .inactive := by
  unfold judgeHeld
  split
  · split
    · decide
    · split <;> decide
  · split <;> decide

/-- A re-derived entry holds nothing, or the cut segments of those that the maps still show. -/
theorem conformEntry_cases (maps : Four (List (Cls × Nat))) (r : ClassRecord) (k : Cls) (e : ClassEntry) :
    ((conformEntry maps r k e).segments = [] ∧ (conformEntry maps r k e).placed = 0 ∧
      ((conformEntry maps r k e).state = .inactive ∨ (conformEntry maps r k e).state = .shed)) ∨
    ((conformEntry maps r k e).segments = cutSegments (heldSegments maps k e.segments) r.need ∧
      (conformEntry maps r k e).segments ≠ [] ∧
      (conformEntry maps r k e).placed = segmentSum (conformEntry maps r k e).segments ∧
      (conformEntry maps r k e).state ≠ .inactive ∧ (conformEntry maps r k e).state ≠ .shed) := by
  unfold conformEntry
  split
  · exact .inl ⟨rfl, rfl, .inl rfl⟩
  · dsimp only
    split
    · refine .inl ⟨rfl, rfl, ?_⟩
      dsimp only
      split
      · exact .inl rfl
      · exact .inr rfl
    · next hsegs =>
      split
      · exact .inl ⟨rfl, rfl, .inr rfl⟩
      · next hstate =>
        exact .inr ⟨rfl, fun h => hsegs (List.isEmpty_iff.2 h), rfl, judgeHeld_ne_inactive _ _, hstate⟩

theorem conformEntry_segments (he : ∀ seg ∈ e.segments, 1 ≤ seg.2) :
    (((conformEntry maps r k e).segments.map (·.1)).Sublist (e.segments.map (·.1))) ∧
    ∀ c n, (c, n) ∈ (conformEntry maps r k e).segments →
      1 ≤ n ∧ (∃ n0, (c, n0) ∈ e.segments ∧ n ≤ n0) ∧ ∃ m, (k, m) ∈ maps.get c := by
  rcases conformEntry_cases maps r k e with ⟨hnil, -⟩ | ⟨hcut, -⟩
  · rw [hnil]
    exact ⟨List.nil_sublist _, nofun⟩
  · have hheld : ∀ seg ∈ heldSegments maps k e.segments, 1 ≤ seg.2 := fun seg hseg => he seg (List.mem_filter.1 hseg).1
    rw [hcut, cutSegments_eq hheld]
    refine ⟨(keepFirst_sublist ..).trans (List.filter_sublist.map _), fun c n hmem => ?_⟩
    obtain ⟨hn, n0, hmem0, hle⟩ := mem_keepFirst hmem
    obtain ⟨hmem0, hany⟩ := List.mem_filter.1 hmem0
    obtain ⟨pair, hpair, hk⟩ := List.any_eq_true.1 hany
    rw [decide_eq_true_eq] at hk
    exact ⟨hn, ⟨n0, hmem0, hle⟩, pair.2, by rw [← hk]; exact hpair⟩

end

theorem find?_of_nodup {segs : List (Carrier × Nat)} (h : (segs.map (·.1)).Nodup) {c : Carrier} {n : Nat}
    (hmem : (c, n) ∈ segs) : segs.find? (fun seg => seg.1 = c) = some (c, n) := by
  induction segs with
  | nil => cases hmem
  | cons seg segs ih =>
    obtain ⟨hseg, hnodup⟩ := List.nodup_cons.1 h
    rw [List.find?_cons]
    rcases List.mem_cons.1 hmem with rfl | hmem
    · simp
    · have hne : seg.1 ≠ c := fun hc => hseg (List.mem_map.2 ⟨(c, n), hmem, hc.symm⟩)
      simp only [hne, decide_false]
      exact ih hnodup hmem

theorem mem_mapFromEntries {entries : Eight ClassEntry} {c : Carrier} {m : List (Cls × Nat)}
    (hnodup : ∀ k, ((entries.get k).segments.map (·.1)).Nodup) {k : Cls} {n : Nat} :
    (k, n) ∈ mapFromEntries entries c m ↔ (∃ n0, (k, n0) ∈ m) ∧ (c, n) ∈ (entries.get k).segments := by
  unfold mapFromEntries
  rw [List.mem_filterMap]
  constructor
  · rintro ⟨⟨j, n0⟩, hpair, hfind⟩
    obtain ⟨⟨d, n1⟩, hseg, heq⟩ := Option.map_eq_some_iff.1 hfind
    obtain ⟨rfl, rfl⟩ := Prod.mk.inj heq
    obtain rfl : d = c := by simpa using List.find?_some hseg
    exact ⟨⟨n0, hpair⟩, List.mem_of_find?_eq_some hseg⟩
  · rintro ⟨⟨n0, hpair⟩, hseg⟩
    exact ⟨(k, n0), hpair, by rw [find?_of_nodup (hnodup k) hseg]; rfl⟩

theorem mapFromEntries_classes_sublist (entries : Eight ClassEntry) (c : Carrier) (m : List (Cls × Nat)) :
    ((mapFromEntries entries c m).map (·.1)).Sublist (m.map (·.1)) := by
  unfold mapFromEntries
  induction m with
  | nil => exact .slnil
  | cons pair m ih =>
    rw [List.filterMap_cons, List.map_cons]
    split
    · exact ih.cons _
    · next h =>
      obtain ⟨seg, -, rfl⟩ := Option.map_eq_some_iff.1 h
      exact ih.cons_cons _

/-- A map with no count raised sums to no more. -/
theorem mapSum_mapFromEntries_le {entries : Eight ClassEntry} {c : Carrier} {m : List (Cls × Nat)}
    (h : ∀ pair ∈ m, ∀ seg ∈ (entries.get pair.1).segments, seg.1 = c → seg.2 ≤ pair.2) :
    mapSum (mapFromEntries entries c m) ≤ mapSum m := by
  unfold mapFromEntries
  induction m with
  | nil => exact le_refl _
  | cons pair m ih =>
    have ih := ih fun q hq => h q (List.mem_cons_of_mem _ hq)
    rw [List.filterMap_cons, mapSum_cons]
    split
    · omega
    · next hfind =>
      obtain ⟨seg, hseg, rfl⟩ := Option.map_eq_some_iff.1 hfind
      have := h pair (List.mem_cons_self ..) seg (List.mem_of_find?_eq_some hseg) (by simpa using List.find?_some hseg)
      rw [mapSum_cons]
      dsimp only
      omega

/-! ### The conformed placement -/

section
variable (w : WorkingSet) (disabled : Carrier → Bool) (active : Carrier → Nat) {p : Placement}

/-- A carrier's map after steps 1 to 3 of R164. -/
def keptMap (p : Placement) (c : Carrier) : List (Cls × Nat) :=
  conformMap w.classes (disabled c) (capacityOf w.table (active c)) (p.maps.get c)

theorem conform_entries (p : Placement) (k : Cls) : (conform w disabled active p).entries.get k =
    conformEntry (.ofFn (keptMap w disabled active p)) (w.classes.get k) k (p.entries.get k) := Eight.get_ofFn ..

theorem conform_maps (p : Placement) (c : Carrier) : (conform w disabled active p).maps.get c =
    mapFromEntries (conform w disabled active p).entries c (keptMap w disabled active p c) := by
  unfold conform
  dsimp only
  rw [Four.get_ofFn, Four.get_ofFn]
  rfl

theorem keptMap_sublist (p : Placement) (c : Carrier) : (keptMap w disabled active p c).Sublist (p.maps.get c) := by
  unfold keptMap conformMap
  split
  · exact List.nil_sublist _
  · exact (trimMap_spec ..).1.sublist.trans List.filter_sublist

theorem mapSum_keptMap_le (p : Placement) (c : Carrier) :
    mapSum (keptMap w disabled active p c) ≤ if disabled c = true then 0 else capacityOf w.table (active c) := by
  unfold keptMap conformMap
  split
  · simp
  · exact (trimMap_spec ..).2.1

section
variable (hp : PlacementSound p)
include hp

theorem conform_segments_nodup (k : Cls) :
    (((conform w disabled active p).entries.get k).segments.map (·.1)).Nodup := by
  rw [conform_entries]
  obtain ⟨-, hnodup, hcounts, -⟩ := hp.2 k
  exact (conformEntry_segments hcounts).1.nodup hnodup

theorem mem_conform_maps (c : Carrier) (k : Cls) (n : Nat) :
    (k, n) ∈ (conform w disabled active p).maps.get c ↔
      (c, n) ∈ ((conform w disabled active p).entries.get k).segments := by
  rw [conform_maps, mem_mapFromEntries (conform_segments_nodup w disabled active hp)]
  refine ⟨fun h => h.2, fun h => ⟨?_, h⟩⟩
  rw [conform_entries] at h
  obtain ⟨-, -, m, hm⟩ := (conformEntry_segments (hp.2 k).2.2.1).2 c n h
  rw [Four.get_ofFn] at hm
  exact ⟨m, hm⟩

theorem placementSound_conform : PlacementSound (conform w disabled active p) := by
  refine ⟨fun c => ?_, fun k => ?_⟩
  · rw [conform_maps]
    exact ((mapFromEntries_classes_sublist ..).trans ((keptMap_sublist ..).map _)).nodup (hp.1 c)
  · have hcounts := (conformEntry_segments (maps := .ofFn (keptMap w disabled active p)) (r := w.classes.get k) (k := k)
      (hp.2 k).2.2.1).2
    refine ⟨?_, conform_segments_nodup w disabled active hp k, fun seg hseg => ?_, fun c n =>
      (mem_conform_maps w disabled active hp c k n).symm, ?_⟩
    · rw [conform_entries]
      rcases conformEntry_cases (.ofFn (keptMap w disabled active p)) (w.classes.get k) k (p.entries.get k) with
        ⟨hnil, hzero, -⟩ | ⟨-, -, hsum, -⟩
      · rw [hnil, hzero, segmentSum_nil]
      · exact hsum
    · rw [conform_entries] at hseg
      exact (hcounts seg.1 seg.2 hseg).1
    · rw [conform_entries]
      rcases conformEntry_cases (.ofFn (keptMap w disabled active p)) (w.classes.get k) k (p.entries.get k) with
        ⟨hnil, -, hstate⟩ | ⟨-, hne, -, h1, h2⟩
      · exact ⟨fun _ => hstate, fun _ => hnil⟩
      · exact ⟨fun h => absurd h hne, fun h => absurd h (by simp [h1, h2])⟩

/-- A conformed map fits the capacity of the profile in force, and one of a carrier that is disabled stays empty. -/
theorem mapSum_conform_le (c : Carrier) : mapSum ((conform w disabled active p).maps.get c) ≤
    min (mapSum (p.maps.get c)) (if disabled c = true then 0 else capacityOf w.table (active c)) := by
  have hle : mapSum ((conform w disabled active p).maps.get c) ≤ mapSum (keptMap w disabled active p c) := by
    rw [conform_maps]
    refine mapSum_mapFromEntries_le fun pair hpair seg hseg hc => ?_
    obtain ⟨k, m⟩ := pair
    obtain ⟨d, n⟩ := seg
    obtain rfl : d = c := hc
    rw [conform_entries] at hseg
    obtain ⟨-, ⟨n0, hmem0, hle⟩, -⟩ := (conformEntry_segments (hp.2 k).2.2.1).2 d n hseg
    have hmem : (k, n0) ∈ p.maps.get d := ((hp.2 k).2.2.2.1 d n0).1 hmem0
    have hpair' : (k, m) ∈ p.maps.get d := (keptMap_sublist ..).subset hpair
    have : n0 = m := by
      have := List.inj_on_of_nodup_map (hp.1 d) hmem hpair' rfl
      exact (Prod.mk.inj this).2
    dsimp only
    omega
  exact le_min (hle.trans (mapSum_sublist (keptMap_sublist ..))) (hle.trans (mapSum_keptMap_le ..))

end

end

end Sys2Proof.Machine
end

section
/-! The Capacity Mapper: maps and entries agree (R154, R155), and every active map fits its capacity (R15, R155). -/
namespace Sys2Proof.Machine

/-! ### What each operation does to the mapper -/

theorem linkAbort_mapper (cause : AbortCause) (s : State) : (linkAbort cause s).mapper =
    if s.port.link = .running ∧ withdrawable s.lane = true then discardMapShadow s.mapper else s.mapper := by
  rw [linkAbort_eq, settleHolds_mapper, abortUnsettled, onEnabledRau_mapper]
  unfold abortLane
  cases hl : s.port.link <;> cases hw : withdrawable s.lane <;> simp [hl, hw, discardShadows]

theorem handAnnouncement_mapper (s : State) : (handAnnouncement s).mapper = match s.lane.announcement with
    | some a => announcementShadow s.working s.lane a s.mapper
    | none => s.mapper := by
  unfold handAnnouncement
  cases s.lane.announcement <;> rfl

theorem takeFrameLoss_mapper (s : State) : (takeFrameLoss s).mapper = (mapperFrameLoss s.mapper).1 := by
  have h : (takeFrameLoss s).mapper = (mapperFrameLoss (onEnabledRau (lossMuted s) fun _ x => rxFrameLoss x).mapper).1 := rfl
  rw [h, onEnabledRau_mapper]
  simp [lossMuted, lossEst]

/-- The commit's state when the mapper does its part. -/
def commitBeforeMapper (s : State) : State :=
  commitPower s.working (commitSig s.working (commitIntake s.working (commitMonitor s.working (commitEst s.working
    (commitRau s.working (committedLane s))))))

theorem commitParts_mapper (n : FrameNo) (s : State) : (commitParts n s).mapper =
    (mapperCommit (stagedAsWorking s.staged)
      (fun c => s.enabled c && !((stagedAsWorking s.staged).carriers.get c).enable) (commitParts n s).lane n s.mapper).1 := by
  have hw : (commitBeforeMapper s).working = stagedAsWorking s.staged := by
    simp [commitBeforeMapper, commitPower, commitSig, commitIntake, commitEst, commitRau]
  have hl : (commitBeforeMapper s).lane = (commitParts n s).lane := rfl
  have hm : (commitBeforeMapper s).mapper = s.mapper := by
    simp [commitBeforeMapper, commitPower, commitSig, commitIntake, commitEst, commitRau, committedLane, commitLane,
      commitConfiguration]
  have h : (commitParts n s).mapper = (mapperCommit (commitBeforeMapper s).working
      (fun c => s.enabled c && !((commitBeforeMapper s).working.carriers.get c).enable) (commitBeforeMapper s).lane n
      (commitBeforeMapper s).mapper).1 := rfl
  rw [h, hw, hl, hm]

/-! ### Maps and entries agree -/

theorem mapperSound_of_eq {s t : State} (hm : t.mapper = s.mapper) (hl : t.port.link = s.port.link) (hs : MapperSound s) :
    MapperSound t := by
  unfold MapperSound
  rw [hm, hl]
  exact hs

/-- A shadow discarded keeps the mapper sound. -/
theorem mapperSound_discard {s t : State} (hm : t.mapper = s.mapper ∨ t.mapper = discardMapShadow s.mapper)
    (hl : t.port.link = s.port.link) (hs : MapperSound s) : MapperSound t := by
  rcases hm with hm | hm
  · exact mapperSound_of_eq hm hl hs
  · obtain ⟨hactive, -, hlost⟩ := hs
    unfold MapperSound
    rw [hm, hl]
    exact ⟨hactive, by simp [discardMapShadow], fun h => ⟨(hlost h).1, rfl⟩⟩

/-- A placement recorded while the link is RUNNING. -/
theorem mapperSound_record {t : State} (hl : t.port.link = .running) (hactive : PlacementSound t.mapper.active)
    (hshadow : ∀ sh ∈ t.mapper.shadow, PlacementSound sh.result) : MapperSound t :=
  ⟨hactive, hshadow, fun h => absurd (hl.symm.trans h) (by decide)⟩

theorem linkAbort_mapper_cases (cause : AbortCause) (s : State) :
    (linkAbort cause s).mapper = s.mapper ∨ (linkAbort cause s).mapper = discardMapShadow s.mapper := by
  rw [linkAbort_mapper]
  split
  · exact .inr rfl
  · exact .inl rfl

theorem mapperSound_linkAbort (cause : AbortCause) {s : State} (hs : MapperSound s) : MapperSound (linkAbort cause s) :=
  mapperSound_discard (linkAbort_mapper_cases cause s) (by simp) hs

theorem mapperSound_rederiveDemand (held : Bool) (cause : AbortCause) {s : State} (hs : MapperSound s) :
    MapperSound (rederiveDemand held cause s) := by
  unfold rederiveDemand
  split
  · exact mapperSound_linkAbort cause hs
  · exact hs

theorem mapperSound_takeEquipFault (c : Carrier) (v : Bool) {s : State} (hs : MapperSound s) :
    MapperSound (takeEquipFault c v s) := by
  unfold takeEquipFault
  split
  · exact mapperSound_rederiveDemand _ _ (s := (storeFarFault c true s).report _) hs
  · exact hs

theorem mapperSound_takeFaultLevel (v : Bool) {s : State} (hs : MapperSound s) : MapperSound (takeFaultLevel v s) := by
  unfold takeFaultLevel
  split
  · exact hs
  · dsimp only
    split
    · exact mapperSound_rederiveDemand _ _ (s := (s.setFault _).report _) hs
    · exact hs

/-- A predicate of a state that an invalid field and a field's equipment fault keep, and that rests on nothing else a
field writes, is kept by every field. -/
theorem handField_keeps {P : State → Prop} (c : Carrier)
    (hsig : ∀ x u, P u → P (storeSig c x u)) (hlost : ∀ u, P u → P (enterSigLost c u))
    (hrecover : ∀ u, P u → P (recoverSig c u)) (hequip : ∀ v u, P u → P (takeEquipFault c v u))
    (hreceive : ∀ p ans u, P u → P (routeToReceive c p ans u)) (hlane : ∀ p u, P u → P (routeToLane c p u))
    (hmargin : ∀ margin fade u, P u → P (takeMargin c margin fade u)) (f : Option RawField) {s : State} (hs : P s) :
    P (handField c f s) := by
  have hinvalid (u : State) (hu : P u) : P (takeInvalid c u) := by
    unfold takeInvalid
    dsimp only
    split
    · exact hsig _ _ hu
    · split
      · exact hlost _ hu
      · exact hsig _ _ hu
  have hpart (p : FieldParts) (ans : AnsKind) (u : State) (hu : P u) : P (routePart c p ans u) :=
    hreceive _ _ _ (hequip _ _ hu)
  have hfull (p : FieldParts) (ans : AnsKind) (u : State) (hu : P u) : P (routeFull c p ans u) :=
    hmargin _ _ _ (hlane _ _ (hpart p ans u hu))
  unfold handField
  split
  · exact hinvalid s hs
  · split
    · split
      · unfold takeValid
        dsimp only
        split
        · split
          · exact hfull _ _ _ (hrecover _ (hsig _ _ hs))
          · exact hpart _ _ _ (hsig _ _ hs)
        · exact hfull _ _ _ (hsig _ _ hs)
      · exact hinvalid s hs
    · exact hinvalid s hs

theorem mapperSound_handField (c : Carrier) (f : Option RawField) {s : State} (hs : MapperSound s) :
    MapperSound (handField c f s) :=
  handField_keeps c (fun _ _ hu => hu) (fun _ hu => mapperSound_of_eq (by simp) (by simp) hu)
    (fun _ hu => mapperSound_of_eq (by simp) (by simp) hu) (fun _ _ hu => mapperSound_takeEquipFault c _ hu)
    (fun _ _ _ hu => hu) (fun _ _ hu => hu) (fun _ _ _ hu => mapperSound_of_eq (by simp) (by simp) hu) f hs

theorem placementSound_lossEntries {p : Placement} (hp : PlacementSound p) :
    PlacementSound { maps := .fill [], entries := .ofFn fun k => lossEntry (p.entries.get k) } := by
  have hempty (k : Cls) : (lossEntry (p.entries.get k)).segments = [] := by
    obtain ⟨-, -, -, -, hheld⟩ := hp.2 k
    unfold lossEntry
    split
    · rfl
    · next h =>
      refine hheld.2 ?_
      cases hstate : (p.entries.get k).state <;> simp_all
  refine ⟨fun c => by simp, fun k => ?_⟩
  obtain ⟨hplaced, -, -, -, hheld⟩ := hp.2 k
  simp only [ClassEntrySound, Eight.get_ofFn, hempty]
  refine ⟨?_, by simp, by simp, by simp, ?_⟩
  · unfold lossEntry
    split
    · rfl
    · next h =>
      rw [hplaced]
      have := hempty k
      rw [lossEntry, if_neg h] at this
      rw [this]
  · rw [true_iff]
    unfold lossEntry
    split
    · exact .inr rfl
    · next h => cases hstate : (p.entries.get k).state <;> simp_all

theorem mapperSound_takeFrameLoss {s : State} (hs : MapperSound s) : MapperSound (takeFrameLoss s) := by
  unfold MapperSound
  rw [takeFrameLoss_mapper]
  exact ⟨placementSound_lossEntries hs.1, by simp [mapperFrameLoss], fun _ => ⟨fun c => Four.get_fill .., rfl⟩⟩

theorem placementSound_initial : PlacementSound Mapper.initial.active := by
  refine ⟨fun c => by simp [Mapper.initial], fun k => ?_⟩
  simp [ClassEntrySound, Mapper.initial, ClassEntry.inactive]

theorem mapperSound_initial {t : State} (h : t.mapper = .initial) : MapperSound t := by
  unfold MapperSound
  rw [h]
  exact ⟨placementSound_initial, by simp [Mapper.initial], fun _ => ⟨fun c => Four.get_fill .., rfl⟩⟩

theorem mapperSound_mapperWork {s : State} (hlink : s.port.link = .running) (hs : MapperSound s) :
    MapperSound (mapperWork s) := by
  obtain ⟨hactive, hshadow, -⟩ := hs
  have hm : (mapperWork s).mapper = (mapperTick s.mapper).1 := rfl
  refine mapperSound_record hlink ?_ ?_ <;> rw [hm] <;> unfold mapperTick
  · split
    · next sh hsh =>
      split
      · exact hshadow sh hsh
      · exact hactive
    · exact hactive
  · split
    · next sh hsh =>
      split
      · simp
      · intro sh' h
        cases h
        exact hshadow sh hsh
    · exact hshadow

/-- The shadows of an announcement are placements of the working classes. -/
theorem mapperSound_handAnnouncement {s : State} (hcfg : ConfigSound s) (hlink : s.port.link = .running)
    (hactive : PlacementSound s.mapper.active) (hshadow : ∀ sh ∈ s.mapper.shadow, PlacementSound sh.result) :
    MapperSound (handAnnouncement s) := by
  have hm := handAnnouncement_mapper s
  refine mapperSound_record (by rw [handAnnouncement_port]; exact hlink) ?_ ?_ <;> rw [hm]
  · split
    · exact hactive
    · exact hactive
  · split
    · intro sh h
      cases h
      exact placementSound_placement _ hcfg.2.1.2.2.1
    · exact hshadow

theorem mapperSound_commitWork (n : FrameNo) {s : State} (hcfg : ConfigSound s) (hp : s.applyPending = true)
    (hlink : s.port.link = .running) (hs : MapperSound s) : MapperSound (commitWork n s) := by
  have hclasses := (configSound_commitWork n hcfg hp).2.1.2.2.1
  rw [commitWork_working] at hclasses
  have h : MapperSound (commitParts n s) := by
    refine mapperSound_record (by rw [commitParts_link]; exact hlink) ?_ ?_ <;> rw [commitParts_mapper]
    · exact placementSound_conform _ _ _ hs.1
    · intro sh hsh
      cases hsh
      exact placementSound_placement _ hclasses
  rw [commitWork_eq]
  unfold rederiveAfterCommit
  split
  · exact mapperSound_linkAbort _ (s := (commitParts n s).setFreeCount _) h
  · exact h

theorem restored_working (n : FrameNo) (s : State) : (restored n s).working = s.working := by simp [restored, restoredPort]

theorem restored_mapper (n : FrameNo) (s : State) : (restored n s).mapper =
    mapperRestore s.working n (mapperTick s.mapper).1 := by
  simp [restored, restoreBlocks, restoredPort, mapperWork]

theorem mapperSound_restored (n : FrameNo) {s : State} (hcfg : ConfigSound s) (hs : MapperSound s) :
    MapperSound (restored n s) := by
  have h : MapperSound (mapperWork (s.setPort { s.port with link := .running })) :=
    mapperSound_mapperWork rfl (mapperSound_record rfl hs.1 hs.2.1)
  refine mapperSound_record (restored_link n s) ?_ ?_ <;> rw [restored_mapper]
  · exact h.1
  · intro sh hsh
    cases hsh
    exact placementSound_placement _ hcfg.2.1.2.2.1

theorem mapperSound_piece {s t : State} (h : Piece s t) (hcfg : ConfigSound s) (hs : MapperSound s) : MapperSound t := by
  cases h with
  | port p hl => exact mapperSound_of_eq (s := s) (t := s.setPort p) rfl hl hs
  | notice c => exact mapperSound_handField c none hs
  | mapper hlink => exact mapperSound_mapperWork hlink hs
  | commit n hlink hp => exact mapperSound_commitWork n hcfg hp hlink hs
  | laneStep3 n hlink => exact mapperSound_handAnnouncement (s := s.setLane _) hcfg hlink hs.1 hs.2.1
  | laneStep4 n hlink =>
    exact mapperSound_handAnnouncement (s := (discardShadows (s.setLane _)).setLane _) hcfg hlink hs.1 (by simp [discardShadows, discardMapShadow])
  | restored n => exact mapperSound_restored n hcfg hs
  | events | report | grace | power | rau | laneStep1 | scan | atten => exact hs

theorem mapperSound_effect {i : Instr} {s t : State} (h : Effect i s t) (hcfg : ConfigSound s) (hs : MapperSound s) :
    MapperSound t := by
  cases h with
  | port p hl => exact mapperSound_of_eq (s := s) (t := s.setPort p) rfl hl hs
  | field c f => exact mapperSound_handField c f hs
  | frameStart n order =>
    exact ((pieces_takeFrameStart n order s).keeps (P := fun u => ConfigSound u ∧ MapperSound u)
      (fun _ _ hp hu => ⟨configSound_piece hp hu.1, mapperSound_piece hp hu.1 hu.2⟩) ⟨hcfg, hs⟩).2
  | mapShadow _ hlink => exact mapperSound_mapperWork hlink hs
  | commit n hlink hp =>
    exact mapperSound_of_eq (s := commitWork n s) (by simp) rfl (mapperSound_commitWork n hcfg hp hlink hs)
  | frameLoss => exact mapperSound_takeFrameLoss hs
  | faultLevel v => exact mapperSound_takeFaultLevel v hs
  | powerOn => exact mapperSound_initial rfl
  | reset => exact mapperSound_initial rfl
  | combine c m => exact mapperSound_of_eq (by unfold setCombineMode; split <;> rfl) (by unfold setCombineMode; split <;> rfl) hs
  | abort => exact mapperSound_linkAbort _ hs
  | resume => exact mapperSound_of_eq (by simp) (by simp) hs
  | powerShadow c => unfold loadPowerShadow; split <;> exact hs
  | intake | events | hml | freeCount | report | graceExpiry | window | rxSwitch | timeout | announcementSwitch
  | staged | applied | hostPause | txHold => exact hs

/-! ### The maps fit -/

/-- The profiles that the switch of an announcement brings. -/
def profilesAhead (l : Lane) (a : Announcement) (c : Carrier) : Nat :=
  match a.member? c with
  | some m => m.toP
  | none => (l.carriers.get c).active

/-- Four maps within the placement capacities of profiles under a working set. -/
def Within (w : WorkingSet) (profile : Carrier → Nat) (maps : Four (List (Cls × Nat))) : Prop :=
  ∀ c, mapSum (maps.get c) ≤ (capacities w profile).get c

/-- The shadow that stands beside an announcement, or with the lane idle, fits the capacities it will be loaded under. -/
def ShadowFits (w : WorkingSet) (l : Lane) (x : Mapper) : Prop :=
  match l.announcement with
  | none => ∀ sh ∈ x.shadow, sh.remaining ≤ 1 ∧ Within w (fun c => (l.carriers.get c).active) sh.result.maps
  | some a => ∃ sh, x.shadow = some sh ∧ sh.remaining = a.count ∧ Within w (profilesAhead l a) sh.result.maps

theorem mapsFit_iff (s : State) : MapsFit s ↔
    Within s.working s.txActive s.mapper.active.maps ∧ ShadowFits s.working s.lane s.mapper := by
  unfold MapsFit ShadowFits
  refine and_congr_right fun _ => ?_
  cases s.lane.announcement with
  | none => exact Iff.rfl
  | some a => exact Iff.rfl

theorem capacities_get (w : WorkingSet) (profile : Carrier → Nat) (c : Carrier) :
    (capacities w profile).get c = if (w.carriers.get c).enable = true then capacityOf w.table (profile c) else 0 := by
  simp [capacities]

/-- Capacities rest on the table, the enables, and the profiles of enabled carriers. -/
theorem capacities_congr {w v : WorkingSet} {p q : Carrier → Nat} (ht : v.table = w.table)
    (he : ∀ c, (v.carriers.get c).enable = (w.carriers.get c).enable) (h : ∀ c, (w.carriers.get c).enable = true → q c = p c) :
    capacities v q = capacities w p := by
  refine Four.ext_get fun c => ?_
  rw [capacities_get, capacities_get, ht, he]
  split
  · next hc => rw [h c hc]
  · rfl

/-- The mapper and what its fit rests on unmoved. -/
theorem mapsFit_of_same {s t : State} (ht : t.working.table = s.working.table)
    (he : ∀ c, (t.working.carriers.get c).enable = (s.working.carriers.get c).enable) (hm : t.mapper = s.mapper)
    (ha : t.lane.announcement = s.lane.announcement)
    (hactive : ∀ c, (t.lane.carriers.get c).active = (s.lane.carriers.get c).active) (hs : MapsFit s) : MapsFit t := by
  rw [mapsFit_iff] at hs ⊢
  have hcap (p q : Carrier → Nat) (h : ∀ c, q c = p c) (maps : Four (List (Cls × Nat))) (hp : Within s.working p maps) :
      Within t.working q maps := by
    unfold Within
    rw [capacities_congr ht he fun c _ => h c]
    exact hp
  refine ⟨by rw [hm]; exact hcap _ _ hactive _ hs.1, ?_⟩
  have hshadow := hs.2
  unfold ShadowFits at hshadow ⊢
  rw [hm, ha]
  split
  · next hnone =>
    rw [hnone] at hshadow
    exact fun sh hsh => ⟨(hshadow sh hsh).1, hcap _ _ hactive _ (hshadow sh hsh).2⟩
  · next a hsome =>
    rw [hsome] at hshadow
    obtain ⟨sh, h1, h2, h3⟩ := hshadow
    refine ⟨sh, h1, h2, hcap _ _ (fun c => ?_) _ h3⟩
    unfold profilesAhead
    split
    · rfl
    · exact hactive c

theorem mapsFit_of_eq {s t : State} (hw : t.working = s.working) (hm : t.mapper = s.mapper) (hl : t.lane = s.lane)
    (hs : MapsFit s) : MapsFit t :=
  mapsFit_of_same (by rw [hw]) (fun c => by rw [hw]) hm (by rw [hl]) (fun c => by rw [hl]) hs

/-- With no announcement and no shadow only the maps in force have to fit. -/
theorem mapsFit_of_bare {t : State} (ha : t.lane.announcement = none) (hsh : t.mapper.shadow = none)
    (h : Within t.working t.txActive t.mapper.active.maps) : MapsFit t := by
  rw [mapsFit_iff]
  refine ⟨h, ?_⟩
  unfold ShadowFits
  rw [ha, hsh]
  simp

theorem laneAbort_active (w : WorkingSet) (l : Lane) (c : Carrier) :
    ((laneAbort w l).carriers.get c).active = (l.carriers.get c).active := by
  have h1 : ((laneAbort w l).carriers.get c).active = ((abortWithdrawn w l).carriers.get c).active := by
    rw [laneAbort_get]
    split <;> simp
  rw [h1]
  unfold abortWithdrawn
  split
  · next h =>
    obtain ⟨a, ha, -⟩ := withdrawable_some h
    rw [(laneWithdraw_some ha).2]
    split
    · rw [recheckFor, recheckEntry_active, refuseMember_active]
    · rfl
  · rfl

theorem linkAbort_active (cause : AbortCause) (s : State) (c : Carrier) :
    ((linkAbort cause s).lane.carriers.get c).active = (s.lane.carriers.get c).active := by
  rw [linkAbort_lane]
  split
  · exact laneAbort_active ..
  · rfl

theorem linkAbort_announcement (cause : AbortCause) (s : State) : (linkAbort cause s).lane.announcement =
    if s.port.link = .running ∧ withdrawable s.lane = true then none else s.lane.announcement := by
  rw [linkAbort_lane]
  by_cases hl : s.port.link = .running
  · rw [if_pos hl, laneAbort_announcement]
    unfold abortWithdrawn
    by_cases hw : withdrawable s.lane = true
    · rw [if_pos hw, if_pos ⟨hl, hw⟩]
      obtain ⟨a, ha, -⟩ := withdrawable_some hw
      exact (laneWithdraw_some ha).1
    · rw [if_neg hw, if_neg fun h => hw h.2]
  · rw [if_neg hl, if_neg fun h => hl h.1]

/-- An abort keeps the fit: an announcement it withdraws goes with its shadow. -/
theorem mapsFit_linkAbort (cause : AbortCause) {s : State} (hs : MapsFit s) : MapsFit (linkAbort cause s) := by
  by_cases h : s.port.link = .running ∧ withdrawable s.lane = true
  · refine mapsFit_of_bare (by rw [linkAbort_announcement, if_pos h]) (by rw [linkAbort_mapper, if_pos h]; rfl) fun c => ?_
    have hcap : capacities s.working (linkAbort cause s).txActive = capacities s.working s.txActive :=
      capacities_congr rfl (fun _ => rfl) fun c _ => linkAbort_active cause s c
    rw [linkAbort_mapper, if_pos h, linkAbort_working, hcap]
    exact hs.1 c
  · exact mapsFit_of_same (by simp) (by simp) (by rw [linkAbort_mapper, if_neg h])
      (by rw [linkAbort_announcement, if_neg h]) (linkAbort_active cause s) hs

theorem mapsFit_rederiveDemand (held : Bool) (cause : AbortCause) {s : State} (hs : MapsFit s) :
    MapsFit (rederiveDemand held cause s) := by
  unfold rederiveDemand
  split
  · exact mapsFit_linkAbort cause hs
  · exact hs

theorem mapsFit_takeEquipFault (c : Carrier) (v : Bool) {s : State} (hs : MapsFit s) : MapsFit (takeEquipFault c v s) := by
  unfold takeEquipFault
  split
  · exact mapsFit_rederiveDemand _ _ (s := (storeFarFault c true s).report _) hs
  · exact hs

theorem mapsFit_takeFaultLevel (v : Bool) {s : State} (hs : MapsFit s) : MapsFit (takeFaultLevel v s) := by
  unfold takeFaultLevel
  split
  · exact hs
  · dsimp only
    split
    · exact mapsFit_rederiveDemand _ _ (s := (s.setFault _).report _) hs
    · exact hs

theorem mapsFit_update (c : Carrier) {f : LaneCarrier → LaneCarrier} (hactive : ∀ x, (f x).active = x.active) {s : State}
    (hs : MapsFit s) : MapsFit (s.setLane (s.lane.update c f)) :=
  mapsFit_of_same (s := s) rfl (fun _ => rfl) rfl rfl (fun d => by
    rw [State.setLane_lane, Lane.update_get]
    split
    · next h => rw [hactive, h]
    · rfl) hs

theorem mapsFit_enterSigLost (c : Carrier) {s : State} (hs : MapsFit s) : MapsFit (enterSigLost c s) := by
  rw [enterSigLost_eq]
  have h : MapsFit ((settleHolds s (sigLostUnsettled c s)).setLane
      ((settleHolds s (sigLostUnsettled c s)).lane.update c refuseFarUp)) :=
    mapsFit_update (s := settleHolds s (sigLostUnsettled c s)) c (fun _ => (refuseFarUp_entry _).1) hs
  unfold applyLossPolicy dropToBase
  split
  · split
    · exact mapsFit_update c (fun _ => intakeOwn_active ..) h
    · exact h
  · exact h

theorem mapsFit_handField (c : Carrier) (f : Option RawField) {s : State} (hs : MapsFit s) : MapsFit (handField c f s) :=
  handField_keeps c (fun _ _ hu => hu) (fun _ hu => mapsFit_enterSigLost c hu)
    (fun _ hu => mapsFit_of_eq (by simp) (by simp) (by simp) hu) (fun _ _ hu => mapsFit_takeEquipFault c _ hu)
    (fun _ _ _ hu => hu) (fun _ _ hu => mapsFit_update c (fun _ => intakeRequest_active ..) hu)
    (fun _ _ _ hu => mapsFit_of_eq (by simp) (by simp) (by simp) hu) f hs

/-! ### The fit through a frame start's work -/

/-- Between the mapper's count and the lane's at a frame start: what the switch, if it is due, will bring has been
loaded. -/
def FitsAhead (s : State) : Prop :=
  match s.lane.announcement with
  | none => Within s.working s.txActive s.mapper.active.maps ∧ s.mapper.shadow = none
  | some a =>
    if a.count ≤ 1 then Within s.working (profilesAhead s.lane a) s.mapper.active.maps ∧ s.mapper.shadow = none
    else Within s.working s.txActive s.mapper.active.maps ∧
      ∃ sh, s.mapper.shadow = some sh ∧ sh.remaining = a.count - 1 ∧ Within s.working (profilesAhead s.lane a) sh.result.maps

theorem fitsAhead_mapperWork {s : State} (hs : MapsFit s) : FitsAhead (mapperWork s) := by
  obtain ⟨hactive, hshadow⟩ := (mapsFit_iff s).1 hs
  have hm : (mapperWork s).mapper = (mapperTick s.mapper).1 := rfl
  have htick (sh : MapShadow) (h : s.mapper.shadow = some sh) : (mapperTick s.mapper).1 =
      if sh.remaining ≤ 1 then { active := sh.result, shadow := none }
      else { s.mapper with shadow := some { sh with remaining := sh.remaining - 1 } } := by
    unfold mapperTick mapShadowDue
    rw [h]
    by_cases hdue : sh.remaining ≤ 1 <;> simp [hdue]
  unfold FitsAhead
  rw [hm, show (mapperWork s).lane = s.lane from rfl, show (mapperWork s).working = s.working from rfl,
    show (mapperWork s).txActive = s.txActive from rfl]
  unfold ShadowFits at hshadow
  split
  · next ha =>
    rw [ha] at hshadow
    cases hsh : s.mapper.shadow with
    | none =>
      have : (mapperTick s.mapper).1 = s.mapper := by unfold mapperTick; rw [hsh]
      rw [this]
      exact ⟨hactive, hsh⟩
    | some sh =>
      obtain ⟨hdue, hfits⟩ := hshadow sh hsh
      rw [htick sh hsh, if_pos hdue]
      exact ⟨hfits, rfl⟩
  · next a ha =>
    rw [ha] at hshadow
    obtain ⟨sh, hsh, hcount, hfits⟩ := hshadow
    rw [htick sh hsh, hcount]
    split
    · exact ⟨hfits, rfl⟩
    · exact ⟨hactive, _, rfl, rfl, hfits⟩

theorem fitsAhead_of_eq {s t : State} (hw : t.working = s.working) (hm : t.mapper = s.mapper) (hl : t.lane = s.lane)
    (hs : FitsAhead s) : FitsAhead t := by
  unfold FitsAhead
  rw [hw, hm, hl, show t.txActive = s.txActive by funext c; rw [State.txActive, State.txActive, hl]]
  exact hs

/-- The switch brings the profiles that its shadow was placed for. -/
theorem laneSwitch_active (w : WorkingSet) (a : Announcement) (l : Lane) (c : Carrier) :
    ((laneSwitch w a l).1.carriers.get c).active = profilesAhead l a c := by
  simp only [laneSwitch, Four.get_ofFn, profilesAhead]
  cases a.member? c with
  | some m => simp [recheckFor]
  | none => rfl

theorem mapsFit_laneStep1 {s : State} (hs : FitsAhead s) : MapsFit (laneStep1 s) := by
  have hlane : (laneStep1 s).lane = (laneCountdown s.working s.lane).1 := rfl
  unfold FitsAhead at hs
  split at hs
  · next ha =>
    have : (laneCountdown s.working s.lane).1 = s.lane := by unfold laneCountdown; rw [ha]
    rw [this] at hlane
    exact mapsFit_of_eq (s := s) (t := laneStep1 s) rfl rfl hlane (mapsFit_of_bare ha hs.2 hs.1)
  · next a ha =>
    split at hs
    · next hdue =>
      have hstep : (laneCountdown s.working s.lane).1 = (laneSwitch s.working a s.lane).1 := by
        unfold laneCountdown announcementDue
        rw [ha]
        simp [hdue]
      rw [hstep] at hlane
      refine mapsFit_of_bare (t := laneStep1 s) (by rw [hlane]; rfl) hs.2 fun c => ?_
      have hcap : capacities s.working (laneStep1 s).txActive = capacities s.working (profilesAhead s.lane a) :=
        capacities_congr rfl (fun _ => rfl) fun d _ => by rw [State.txActive, hlane, laneSwitch_active]
      rw [show (laneStep1 s).working = s.working from rfl, hcap]
      exact hs.1 c
    · next hlate =>
      have hstep : (laneCountdown s.working s.lane).1 = { s.lane with announcement := some { a with count := a.count - 1 } } := by
        unfold laneCountdown announcementDue
        rw [ha]
        simp [hlate]
      rw [hstep] at hlane
      obtain ⟨hactive, sh, hsh, hcount, hfits⟩ := hs
      rw [mapsFit_iff, hlane, show (laneStep1 s).txActive = s.txActive by funext c; rw [State.txActive, hlane]; rfl]
      exact ⟨hactive, sh, hsh, hcount, hfits⟩

/-- An announcement that starts records the placement of its profiles. -/
theorem mapsFit_handAnnouncement {s : State} (hclasses : ∀ k, ClassInRange (s.working.classes.get k))
    (hactive : Within s.working s.txActive s.mapper.active.maps)
    (hidle : s.lane.announcement = none → ∀ sh ∈ s.mapper.shadow,
      sh.remaining ≤ 1 ∧ Within s.working s.txActive sh.result.maps) : MapsFit (handAnnouncement s) := by
  have hm := handAnnouncement_mapper s
  have htx : (handAnnouncement s).txActive = s.txActive := by
    funext c
    rw [State.txActive, State.txActive, handAnnouncement_lane]
  rw [mapsFit_iff, hm, handAnnouncement_working, handAnnouncement_lane, htx]
  unfold ShadowFits
  cases ha : s.lane.announcement with
  | none => exact ⟨hactive, hidle ha⟩
  | some a => exact ⟨hactive, _, rfl, rfl, mapSum_placement_le _ hclasses⟩

theorem laneSelect_active (link : LinkParams) (n : FrameNo) (running applyPending : Bool) (l : Lane) (c : Carrier) :
    ((laneSelect link n running applyPending l).carriers.get c).active = (l.carriers.get c).active := by
  unfold laneSelect
  split
  · simp only [startBundle, Four.get_ofFn]
    split
    · split
      · exact grantEntry_active _
      · rfl
    · rfl
  · split
    · split
      · next d _ =>
        unfold startUpgrade
        split
        · dsimp only
          rw [Four.get_set]
          split
          · next h => rw [h]; exact grantEntry_active _
          · rfl
        · rfl
      · rfl
    · rfl

theorem mapsFit_laneStep3 (n : FrameNo) {s : State} (hcfg : ConfigSound s) (hidle : s.lane.isIdle = true)
    (hs : MapsFit s) : MapsFit (laneStep3 n s) := by
  obtain ⟨hactive, hshadow⟩ := (mapsFit_iff s).1 hs
  have htx : (s.setLane (laneSelect s.working.link n (s.fault.state = .running) s.applyPending s.lane)).txActive =
      s.txActive := funext fun c => laneSelect_active ..
  refine mapsFit_handAnnouncement hcfg.2.1.2.2.1 ?_ fun _ => ?_ <;> rw [htx]
  · exact hactive
  · unfold ShadowFits at hshadow
    rw [Option.isNone_iff_eq_none.1 hidle] at hshadow
    exact hshadow

theorem laneWithdraw_active {w : WorkingSet} {deal : Member → LaneCarrier → LaneCarrier}
    (hactive : ∀ m x, (deal m x).active = x.active) (l : Lane) (c : Carrier) :
    ((laneWithdraw w deal l).carriers.get c).active = (l.carriers.get c).active := by
  cases ha : l.announcement with
  | none => unfold laneWithdraw; rw [ha]
  | some a =>
    rw [(laneWithdraw_some ha).2]
    split
    · rw [recheckFor, recheckEntry_active, hactive]
    · rfl

theorem mapsFit_laneStep4 (n : FrameNo) {s : State} (hcfg : ConfigSound s) (hs : MapsFit s) : MapsFit (laneStep4 n s) := by
  have htx : ((discardShadows (s.setLane (laneWithdraw s.working restoreMember s.lane))).setLane
      (laneSelect s.working.link n false s.applyPending (laneWithdraw s.working restoreMember s.lane))).txActive =
      s.txActive := funext fun c => (laneSelect_active ..).trans (laneWithdraw_active restoreMember_active ..)
  refine mapsFit_handAnnouncement (s := (discardShadows (s.setLane (laneWithdraw s.working restoreMember s.lane))).setLane
    (laneSelect s.working.link n false s.applyPending (laneWithdraw s.working restoreMember s.lane)))
    hcfg.2.1.2.2.1 ?_ fun _ => by simp [discardShadows, discardMapShadow]
  rw [htx]
  exact ((mapsFit_iff s).1 hs).1

theorem mapsFit_commitWork (n : FrameNo) {s : State} (hcfg : ConfigSound s) (hp : s.applyPending = true)
    (hidle : s.lane.isIdle = true) (hmapper : MapperSound s) (hs : MapsFit s) : MapsFit (commitWork n s) := by
  have hclasses := (configSound_commitWork n hcfg hp).2.1.2.2.1
  rw [commitWork_working] at hclasses
  have hidle' : (commitParts n s).lane.announcement = none := by
    rw [commitParts_lane]
    exact Option.isNone_iff_eq_none.1 hidle
  have hparts : MapsFit (commitParts n s) := by
    rw [mapsFit_iff, commitParts_working]
    constructor
    · intro c
      rw [commitParts_mapper, capacities_get]
      have hle := mapSum_conform_le (stagedAsWorking s.staged) (fun c => s.enabled c && !((stagedAsWorking s.staged).carriers.get c).enable)
        (fun c => ((commitParts n s).lane.carriers.get c).active) hmapper.1 c
      have hold := hs.1 c
      rw [capacities_get, ← State.params_eq] at hold
      refine le_trans hle ?_
      cases hnew : ((stagedAsWorking s.staged).carriers.get c).enable <;> cases hen : s.enabled c
      · have : (s.params c).enable = false := hen
        rw [this] at hold
        simp at hold ⊢
        omega
      · simp
      · simp [State.txActive]
      · simp [State.txActive]
    · unfold ShadowFits
      rw [hidle', commitParts_mapper]
      intro sh hsh
      cases hsh
      exact ⟨le_refl _, mapSum_placement_le _ hclasses⟩
  rw [commitWork_eq]
  unfold rederiveAfterCommit
  split
  · exact mapsFit_linkAbort _ (s := (commitParts n s).setFreeCount _) hparts
  · exact hparts

/-- The state that the maps' fit is kept through: the configuration, the lane and the mapper sound as well. -/
def FitState (s : State) : Prop := ConfigSound s ∧ LaneSound s ∧ MapperSound s ∧ MapsFit s

/-- Where a piece keeps the fit it keeps the whole. -/
theorem FitState.piece {s t : State} (hs : FitState s) (h : Piece s t) (hfit : MapsFit t) : FitState t :=
  ⟨configSound_piece h hs.1, laneSound_piece h hs.1 hs.2.1, mapperSound_piece h hs.1 hs.2.2.1, hfit⟩

theorem fitState_notice (c : Carrier) {s : State} (hlink : s.port.link = .running) (hs : FitState s) :
    FitState (handField c none s) := hs.piece (.notice c hlink) (mapsFit_handField c none hs.2.2.2)

theorem fitState_blind (c : Carrier) {s : State} (hlink : s.port.link = .running) (hs : FitState s) :
    FitState (takeBlind c s) := hs.piece (.report c hlink) (mapsFit_of_eq (by simp [takeBlind]) (by simp [takeBlind])
      (by simp [takeBlind]) hs.2.2.2)

/-- The lane's work at a frame start, from the state between the counts. -/
theorem fitState_laneWork (n : FrameNo) {s : State} (hlink : s.port.link = .running) (hcfg : ConfigSound s)
    (hlane : LaneSound s) (hmapper : MapperSound s) (hfit : FitsAhead s) : FitState (laneWork n s) := by
  have hstep := Piece.laneStep1 hlink
  have h1 : FitState (laneStep1 s) := ⟨configSound_piece hstep hcfg, laneSound_piece hstep hcfg hlane,
    mapperSound_piece hstep hcfg hmapper, mapsFit_laneStep1 hfit⟩
  have hlink1 : (laneStep1 s).port.link = .running := hlink
  unfold laneWork
  dsimp only
  split
  · next hidle =>
    split
    · next hp => exact h1.piece (.commit n hlink1 hp hidle) (mapsFit_commitWork n h1.1 hp hidle h1.2.2.1 h1.2.2.2)
    · next hp => exact h1.piece (.laneStep3 n hlink1 (by simpa using hp) hidle) (mapsFit_laneStep3 n h1.1 hidle h1.2.2.2)
  · split
    · next hw =>
      rw [Bool.and_eq_true] at hw
      exact h1.piece (.laneStep4 n hlink1 hw.1) (mapsFit_laneStep4 n h1.1 h1.2.2.2)
    · exact h1

theorem fitState_tail (n : FrameNo) (pass : Carrier → Bool) (loaded : Four (Option Nat)) {s : State} (hs : FitState s) :
    FitState (computeAtten loaded (scanWork n pass s)) :=
  (hs.piece (.scan n pass) hs.2.2.2).piece (.atten loaded) (mapsFit_of_eq (by simp) (by simp) (by simp) hs.2.2.2)

theorem fitState_blockWork (n : FrameNo) (pass : Carrier → Bool) {s : State} (hlink : s.port.link = .running)
    (hs : FitState s) : FitState (blockWork n pass id s) := by
  have hchain : Pieces s (rauWork (powerWork (mapperWork (graceWork s)))) :=
    ((Relation.ReflTransGen.single (.grace)).tail (.mapper hlink)).tail .power |>.tail (.rau hlink)
  have hall := hchain.keeps (P := fun u => ConfigSound u ∧ LaneSound u ∧ MapperSound u)
    (fun _ _ hp hu => ⟨configSound_piece hp hu.1, laneSound_piece hp hu.1 hu.2.1, mapperSound_piece hp hu.1 hu.2.2⟩)
    ⟨hs.1, hs.2.1, hs.2.2.1⟩
  have hahead : FitsAhead (rauWork (powerWork (mapperWork (graceWork s)))) :=
    fitsAhead_mapperWork (s := graceWork s) hs.2.2.2
  exact fitState_tail n _ _ (fitState_laneWork n (hchain.running hlink) hall.1 hall.2.1 hall.2.2 hahead)

/-- After a restoration every map is empty, the lane is idle, and the shadow is the placement at P0 (R165). -/
theorem mapsFit_restored (n : FrameNo) {s : State} (hcfg : ConfigSound s) (hlost : s.port.link = .frameLost)
    (hlane : LaneSound s) (hmapper : MapperSound s) : MapsFit (restored n s) ∧ (restored n s).lane.announcement = none := by
  obtain ⟨hempty, hnone⟩ := hmapper.2.2 hlost
  have hidle : s.lane.announcement = none := Option.eq_none_iff_forall_not_mem.2 fun a ha =>
    absurd (hlost.symm.trans (hlane.2 a ha).2.1) (by decide)
  have htick : (mapperTick s.mapper).1 = s.mapper := by unfold mapperTick; rw [hnone]
  have hann : (restored n s).lane.announcement = none := by rw [restored_lane]; exact hidle
  refine ⟨?_, hann⟩
  rw [mapsFit_iff, restored_working, restored_mapper, htick]
  refine ⟨fun c => ?_, ?_⟩
  · have : (mapperRestore s.working n s.mapper).active.maps.get c = [] := hempty c
    rw [this]
    exact Nat.zero_le _
  · unfold ShadowFits
    rw [hann]
    intro sh hsh
    cases hsh
    refine ⟨le_refl _, fun c => ?_⟩
    refine le_trans (mapSum_placement_le _ hcfg.2.1.2.2.1 c) (le_of_eq (congrArg (fun f => Four.get f c)
      (capacities_congr rfl (fun _ => rfl) fun d hd => ?_)))
    rw [restored_lane, laneRestore, Four.get_ofFn, if_pos hd]

/-- With the lane idle the shadow's fit does not turn on the lane's count, so the work from a restoration keeps it. -/
theorem fitState_restoringFrame (n : FrameNo) {s : State} (hlost : s.port.link = .frameLost) (hs : FitState s) :
    FitState (restoringFrame n s) := by
  obtain ⟨hfit, hidle⟩ := mapsFit_restored n hs.1 hlost hs.2.1 hs.2.2.1
  have h1 : FitState (rauWork (restored n s)) :=
    (hs.piece (.restored n hlost) hfit).piece (.rau (restored_link n s)) hfit
  have hstep : laneStep1 (rauWork (restored n s)) = (rauWork (restored n s)).report [] := by
    unfold laneStep1 laneCountdown
    rw [rauWork_lane, hidle]
    rfl
  have h2 : FitState (laneStep1 (rauWork (restored n s))) :=
    h1.piece (.laneStep1 (restored_link n s)) (by rw [hstep]; exact h1.2.2.2)
  have h3 : FitState (laneWork n (rauWork (restored n s))) := by
    have hlink2 : (laneStep1 (rauWork (restored n s))).port.link = .running := restored_link n s
    unfold laneWork
    dsimp only
    split
    · next hidle =>
      split
      · next hp => exact h2.piece (.commit n hlink2 hp hidle) (mapsFit_commitWork n h2.1 hp hidle h2.2.2.1 h2.2.2.2)
      · next hp => exact h2.piece (.laneStep3 n hlink2 (by simpa using hp) hidle) (mapsFit_laneStep3 n h2.1 hidle h2.2.2.2)
    · next hbusy =>
      rw [hstep] at hbusy
      exact absurd (Option.isNone_iff_eq_none.2 hidle) hbusy
  obtain ⟨pass, e⟩ := restoringFrame_eq n s
  rw [e]
  have h4 := fitState_tail n pass (loadedProfiles (restoredPort n s)) h3
  exact (h4.piece (piece_startWatch _) h4.2.2.2).piece (piece_deliver n _) h4.2.2.2

theorem fitState_of_port {s : State} (p : Port) (h : p.link = s.port.link) (hs : FitState s) : FitState (s.setPort p) :=
  hs.piece (.port p h) hs.2.2.2

theorem fitState_startWatch {s : State} (hs : FitState s) : FitState (startWatch s) := fitState_of_port _ rfl hs

theorem fitState_deliver (n : FrameNo) {s : State} (hs : FitState s) : FitState (deliver n s) := fitState_of_port _ rfl hs

theorem fitState_ordinaryFrame (n cur : FrameNo) (order : FrameOrder) {s : State} (hlink : s.port.link = .running)
    (hs : FitState s) : FitState (ordinaryFrame n cur order s) := by
  rw [ordinaryFrame_eq]
  have hhand {time : HandoverTime} {t : State} (ht : t.port.link = .running ∧ FitState t) :=
    handovers_keeps (P := fun u => u.port.link = .running ∧ FitState u)
      (fun c u hu => ⟨(Piece.report c hu.1).running hu.1, fitState_blind c hu.1 hu.2⟩)
      (fun c u hu => ⟨(Piece.notice c hu.1).running hu.1, fitState_notice c hu.1 hu.2⟩) order (countedCarriers s)
      (missingCarriers s) time ht
  have hadopt : (adoptFrame n cur s).port.link = .running ∧ FitState (adoptFrame n cur s) :=
    (pieces_adoptFrame n cur s).keeps (P := fun u => u.port.link = .running ∧ ConfigSound u ∧ LaneSound u ∧ MapperSound u)
      (fun _ _ hp hu => ⟨hp.running hu.1, configSound_piece hp hu.2.1, laneSound_piece hp hu.2.1 hu.2.2.1,
        mapperSound_piece hp hu.2.1 hu.2.2.2⟩) ⟨hlink, hs.1, hs.2.1, hs.2.2.1⟩ |> fun h =>
      ⟨h.1, h.2.1, h.2.2.1, h.2.2.2, mapsFit_of_eq (by simp) (by simp) (by simp) hs.2.2.2⟩
  obtain ⟨hlink1, h1⟩ := hhand (time := .beforeBlocks) hadopt
  have h2 := fitState_blockWork n (fun _ => false) hlink1 h1
  have hlink2 := (pieces_blockWork n (fun _ => false) _ hlink1).running hlink1
  obtain ⟨hlink3, h3⟩ := hhand (time := .beforeFields) (t := startWatch _) ⟨hlink2, fitState_startWatch h2⟩
  exact (hhand (time := .last) (t := deliver n _) ⟨hlink3, fitState_deliver n h3⟩).2

theorem fitState_takeFrameStart (n : FrameNo) (order : FrameOrder) {s : State} (hs : FitState s) :
    FitState (takeFrameStart n order s) := by
  unfold takeFrameStart
  split
  · next hlost => exact fitState_restoringFrame n hlost hs
  · next hlink _ =>
    have h1 := fitState_blockWork n (fun _ => true) rfl (fitState_of_port (uncountedPort n s.port) hlink.symm hs)
    exact fitState_deliver n (fitState_startWatch h1)
  · next hlink _ => exact fitState_ordinaryFrame n _ order hlink hs

/-! ### Every step -/

theorem mapsFit_setCombineMode (c : Carrier) (m : CombiningMode) {s : State} (hs : MapsFit s) :
    MapsFit (setCombineMode c m s) := by
  have hparams (d : Carrier) : ((setCombineMode c m s).working.carriers.get d).enable = (s.working.carriers.get d).enable := by
    unfold setCombineMode
    dsimp only
    split <;> simp [Four.get_set] <;> split <;> simp_all [State.params_eq]
  have hrest : (setCombineMode c m s).working.table = s.working.table ∧ (setCombineMode c m s).mapper = s.mapper ∧
      (setCombineMode c m s).lane = s.lane := by
    unfold setCombineMode
    dsimp only
    split <;> exact ⟨rfl, rfl, rfl⟩
  obtain ⟨htable, hmapper, hlane⟩ := hrest
  exact mapsFit_of_same htable hparams hmapper (by rw [hlane]) (fun d => by rw [hlane]) hs

theorem mapsFit_initial {t : State} (hm : t.mapper = .initial) (hl : t.lane = .initial) : MapsFit t := by
  refine mapsFit_of_bare (by rw [hl]; rfl) (by rw [hm]; rfl) fun c => ?_
  have : t.mapper.active.maps.get c = [] := by rw [hm]; exact Four.get_fill ..
  rw [this]
  exact Nat.zero_le _

theorem mapsFit_effect {i : Instr} {s t : State} (h : Effect i s t) (hi : i ≠ .announcementSwitch ∧ i ≠ .mapShadowLoad)
    (hs : FitState s) : MapsFit t := by
  have hfit := hs.2.2.2
  cases h with
  | field c f => exact mapsFit_handField c f hfit
  | frameStart n order => exact (fitState_takeFrameStart n order hs).2.2.2
  | announcementSwitch h => exact absurd h hi.1
  | mapShadow h => exact absurd h hi.2
  | commit n hlink hp hidle =>
    exact mapsFit_of_eq (s := commitWork n s) (by simp) (by simp) (by simp) (mapsFit_commitWork n hs.1 hp hidle hs.2.2.1 hfit)
  | frameLoss =>
    refine mapsFit_of_bare (by rw [takeFrameLoss_lane]; rfl) (by rw [takeFrameLoss_mapper]; rfl) fun c => ?_
    have : (takeFrameLoss s).mapper.active.maps.get c = [] := by rw [takeFrameLoss_mapper]; exact Four.get_fill ..
    rw [this]
    exact Nat.zero_le _
  | faultLevel v => exact mapsFit_takeFaultLevel v hfit
  | powerOn => exact mapsFit_initial rfl rfl
  | reset => exact mapsFit_initial rfl rfl
  | combine c m => exact mapsFit_setCombineMode c m hfit
  | txHold c v =>
    refine mapsFit_update c (fun x => ?_) hfit
    split
    · exact (refuseFarUp_entry _).1
    · rfl
  | abort => exact mapsFit_linkAbort _ hfit
  | resume => exact mapsFit_of_eq (by simp) (by simp) (by simp) hfit
  | powerShadow c => unfold loadPowerShadow; split <;> exact hfit
  | port | intake | events | hml | freeCount | report | graceExpiry | window | rxSwitch | timeout
  | staged | applied | hostPause => exact hfit

/-- Settles O11: placements and conformed placements show the same segments in maps and entries; and the maps fit through
a frame start, whose load of the shadow and switch of the announcement meet, and through every other operation. -/
theorem slotMapsStaySound : Obligations.SlotMapsStaySound := by
  refine ⟨fun _ _ hcfg hs h => ?_, fun s _ hcfg hlane hmapper hfit hnoSwitch hnoLoad h => ?_⟩
  · exact (step_keeps (P := fun u => ConfigSound u ∧ MapperSound u) (fun _ => id)
      (fun _ _ _ _ heff hu => ⟨configSound_effect heff hu.1, mapperSound_effect heff hu.1 hu.2⟩) ⟨hcfg, hs⟩ h).2
  · refine (step_keeps (P := FitState) (fun _ => id) (fun i _ _ hi heff hu => ?_) ⟨hcfg, hlane, hmapper, hfit⟩ h).2.2.2
    have hrow : i ≠ .announcementSwitch ∧ i ≠ .mapShadowLoad := by
      rw [hi] at hnoSwitch hnoLoad
      exact ⟨fun h => hnoSwitch (by rw [h]), fun h => hnoLoad (by rw [h])⟩
    exact ⟨configSound_effect heff hu.1, laneSound_effect heff hu.1 hu.2.1, mapperSound_effect heff hu.1 hu.2.2.1,
      mapsFit_effect heff hrow hu⟩

end Sys2Proof.Machine
end

section
/-! The machine as a whole: a step, the commands' outcomes, the queue, and the reset state. -/
namespace Sys2Proof.Machine

/-- Settles O1, by the two cases of the queue. -/
theorem stepTakesTheFrontCommand : Obligations.StepTakesTheFrontCommand :=
  ⟨fun s i rest h => by simp [step, h], fun s h => by simp [step, h]⟩

/-! ### What one FRAME_START leaves alone -/

/-- The staged set, the host link and the queue are no frame start's. -/
theorem Piece.keeps_host {s t : State} (h : Piece s t) :
    t.staged = s.staged ∧ t.hml = s.hml ∧ t.pending = s.pending := by
  cases h <;> simp [takeBlind, Machine.restored, restoredPort]

theorem takeFrameStart_host (n : FrameNo) (order : FrameOrder) (s : State) :
    (takeFrameStart n order s).staged = s.staged ∧ (takeFrameStart n order s).hml = s.hml ∧
      (takeFrameStart n order s).pending = s.pending :=
  Pieces.keeps (P := fun t => t.staged = s.staged ∧ t.hml = s.hml ∧ t.pending = s.pending)
    (fun u v huv ⟨h1, h2, h3⟩ => by obtain ⟨e1, e2, e3⟩ := huv.keeps_host; exact ⟨e1.trans h1, e2.trans h2, e3.trans h3⟩)
    (pieces_takeFrameStart n order s) ⟨rfl, rfl, rfl⟩

@[simp] theorem takeFrameStart_staged (n : FrameNo) (order : FrameOrder) (s : State) :
    (takeFrameStart n order s).staged = s.staged := (takeFrameStart_host n order s).1
@[simp] theorem takeFrameStart_hml (n : FrameNo) (order : FrameOrder) (s : State) :
    (takeFrameStart n order s).hml = s.hml := (takeFrameStart_host n order s).2.1
@[simp] theorem takeFrameStart_pending (n : FrameNo) (order : FrameOrder) (s : State) :
    (takeFrameStart n order s).pending = s.pending := (takeFrameStart_host n order s).2.2

/-! ### The queue -/

@[simp] theorem loadPowerShadow_pending (c : Carrier) (s : State) : (loadPowerShadow c s).pending = s.pending := by
  unfold loadPowerShadow
  cases (powerShadowTick (s.pcu.get c)).2 <;> rfl

@[simp] theorem setCombineMode_pending (c : Carrier) (m : CombiningMode) (s : State) :
    (setCombineMode c m s).pending = s.pending := by
  unfold setCombineMode
  dsimp only
  split <;> rfl

theorem Effect.keeps_pending {i : Instr} {s t : State} (h : Effect i s t) : t.pending = s.pending := by
  cases h <;> simp [expireGrace, setHostPause, setTxHoldFlag, Machine.powerOn, resetBlocks]

/-- Settles O2: a command is a chain of operations (`exec_effects`), each of which leaves the queue alone. -/
theorem everyCommandAnswersNext : Obligations.EveryCommandAnswersNext := by
  intro i s
  obtain ⟨t, ht, heffects⟩ := exec_effects i s
  refine ⟨t, ht, ?_⟩
  clear ht
  induction heffects with
  | refl => rfl
  | tail _ hbc ih => exact hbc.keeps_pending.trans ih

/-! ### The reset state -/

theorem estimatesInRange_reset : EstimatesInRange State.reset := fun c => by
  simp [EstimateInRange, State.reset, EstRecord.unseeded]

theorem eventTableSound_reset : EventTableSound State.reset.events :=
  ⟨List.Pairwise.nil, by simp [State.reset, EventTable.initial]⟩

/-- Settles O3, block by block: every block's initial record keeps its invariant. -/
theorem resetStateIsSound : Obligations.ResetStateIsSound :=
  ⟨estimatesInRange_reset, eventTableSound_reset, configSound_default _ stagedInRange_default rfl rfl,
    receiveSound_initial rfl rfl rfl, laneSound_initial rfl rfl, powerSound_initial rfl, monitorSound_initial rfl rfl,
    signallingSound_of_initial rfl, mapperSound_initial rfl, mapsFit_initial rfl rfl⟩

/-! ### GRACE_EXPIRY and the far end's margin -/

theorem onOccasion_true {due : Bool} (h : due = true) (f : State → State) (s : State) : onOccasion due f s = f s := by
  simp [onOccasion, h]

theorem onOccasion_false {due : Bool} (h : due = false) (f : State → State) (s : State) : onOccasion due f s = s := by
  simp [onOccasion, h]

/-- Settles O26, by the row's occasion. -/
theorem graceExpiryEndsTheScanPause : Obligations.GraceExpiryEndsTheScanPause := by
  intro c s
  have hexec : exec (.graceExpiry c) s =
    .next (onOccasion (s.frameRunning && s.monitor.grace.get c = 1) (expireGrace c) s) := rfl
  constructor
  · intro hlink hcur hone
    have hdue : (s.frameRunning && decide (s.monitor.grace.get c = 1)) = true := by
      simp [State.frameRunning, hlink, hcur, hone]
    rw [hexec, onOccasion_true hdue]
    exact ⟨rfl, by simp [scanPauses]⟩
  · intro h
    have hdue : (s.frameRunning && decide (s.monitor.grace.get c = 1)) = false := by
      rw [← or_assoc, ← State.frameRunning_eq_false_iff] at h
      simpa [imp_iff_not_or] using h
    rw [hexec, onOccasion_false hdue]

section
variable (p : CarrierParams) {margin : Nat}

theorem powerStep_fade (x : PowerCarrier) : powerStep p margin true x = { x with atpc := 0, period := p.period } := rfl

theorem powerStep_low (h : margin < p.low) (x : PowerCarrier) :
    powerStep p margin false x = { x with atpc := x.atpc - 2 } := by simp [powerStep, h]

/-- A field below low again and again takes two from atpc_atten each time. -/
theorem iterate_powerStep_low (h : margin < p.low) (n : Nat) (x : PowerCarrier) :
    ((fun y => powerStep p margin false y)^[n] x).atpc = x.atpc - 2 * n := by
  induction n generalizing x with
  | zero => rfl
  | succ n ih => rw [Function.iterate_succ_apply, ih, powerStep_low p h]; dsimp only; omega

theorem powerStep_high (h : p.low ≤ margin) (hhigh : p.high < margin) {x : PowerCarrier} (hx : x.period = 0) :
    powerStep p margin false x = { x with atpc := min p.maxAtten (x.atpc + 1), period := p.period } := by
  simp [powerStep, reloadPeriod, not_lt.2 h, hhigh, hx]

theorem powerStep_between (h : p.low ≤ margin) {x : PowerCarrier} (hx : margin ≤ p.high ∨ 0 < x.period) :
    powerStep p margin false x = x := by
  have hnot : ¬ (p.high < margin ∧ x.period = 0) := by omega
  simp [powerStep, not_lt.2 h, hnot]
end

/-- Settles O43, by R144's four cases; twenty steps of 2 cover the largest max_atten. -/
theorem farMarginStepsAttenuation : Obligations.FarMarginStepsAttenuation := by
  intro p margin x
  refine ⟨powerStep_fade p x, fun h => powerStep_low p h x, fun h hhigh hx => powerStep_high p h hhigh hx,
    fun h hx => powerStep_between p h hx, fun h hx hmax => ?_⟩
  rw [iterate_powerStep_low p h]
  omega

end Sys2Proof.Machine
end

section
/-! The host messages that stage records, read them, and act at once (R180, R181, R51, R68, R84, R175). -/
namespace Sys2Proof.Machine

/-! ### A message taken while answering -/

section
variable {m : Message} {payload : List Byte} {s t : State} (hm : m ≠ .reset) (hs : Answering s) (tag : Byte)
include hm hs

theorem exec_of_act {reply : List Byte} (h : messageAct m payload s = (t, reply)) :
    exec (messageCommand m tag payload) s = answered m.kind tag reply t := by
  rw [exec_messageCommand_of_answering hm hs, h]

theorem exec_of_accept (h : messageAct m payload s = accept t) :
    exec (messageCommand m tag payload) s = answered m.kind tag [0] t := exec_of_act hm hs tag h

theorem exec_of_refuse {status : Status} (h : messageAct m payload s = refuse status s) :
    exec (messageCommand m tag payload) s = refusedWith status m.kind tag s := exec_of_act hm hs tag h
end

/-! ### Operand bytes -/

theorem Carrier.ofNat?_eq_none_iff (n : Nat) : Carrier.ofNat? n = none ↔ 4 ≤ n :=
  match n with
  | 0 | 1 | 2 | 3 => by simp [Carrier.ofNat?]
  | n + 4 => by simp [Carrier.ofNat?]

theorem Cls.ofNat?_eq_none_iff (n : Nat) : Cls.ofNat? n = none ↔ 8 ≤ n :=
  match n with
  | 0 | 1 | 2 | 3 | 4 | 5 | 6 | 7 => by simp [Cls.ofNat?]
  | n + 8 => by simp [Cls.ofNat?]

theorem EventKind.ofNat?_eq_none_iff (n : Nat) : EventKind.ofNat? n = none ↔ 15 < n :=
  match n with
  | 0 | 1 | 2 | 3 | 4 | 5 | 6 | 7 | 8 | 9 | 10 | 11 | 12 | 13 | 14 | 15 => by simp [EventKind.ofNat?]
  | n + 16 => by simp [EventKind.ofNat?]

theorem isFlag_eq_false_iff (b : Byte) : isFlag b = false ↔ 2 ≤ b.toNat := by
  simp only [isFlag, decide_eq_false_iff_not]; omega

theorem ofByte?_eq_none_iff (b : Byte) : CombiningMode.ofByte? b = none ↔ 4 ≤ b.toNat := by
  have hnat (n : Byte) : b = n ↔ b.toNat = n.toNat := BitVec.toNat_inj.symm
  unfold CombiningMode.ofByte?
  simp only [hnat]
  (repeat' split) <;> (simp_all; try omega)

theorem changesLimits_iff (old new : CarrierParams) : changesLimits old new = true ↔
    ¬ (new.enable = old.enable ∧ new.rxCeiling = old.rxCeiling ∧ new.txCeiling = old.txCeiling) := by
  rw [← Bool.not_eq_false, changesLimits_eq_false_iff]

/-! ### Staging messages -/

section
variable (s : State) {b : Byte} {rest : List Byte}

theorem stageLinkMessage_of_length {payload : List Byte} (h : payload.length = 24) :
    stageLinkMessage payload s = match readLink payload with
      | some l => accept (s.setStaged { s.staged with link := l })
      | none => refuse .badValue s := if_neg (not_not.2 h)

theorem stageCarrierMessage_of_read (h : rest.length = 12) {c : Carrier} {p : CarrierParams}
    (hc : Carrier.ofNat? b.toNat = some c) (hp : readCarrierParams rest = some p) :
    stageCarrierMessage (b :: rest) s =
      if s.applyPending && changesLimits (s.staged.carriers.get c) p then refuse .busy s
      else accept (s.setStaged { s.staged with carriers := s.staged.carriers.set c p }) := by
  simp [stageCarrierMessage, h, hc, hp]

theorem stageCarrierMessage_of_unread (h : rest.length = 12)
    (hread : Carrier.ofNat? b.toNat = none ∨ readCarrierParams rest = none) :
    stageCarrierMessage (b :: rest) s = refuse .badValue s := by
  rcases hread with hread | hread
  · simp [stageCarrierMessage, h, hread]
  · cases hc : Carrier.ofNat? b.toNat <;> simp [stageCarrierMessage, h, hread, hc]

theorem stageProfileMessage_of_read (h : rest.length = 5) {r : ProfileRecord} (hr : readProfile b.toNat rest = some r) :
    stageProfileMessage (b :: rest) s =
      if s.applyPending then refuse .busy s
      else accept (s.setStaged { s.staged with slots := s.staged.slots.setIfInBounds b.toNat (some r) }) := by
  simp [stageProfileMessage, h, hr]

theorem stageProfileMessage_of_unread (h : rest.length = 5) (hr : readProfile b.toNat rest = none) :
    stageProfileMessage (b :: rest) s = refuse .badValue s := by
  simp [stageProfileMessage, h, hr]

theorem stageClassMessage_of_read (h : rest.length = 6) {k : Cls} {r : ClassRecord}
    (hk : Cls.ofNat? b.toNat = some k) (hr : readClass rest = some r) :
    stageClassMessage (b :: rest) s =
      accept (s.setStaged { s.staged with classes := s.staged.classes.set k r }) := by
  simp [stageClassMessage, h, hk, hr]

theorem stageClassMessage_of_unread (h : rest.length = 6)
    (hread : Cls.ofNat? b.toNat = none ∨ readClass rest = none) :
    stageClassMessage (b :: rest) s = refuse .badValue s := by
  rcases hread with hread | hread
  · simp [stageClassMessage, h, hread]
  · cases hc : Cls.ofNat? b.toNat <;> simp [stageClassMessage, h, hread, hc]
end

/-- A profile slot that a record is read for lies in the staged table (R55). -/
theorem slot_lt_of_readProfile {slot : Nat} {bytes : List Byte} {r : ProfileRecord}
    (h : readProfile slot bytes = some r) : slot < 12 := by
  have := (profileInRange_of_readProfile h).1
  omega

/-- Settles O49, message by message. -/
theorem stagingMessagesWriteTheStagedSet : Obligations.StagingMessagesWriteTheStagedSet := by
  intro tag s hs
  refine ⟨fun payload hlen => ?link, fun b rest hlen => ⟨fun c p hc hp => ⟨fun hpend hsame => ?_, fun h => ?_⟩, fun h => ?_⟩,
    fun slot rest hlen => ⟨fun r hr hpend => ?_, fun r hr hpend => ?profile, fun hr => ?_⟩,
    fun length => ⟨fun h => ?_, fun h hpend => ?_, fun h hpend => ?_⟩,
    fun b rest hlen => ⟨fun k r hk hr => ?_, fun h => ?_⟩⟩
  case link =>
    have act := stageLinkMessage_of_length s hlen
    cases hread : readLink payload with
    | some l => exact exec_of_accept (m := .stageLink) (by decide) hs tag (by rw [messageAct, act, hread])
    | none => exact exec_of_refuse (m := .stageLink) (by decide) hs tag (by rw [messageAct, act, hread])
  · have hc' := (changesLimits_iff (s.staged.carriers.get c) p).2 hsame
    exact exec_of_refuse (m := .stageCarrier) (by decide) hs tag <|
      (stageCarrierMessage_of_read s hlen hc hp).trans (by simp [hpend, hc'])
  · have hnot : (s.applyPending && changesLimits (s.staged.carriers.get c) p) = false := by
      rcases h with h | ⟨h1, h2, h3⟩
      · simp [h]
      · rw [(changesLimits_eq_false_iff _ _).2 ⟨h1, h2, h3⟩, Bool.and_false]
    exact exec_of_accept (m := .stageCarrier) (by decide) hs tag <|
      (stageCarrierMessage_of_read s hlen hc hp).trans (by simp [hnot])
  · exact exec_of_refuse (m := .stageCarrier) (by decide) hs tag (stageCarrierMessage_of_unread s hlen h)
  · exact exec_of_refuse (m := .stageProfile) (by decide) hs tag <|
      (stageProfileMessage_of_read s hlen hr).trans (by simp [hpend])
  case profile =>
    have hslot := slot_lt_of_readProfile hr
    refine ⟨s.staged.slots.setIfInBounds slot.toNat (some r), ?_, ?_, fun p hp => ?_⟩
    · exact exec_of_accept (m := .stageProfile) (by decide) hs tag <|
        (stageProfileMessage_of_read s hlen hr).trans (by simp [hpend])
    · rw [Vector.getElem?_setIfInBounds_self_of_lt hslot]
    · rw [Vector.getElem?_setIfInBounds_ne hp.symm]
  · exact exec_of_refuse (m := .stageProfile) (by decide) hs tag (stageProfileMessage_of_unread s hlen hr)
  · exact exec_of_refuse (m := .stageTableLength) (by decide) hs tag (by simp [messageAct, stageTableLengthMessage, h])
  · exact exec_of_refuse (m := .stageTableLength) (by decide) hs tag
      (by simp [messageAct, stageTableLengthMessage, not_lt.2 h, hpend])
  · exact exec_of_accept (m := .stageTableLength) (by decide) hs tag
      (by simp [messageAct, stageTableLengthMessage, not_lt.2 h, hpend])
  · exact exec_of_accept (m := .stageClass) (by decide) hs tag (stageClassMessage_of_read s hlen hk hr)
  · exact exec_of_refuse (m := .stageClass) (by decide) hs tag (stageClassMessage_of_unread s hlen h)

/-! ### Read replies -/

section
variable {s : State} (hs : Answering s) (tag : Byte)
include hs

theorem exec_readStaged_of_record {selector index : Byte} {bytes : List Byte}
    (h : stagedRecord s selector.toNat index.toNat = some bytes) :
    exec (.readStaged tag [selector, index]) s = answered 0x21 tag ([0, selector, index] ++ bytes) s :=
  exec_of_act (m := .readStaged) (by decide) hs tag (by simp only [messageAct, readRecord, h]; rfl)

theorem exec_readWorking_of_record {selector index : Byte} {bytes : List Byte}
    (h : workingRecord s selector.toNat index.toNat = some bytes) :
    exec (.readWorking tag [selector, index]) s = answered 0x22 tag ([0, selector, index] ++ bytes) s :=
  exec_of_act (m := .readWorking) (by decide) hs tag (by simp only [messageAct, readRecord, h]; rfl)

theorem exec_readStaged_of_none {selector index : Byte} (h : stagedRecord s selector.toNat index.toNat = none) :
    exec (.readStaged tag [selector, index]) s = refusedWith .badValue 0x21 tag s :=
  exec_of_refuse (m := .readStaged) (by decide) hs tag (by simp only [messageAct, readRecord, h])

theorem exec_readWorking_of_none {selector index : Byte} (h : workingRecord s selector.toNat index.toNat = none) :
    exec (.readWorking tag [selector, index]) s = refusedWith .badValue 0x22 tag s :=
  exec_of_refuse (m := .readWorking) (by decide) hs tag (by simp only [messageAct, readRecord, h])
end

/-- The selectors and indices that name no record (R180). -/
theorem recordPayload_eq_none (link : LinkParams) (carriers : Four CarrierParams) (slot : Nat → Option ProfileRecord)
    (length : Nat) (classes : Eight ClassRecord) {selector index : Nat}
    (h : 4 < selector ∨ (selector = 0 ∧ index ≠ 0) ∨ (selector = 1 ∧ 3 < index) ∨ (selector = 2 ∧ 11 < index) ∨
      (selector = 3 ∧ index ≠ 0) ∨ (selector = 4 ∧ 7 < index)) :
    recordPayload link carriers slot length classes selector index = none := by
  rcases h with h | ⟨rfl, h⟩ | ⟨rfl, h⟩ | ⟨rfl, h⟩ | ⟨rfl, h⟩ | ⟨rfl, h⟩
  · obtain ⟨k, rfl⟩ := Nat.exists_eq_add_of_le' h
    rfl
  · simp [recordPayload, h]
  · simp [recordPayload, (Carrier.ofNat?_eq_none_iff index).2 h]
  · simp [recordPayload, not_le.2 h]
  · simp [recordPayload, h]
  · simp [recordPayload, (Cls.ofNat?_eq_none_iff index).2 h]

/-- Settles O51: each record is `recordPayload`'s for its selector, and the rest of the selectors name none. -/
theorem readRepliesCarryTheRecords : Obligations.ReadRepliesCarryTheRecords := by
  intro tag s hs
  refine ⟨⟨s.hml.rate.code, ?_, ?_, ?_, ?_⟩, exec_readStaged_of_record hs tag rfl, exec_readWorking_of_record hs tag rfl,
    fun b c hc => ⟨exec_readStaged_of_record hs tag ?_, exec_readWorking_of_record hs tag ?_⟩,
    fun b slot hslot => exec_readStaged_of_record hs tag ?staged, fun b hb => exec_readWorking_of_record hs tag ?_,
    exec_readStaged_of_record hs tag rfl, exec_readWorking_of_record hs tag rfl,
    fun b k hk => ⟨exec_readStaged_of_record hs tag ?_, exec_readWorking_of_record hs tag ?_⟩,
    fun selector index h => ?none⟩
  · exact exec_of_act (m := .identify) (by decide) hs tag rfl
  · intro h; rw [h]; rfl
  · intro h; rw [h]; rfl
  · intro h; rw [h]; rfl
  · exact congrArg (Option.map _) hc
  · exact congrArg (Option.map _) hc
  case staged =>
    have hb : b.toNat ≤ 11 := Nat.lt_succ_iff.1 (Vector.getElem?_eq_some_iff.1 hslot).1
    exact (if_pos hb).trans (by simp [hslot])
  · exact if_pos hb
  · exact congrArg (Option.map _) hk
  · exact congrArg (Option.map _) hk
  case none =>
    have hnat (n : Byte) : selector = n ↔ selector.toNat = n.toNat := BitVec.toNat_inj.symm
    have hzero : index ≠ 0 ↔ index.toNat ≠ 0 := BitVec.toNat_inj.symm.not
    have hout := h
    rw [hnat, hnat, hnat, hnat, hnat, hzero] at hout
    exact ⟨exec_readStaged_of_none hs tag (recordPayload_eq_none _ _ _ _ _ hout),
      exec_readWorking_of_none hs tag (recordPayload_eq_none _ _ _ _ _ hout)⟩

/-! ### Direct commands -/

theorem carrierFlagMessage_of_flag (act : Carrier → Bool → State → State) {b : Byte} {c : Carrier}
    (hc : Carrier.ofNat? b.toNat = some c) (v : Bool) (s : State) :
    carrierFlagMessage act [b, flagByte v] s = accept (act c v s) := by
  simp [carrierFlagMessage, hc]

theorem carrierFlagMessage_out_of_range (act : Carrier → Bool → State → State) {b v : Byte}
    (h : 4 ≤ b.toNat ∨ 2 ≤ v.toNat) (s : State) : carrierFlagMessage act [b, v] s = refuse .badValue s := by
  cases hc : Carrier.ofNat? b.toNat with
  | none => simp [carrierFlagMessage, hc]
  | some c =>
    have hb : ¬ 4 ≤ b.toNat := fun hb => by simp [(Carrier.ofNat?_eq_none_iff _).2 hb] at hc
    have hv : isFlag v = false := (isFlag_eq_false_iff v).2 (h.resolve_left hb)
    simp [carrierFlagMessage, hc, hv]

theorem setCombineMessage_out_of_range {b v : Byte} (h : 4 ≤ b.toNat ∨ 4 ≤ v.toNat) (s : State) :
    setCombineMessage [b, v] s = refuse .badValue s := by
  cases hc : Carrier.ofNat? b.toNat with
  | none => simp [setCombineMessage, hc]
  | some c =>
    have hb : ¬ 4 ≤ b.toNat := fun hb => by simp [(Carrier.ofNat?_eq_none_iff _).2 hb] at hc
    simp [setCombineMessage, hc, (ofByte?_eq_none_iff v).2 (h.resolve_left hb)]

theorem refuseFarUp_of_far_up {x : LaneCarrier} {seq : Seq} {target : Nat} {arrival : Option FrameNo} {restored : Bool}
    (h : x.entry = some (.far seq .up target arrival restored)) :
    refuseFarUp x = { x with entry := none, answer := { kind := .refused, seq := seq }, lastAnswered := seq } := by
  rw [refuseFarUp, h]; rfl

theorem refuseFarUp_of_no_far_up {x : LaneCarrier}
    (h : ∀ seq target arrival restored, x.entry ≠ some (.far seq .up target arrival restored)) : refuseFarUp x = x := by
  unfold refuseFarUp
  split
  · next hx => exact absurd hx (h _ _ _ _)
  · rfl

theorem setCombineMode_monitor (c : Carrier) (m : CombiningMode) (s : State) :
    (setCombineMode c m s).monitor = { s.monitor with
      grace := if m ≠ (s.params c).mode ∧ s.enabled c = true
        then s.monitor.grace.set c s.working.link.pauseGrace else s.monitor.grace } := by
  by_cases hm : m = (s.params c).mode <;> cases hc : s.enabled c <;>
    simp [setCombineMode, hm, hc, startGrace, Ne.symm]

/-- Settles O53: each command is its message's act, and a value out of range has no act. -/
theorem directCommandsActAtOnce : Obligations.DirectCommandsActAtOnce := by
  intro tag s b hs
  refine ⟨fun c hc => ⟨fun v => ?pause, fun m => ?combine, ?release, ?hold⟩,
    fun v => ⟨fun h => ⟨?_, ?_⟩, fun h => ?_⟩⟩
  case pause => exact exec_of_accept (m := .setPause) (by decide) hs tag (carrierFlagMessage_of_flag setHostPause hc v s)
  case combine =>
    refine ⟨setCombineMode c m s, exec_of_accept (m := .setCombine) (by decide) hs tag ?_, ?_, ?_, ?_,
      setCombineMode_monitor c m s⟩
    · simp [messageAct, setCombineMessage, hc]
    all_goals
      unfold setCombineMode
      dsimp only
      split <;> rfl
  case release =>
    exact exec_of_accept (m := .setTxHold) (by decide) hs tag (carrierFlagMessage_of_flag setTxHoldFlag hc false s)
  case hold =>
    refine ⟨_, exec_of_accept (m := .setTxHold) (by decide) hs tag (carrierFlagMessage_of_flag setTxHoldFlag hc true s),
      fun seq target arrival restored h => ?_, fun h => ?_⟩
    · exact refuseFarUp_of_far_up h
    · exact refuseFarUp_of_no_far_up h
  · exact exec_of_refuse (m := .setPause) (by decide) hs tag (carrierFlagMessage_out_of_range _ h s)
  · exact exec_of_refuse (m := .setTxHold) (by decide) hs tag (carrierFlagMessage_out_of_range _ h s)
  · exact exec_of_refuse (m := .setCombine) (by decide) hs tag (setCombineMessage_out_of_range h s)

end Sys2Proof.Machine
end

section
/-! RESUME (R175) and the resets (R187). -/
namespace Sys2Proof.Machine

/-! ### Resume -/

theorem abortDemand_iff (s : State) : abortDemand s = true ↔
    (s.working.link.abortOnLocal = true ∧ s.fault.faultLevel = true) ∨
    (s.working.link.abortOnFar = true ∧ ∃ c, s.enabled c = true ∧ s.fault.farFault.get c = true) := by
  simp only [abortDemand, localStands, farStands, Bool.or_eq_true, Bool.and_eq_true, List.any_eq_true,
    Carrier.mem_all, true_and, and_assoc, exists_and_left]

/-- The state of a resume but for the power control. -/
def resumeUnsettled (s : State) : State :=
  let s1 := (s.setFault { s.fault with state := .running }).report
    [{ kind := .aborted, index := 0, edge := some .leave }]
  onEnabledRau s1 fun c x => reloadHold (rxEnv s1 c) x

theorem linkResume_eq (s : State) : linkResume s = settleHolds s (resumeUnsettled s) := rfl

theorem linkResume_rau_get (s : State) (c : Carrier) : ((linkResume s).rau.get c) =
    if s.enabled c then { s.rau.get c with hold := s.working.link.holdFrames * (s.rau.get c).m } else s.rau.get c := by
  exact Four.get_ofFn ..

/-- The holds that stand after a resume (R143). -/
theorem powerHeld_resumeUnsettled (s : State) (c : Carrier) : powerHeld (resumeUnsettled s) c = true ↔
    ¬ (s.enabled c = true ∧ (s.params c).atpcEnable = true ∧ (s.sig.get c).lost = false ∧ s.port.link = .running) := by
  have hlink : s.port.link = .frameLost ↔ s.port.link ≠ .running := by cases s.port.link <;> decide
  have e : powerHeld (resumeUnsettled s) c =
    (!s.enabled c || !(s.params c).atpcEnable || (s.sig.get c).lost || decide (s.port.link = .frameLost)) := by
    simp [powerHeld, resumeUnsettled, State.enabled, State.params] <;> rfl
  rw [e]
  simp only [Bool.or_eq_true, decide_eq_true_eq, hlink]
  cases s.enabled c <;> cases (s.params c).atpcEnable <;> cases (s.sig.get c).lost <;> simp

theorem linkResume_pcu_get {s : State} (hs : s.fault.state = .aborted) (c : Carrier) : (linkResume s).pcu.get c =
    if s.enabled c = true ∧ (s.params c).atpcEnable = true ∧ (s.sig.get c).lost = false ∧ s.port.link = .running
    then { s.pcu.get c with period := (s.params c).period } else s.pcu.get c := by
  have hheld : powerHeld s c = true := by simp [powerHeld, hs]
  have e : (linkResume s).pcu.get c =
      settleHold (s.params c) (powerHeld s c) (powerHeld (resumeUnsettled s) c) (s.pcu.get c) := Four.get_ofFn ..
  rw [e, hheld]
  split
  · next h =>
    rw [Bool.eq_false_iff.2 ((powerHeld_resumeUnsettled s c).not.2 (not_not.2 h))]
    rfl
  · next h =>
    rw [(powerHeld_resumeUnsettled s c).2 h]
    rfl

/-- Settles O55: RESUME's guard, the demand in its sources, and the one act of `linkResume`. -/
theorem resumeReleasesTheLink : Obligations.ResumeReleasesTheLink := by
  intro tag s hs
  refine ⟨fun h => ?_, abortDemand_iff s, fun hst hdem => ⟨linkResume s, ?_, rfl, ?_, linkResume_rau_get s,
    linkResume_pcu_get hst⟩⟩
  · have hrefuse : (decide (s.fault.state = .running) || abortDemand s) = true := by simpa using h
    exact exec_of_refuse (m := .resume) (by decide) hs tag (if_pos hrefuse)
  · have hno : (decide (s.fault.state = .running) || abortDemand s) = false := by simp [hst, hdem]
    exact exec_of_accept (m := .resume) (by decide) hs tag (if_neg (Bool.eq_false_iff.1 hno))
  · exact latchedAfter_of_mem _ _ _ { kind := .aborted, index := 0, edge := some .leave } (by simp)

/-! ### Resets -/

theorem takeReplySent_idle {s : State} (h : s.hml.transmitter = .idle) : takeReplySent s = s := by
  simp [takeReplySent, h]

theorem takeReplySent_sending {s : State} {r : Reply} {resets : Bool} (h : s.hml.transmitter = .sending r resets) :
    takeReplySent s = if resets then resetBlocks (s.setHml { s.hml with transmitter := .idle })
      else s.setHml { s.hml with transmitter := .idle } := by
  simp [takeReplySent, h]

/-- Settles O60: RESET's reply, the end of a reply, power-on, and the reset values read off `State.reset`. -/
theorem resetsActAsOneAct : Obligations.ResetsActAsOneAct := by
  refine ⟨fun tag s hs => ?_, fun s h => congrArg _ (takeReplySent_idle h), fun s r h => ?_, fun s r h => ?_,
    fun straps fault s => ⟨powerOn straps fault s, rfl, rfl, rfl, rfl, rfl, rfl⟩,
    rfl, rfl, rfl, rfl, rfl, rfl, rfl, rfl, fun c => ?_⟩
  · have e := exec_messageCommand .reset tag [] s
    rw [takeMessage_of_answering .reset tag [] s hs] at e
    exact e
  · exact congrArg _ (takeReplySent_sending h)
  · exact ⟨resetBlocks (s.setHml { s.hml with transmitter := .idle }), congrArg _ (takeReplySent_sending h),
      rfl, rfl, rfl, rfl, rfl, rfl, rfl⟩
  · cases c <;> exact ⟨rfl, rfl, rfl, rfl, rfl, rfl, rfl, rfl, rfl, rfl, rfl, rfl, rfl, rfl, rfl⟩

end Sys2Proof.Machine
end

section
/-! The host line (R177 to R179): the one reply of every taken frame, the receiver's steps, and a frame taken byte by
byte. -/
namespace Sys2Proof.Machine

/-! ### HML_ERROR -/

theorem latchedAfter_hmlError (cause : HmlCause) (s : State) :
    LatchedAfter s.events (hmlError cause s).events .hmlError cause.index none :=
  latchedAfter_of_mem _ _ _ (occurrence .hmlError cause.index) (by simp)

theorem latchedAfter_rejectFrame (cause : HmlCause) (s : State) :
    LatchedAfter s.events (rejectFrame cause s).events .hmlError cause.index none :=
  latchedAfter_hmlError cause (setReceiver .idle s)

theorem rejectFrame_eq (cause : HmlCause) (s : State) : rejectFrame cause s =
    { s with hml := { s.hml with receiver := .idle }, events := (rejectFrame cause s).events } := rfl

/-! ### What a message answers -/

/-- A message's act either refuses, with nothing changed, or answers with status OK and leaves the host link alone. -/
def Answers (s : State) (r : State × List Byte) : Prop :=
  (∃ status, r = refuse status s) ∨ (r.1.hml = s.hml ∧ ∃ rest, r.2 = 0 :: rest)

theorem answers_refuse (status : Status) (s : State) : Answers s (refuse status s) := .inl ⟨status, rfl⟩

theorem answers_accept {s t : State} (h : t.hml = s.hml) : Answers s (accept t) := .inr ⟨h, [], rfl⟩

theorem answers_ok {s t : State} (h : t.hml = s.hml) (rest : List Byte) : Answers s (t, 0 :: rest) := .inr ⟨h, rest, rfl⟩

section
variable (payload : List Byte) (s : State)

theorem answers_readOnly (rest : List Byte) : Answers s (readOnly payload (0 :: rest) s) := by
  unfold readOnly
  split
  · exact answers_ok rfl rest
  · exact answers_refuse _ s

theorem answers_readRecord (record : Nat → Nat → Option (List Byte)) : Answers s (readRecord record payload s) := by
  unfold readRecord
  split
  · split
    · exact answers_ok rfl _
    · exact answers_refuse _ s
  · exact answers_refuse _ s

theorem answers_readCarrier : Answers s (readCarrierMessage payload s) := by
  unfold readCarrierMessage
  split
  · split
    · exact answers_ok (s := s) (t := s.setFreeCount (s.freeCount + 1)) rfl _
    · exact answers_refuse _ s
  · exact answers_refuse _ s

theorem answers_readEvents : Answers s (readEventsMessage payload s) := by
  unfold readEventsMessage
  split
  · exact answers_ok (s := s) (t := s.setFreeCount (s.freeCount + 1)) rfl _
  · exact answers_refuse _ s

theorem mapPayload1_ok (s : State) : ∃ rest, mapPayload1 s = 0 :: rest := by
  unfold mapPayload1
  split
  · exact ⟨_, rfl⟩
  · exact ⟨_, rfl⟩

theorem answers_readMap : Answers s (readMapMessage payload s) := by
  unfold readMapMessage
  split
  · split
    · exact answers_ok rfl _
    · split
      · obtain ⟨rest, e⟩ := mapPayload1_ok s
        rw [e]
        exact answers_ok rfl rest
      · exact answers_refuse _ s
  · exact answers_refuse _ s

theorem answers_stageLink : Answers s (stageLinkMessage payload s) := by
  unfold stageLinkMessage
  split
  · exact answers_refuse _ s
  · split
    · exact answers_accept rfl
    · exact answers_refuse _ s

theorem answers_stageCarrier : Answers s (stageCarrierMessage payload s) := by
  unfold stageCarrierMessage
  split
  · exact answers_refuse _ s
  · split
    · split
      · exact answers_refuse _ s
      · exact answers_accept rfl
    · exact answers_refuse _ s

theorem answers_stageProfile : Answers s (stageProfileMessage payload s) := by
  unfold stageProfileMessage
  split
  · exact answers_refuse _ s
  · split
    · split
      · exact answers_refuse _ s
      · exact answers_accept rfl
    · exact answers_refuse _ s

theorem answers_stageTableLength : Answers s (stageTableLengthMessage payload s) := by
  unfold stageTableLengthMessage
  split
  · split
    · exact answers_refuse _ s
    · split
      · exact answers_refuse _ s
      · exact answers_accept rfl
  · exact answers_refuse _ s

theorem answers_stageClass : Answers s (stageClassMessage payload s) := by
  unfold stageClassMessage
  split
  · exact answers_refuse _ s
  · split
    · exact answers_accept rfl
    · exact answers_refuse _ s

theorem answers_apply : Answers s (applyMessage payload s) := by
  unfold applyMessage
  split
  · split
    · exact answers_refuse _ s
    · split
      · exact answers_refuse _ s
      · split
        · exact answers_refuse _ s
        · exact answers_accept rfl
  · exact answers_refuse _ s

theorem answers_carrierFlag {act : Carrier → Bool → State → State} (hact : ∀ c v, (act c v s).hml = s.hml) :
    Answers s (carrierFlagMessage act payload s) := by
  unfold carrierFlagMessage
  split
  · split
    · split
      · exact answers_accept (hact _ _)
      · exact answers_refuse _ s
    · exact answers_refuse _ s
  · exact answers_refuse _ s

theorem setCombineMode_hml (c : Carrier) (m : CombiningMode) : (setCombineMode c m s).hml = s.hml := by
  unfold setCombineMode
  dsimp only
  split <;> rfl

theorem answers_setCombine : Answers s (setCombineMessage payload s) := by
  unfold setCombineMessage
  split
  · split
    · exact answers_accept (setCombineMode_hml s _ _)
    · exact answers_refuse _ s
  · exact answers_refuse _ s

theorem answers_abort : Answers s (abortMessage payload s) := by
  unfold abortMessage
  split
  · exact answers_accept (by split <;> simp)
  · exact answers_refuse _ s

theorem answers_resume : Answers s (resumeMessage payload s) := by
  unfold resumeMessage
  split
  · split
    · exact answers_refuse _ s
    · exact answers_accept (by simp)
  · exact answers_refuse _ s

theorem answers_clearEvents : Answers s (clearEventsMessage payload s) := by
  unfold clearEventsMessage
  split
  · exact answers_refuse _ s
  · split
    · exact answers_refuse _ s
    · exact answers_accept rfl
    · exact answers_accept rfl

theorem answers_setEventMode : Answers s (setEventModeMessage payload s) := by
  unfold setEventModeMessage
  split
  · split
    · exact answers_refuse _ s
    · split
      · exact answers_refuse _ s
      · split
        · split
          · exact answers_refuse _ s
          · exact answers_accept rfl
        · exact answers_accept rfl
  · exact answers_refuse _ s

theorem answers_reset : Answers s (resetMessage payload s) := by
  unfold resetMessage
  split
  · exact answers_accept rfl
  · exact answers_refuse _ s

/-- R179: every message is refused whole or answered OK. -/
theorem answers_messageAct (m : Message) : Answers s (messageAct m payload s) := by
  cases m with
  | identify => exact answers_readOnly payload s _
  | stageLink => exact answers_stageLink payload s
  | stageCarrier => exact answers_stageCarrier payload s
  | stageProfile => exact answers_stageProfile payload s
  | stageTableLength => exact answers_stageTableLength payload s
  | stageClass => exact answers_stageClass payload s
  | apply => exact answers_apply payload s
  | readStaged => exact answers_readRecord payload s _
  | readWorking => exact answers_readRecord payload s _
  | readCarrier => exact answers_readCarrier payload s
  | readBranches => exact answers_readOnly payload s _
  | readLane => exact answers_readOnly payload s _
  | readMap => exact answers_readMap payload s
  | setPause => exact answers_carrierFlag payload s fun _ _ => rfl
  | setCombine => exact answers_setCombine payload s
  | setTxHold => exact answers_carrierFlag payload s fun _ _ => rfl
  | abort => exact answers_abort payload s
  | resume => exact answers_resume payload s
  | readEvents => exact answers_readEvents payload s
  | clearEvents => exact answers_clearEvents payload s
  | setEventMode => exact answers_setEventMode payload s
  | reset => exact answers_reset payload s

/-- R179: a payload of another length is refused before anything else. -/
theorem messageAct_badLength {m : Message} (h : ¬ takesLength m payload.length) :
    messageAct m payload s = refuse .badLength s := by
  cases m with
  | identify | apply | readBranches | readLane | abort | resume | readEvents | reset =>
    cases payload with
    | nil => exact absurd rfl h
    | cons b rest => rfl
  | stageTableLength | readCarrier | readMap =>
    match payload, h with
    | [], _ => rfl
    | [_], h => exact absurd rfl h
    | _ :: _ :: _, _ => rfl
  | readStaged | readWorking | setPause | setCombine | setTxHold =>
    match payload, h with
    | [], _ => rfl
    | [_], _ => rfl
    | [_, _], h => exact absurd rfl h
    | _ :: _ :: _ :: _, _ => rfl
  | setEventMode =>
    match payload, h with
    | [], _ => rfl
    | [_], _ => rfl
    | [_, _], _ => rfl
    | [_, _, _], h => exact absurd rfl h
    | _ :: _ :: _ :: _ :: _, _ => rfl
  | stageLink | stageCarrier | stageProfile | stageClass => exact if_pos h
  | clearEvents =>
    refine if_pos ?_
    simp only [takesLength] at h
    simp only [Bool.or_eq_true, decide_eq_true_eq]
    omega

theorem messageAct_reset_ok_iff : (messageAct .reset payload s).2 = [0] ↔ payload = [] := by
  cases payload with
  | nil => exact iff_of_true rfl rfl
  | cons b rest => exact iff_of_false (by simp [messageAct, resetMessage, refuse, Status.code]) (by simp)

end

theorem resetsAfter_iff (m : Message) (payload : List Byte) (s : State) :
    resetsAfter m (messageAct m payload s).2 = true ↔ m = .reset ∧ payload = [] := by
  simp only [resetsAfter, Bool.and_eq_true, decide_eq_true_eq]
  refine and_congr_right fun hm => ?_
  subst hm
  exact messageAct_reset_ok_iff payload s

theorem takeMessage_low {s : State} (h : s.hml.lineLow = true) (m : Message) (tag : Byte) (payload : List Byte) :
    takeMessage m tag payload s = s := by
  simp [takeMessage, takeGoodFrame, h]

theorem takeMessage_sending {s : State} (h : s.hml.lineLow = false) (ht : s.hml.transmitter ≠ .idle) (m : Message)
    (tag : Byte) (payload : List Byte) : takeMessage m tag payload s = hmlError .overrun s := by
  unfold takeMessage
  rcases takeGoodFrame_cases m.kind tag (messageAct m payload) (resetsAfter m) s with ⟨hl, -⟩ | ⟨-, -, e⟩ | ⟨⟨-, hi⟩, -⟩
  · rw [h] at hl; cases hl
  · exact e
  · exact absurd hi ht

theorem exec_badKindMessage {s : State} (hs : Answering s) {kind : Byte} (hkind : ∀ m : Message, m.kind ≠ kind)
    (tag : Byte) (payload : List Byte) :
    exec (.badKindMessage kind tag payload) s = refusedWith .badKind kind tag s := by
  have e : takeFrame kind tag payload s = takeGoodFrame kind tag (refuse .badKind) (fun _ => false) s := by
    rw [takeFrame, ofKind?_none kind hkind]
  have e' : takeGoodFrame kind tag (refuse .badKind) (fun _ => false) s =
      sendReply kind tag [Status.badKind.code] false s := by
    simp [takeGoodFrame, hs.1, hs.2, refuse]
  exact congrArg Host.Outcome.next (e.trans e')

/-- Settles O57: the taking of a good frame, and `answers_messageAct` for what its reply can say. -/
theorem everyTakenFrameIsAnsweredOnce : Obligations.EveryTakenFrameIsAnsweredOnce := by
  intro m tag payload s
  refine ⟨fun hs hlen => ?_, fun hs => ?_, fun kind hkind hs => exec_badKindMessage hs hkind tag payload,
    fun hlow hbusy => ⟨hmlError .overrun s, ?_, rfl, latchedAfter_hmlError .overrun s⟩, fun hlow => ?_⟩
  · have hact := messageAct_badLength payload s hlen
    have hresets : resetsAfter m (refuse .badLength s).2 = false := by simp [resetsAfter, refuse, Status.code]
    rw [exec_messageCommand, takeMessage_of_answering m tag payload s hs, hact, hresets]
    rfl
  · have hans := answers_messageAct payload s m
    have hhml : (messageAct m payload s).1.hml = s.hml := by
      rcases hans with ⟨status, e⟩ | ⟨e, -⟩
      · rw [e]; rfl
      · exact e
    refine ⟨(messageAct m payload s).1, (messageAct m payload s).2, resetsAfter m (messageAct m payload s).2, ?_, hhml, ?_,
      resetsAfter_iff m payload s, fun status hhead hne => ?_⟩
    · rw [exec_messageCommand, takeMessage_of_answering m tag payload s hs, sendReply, hhml]
    · rcases hans with ⟨status, e⟩ | ⟨-, rest, e⟩
      · rw [e]; simp [refuse]
      · rw [e]; simp
    · rcases hans with ⟨code, e⟩ | ⟨-, rest, e⟩
      · rw [e] at hhead ⊢
        simp only [refuse, List.head?_cons, Option.some_inj] at hhead ⊢
        exact ⟨by rw [hhead], trivial⟩
      · rw [e] at hhead
        exact absurd (Option.some.inj hhead).symm hne
  · rw [exec_messageCommand, takeMessage_sending hlow hbusy]
  · rw [exec_messageCommand, takeMessage_low hlow]

/-! ### The receiver -/

section
variable {s : State} (hlow : s.hml.lineLow = false)
include hlow

theorem takeByte_idle (h : s.hml.receiver = .idle) (b : Byte) (stop : Bool) :
    takeByte b stop s = if stop && b = sync then setReceiver (.receiving []) s else s := by
  simp [takeByte, hlow, h]

theorem takeByte_receiving {bytes : List Byte} (h : s.hml.receiver = .receiving bytes) (b : Byte) (stop : Bool) :
    takeByte b stop s = if stop then storeByte bytes b s else rejectFrame .crc s := by
  simp [takeByte, hlow, h]

/-- The cause that a frame rejected whole latches. -/
theorem takeRejected_eq (reason : RejectReason) : takeRejected reason s =
    match reason, s.hml.transmitter with
    | .length, _ => rejectFrame .length s
    | .lowStop, _ => rejectFrame .crc s
    | .badCheck, .idle => rejectFrame .crc s
    | .badCheck, .sending _ _ => rejectFrame .overrun s
    | .duringReply, .sending _ _ => rejectFrame .overrun s
    | .duringReply, .idle => s := if_neg (by simp [hlow])
end

theorem storeByte_first (b : Byte) (s : State) : storeByte [] b s =
    if within 2 250 b.toNat then setReceiver (.receiving [b]) s else rejectFrame .length s := rfl

/-- A byte before the last is stored (R177). -/
theorem storeByte_middle {len : Byte} {bytes : List Byte} (h : bytes.length + 2 < len.toNat + 3) (b : Byte) (s : State) :
    storeByte (len :: bytes) b s = setReceiver (.receiving (len :: bytes ++ [b])) s := by
  have hne : (len :: bytes ++ [b]).length ≠ len.toNat + 3 := by simp; omega
  exact if_neg hne

theorem storeByte_last {len : Byte} {bytes : List Byte} (h : bytes.length + 2 = len.toNat + 3) (b : Byte) (s : State) :
    storeByte (len :: bytes) b s = completeFrame (len :: bytes ++ [b]) s := by
  have heq : (len :: bytes ++ [b]).length = len.toNat + 3 := by simp; omega
  exact if_pos heq

/-- Settles O59, by the receiver's two states and the rows of the line. -/
theorem receiverFollowsTheLine : Obligations.ReceiverFollowsTheLine := by
  intro s
  refine ⟨fun h => ?_, fun bytes h => ⟨rejectFrame .timeout s, ?_, rfl, latchedAfter_rejectFrame .timeout s⟩,
    ⟨takeLineClear s, rfl, rfl, latchedAfter_hmlError .clear _⟩, rfl, fun b stop h => ?_,
    fun hlow h b stop => ?_,
    fun bytes b hlow h => ⟨rejectFrame .crc s, congrArg _ (takeByte_receiving hlow h b false), rfl,
      latchedAfter_rejectFrame .crc s⟩,
    fun hlow h b => ⟨fun h2 h250 => ?_, fun hout => ⟨rejectFrame .length s, ?_, rfl, latchedAfter_rejectFrame .length s⟩⟩,
    fun len bytes b hlow h hlen => ?_, fun reason hlow => ⟨fun hr ht => ?_, fun hr => ?rejected⟩⟩
  · exact congrArg Host.Outcome.next (by simp [receiveTimeout, h])
  · exact congrArg Host.Outcome.next (by simp [receiveTimeout, h])
  · exact congrArg Host.Outcome.next (by simp [takeByte, h])
  · refine congrArg Host.Outcome.next ((takeByte_idle hlow h b stop).trans ?_)
    cases stop with
    | false => simp
    | true => simp only [Bool.true_and, decide_eq_true_eq, and_true]; rfl
  · refine congrArg Host.Outcome.next ((takeByte_receiving hlow h b true).trans ?_)
    exact if_pos ((within_iff 2 250 b.toNat).2 ⟨h2, h250⟩)
  · refine congrArg Host.Outcome.next ((takeByte_receiving hlow h b true).trans ?_)
    exact if_neg fun hin => by have := (within_iff 2 250 b.toNat).1 hin; omega
  · exact congrArg Host.Outcome.next ((takeByte_receiving hlow h b true).trans (storeByte_middle hlen b s))
  · refine congrArg Host.Outcome.next ((takeRejected_eq hlow reason).trans ?_)
    subst hr; rw [ht]
  case rejected =>
    have e := takeRejected_eq hlow reason
    refine ⟨takeRejected reason s, rfl, ?_⟩
    cases ht : s.hml.transmitter with
    | idle =>
      rw [ht] at e hr
      cases reason with
      | length => exact e ▸ ⟨rfl, latchedAfter_rejectFrame .length s⟩
      | lowStop => exact e ▸ ⟨rfl, latchedAfter_rejectFrame .crc s⟩
      | badCheck => exact e ▸ ⟨rfl, latchedAfter_rejectFrame .crc s⟩
      | duringReply => exact absurd hr (by simp)
    | sending r resets =>
      rw [ht] at e
      cases reason with
      | length => exact e ▸ ⟨rfl, latchedAfter_rejectFrame .length s⟩
      | lowStop => exact e ▸ ⟨rfl, latchedAfter_rejectFrame .crc s⟩
      | badCheck => exact e ▸ ⟨rfl, latchedAfter_rejectFrame .overrun s⟩
      | duringReply => exact e ▸ ⟨rfl, latchedAfter_rejectFrame .overrun s⟩

end Sys2Proof.Machine
end

section
/-! A frame taken byte by byte acts as its message (R177, R178): the receiver is followed from SYNC to the last check
byte. -/
namespace Sys2Proof.Machine

/-- Bytes taken from the line one after the other, on states. -/
def feed (bytes : List Byte) (s : State) : State := bytes.foldl (fun t b => takeByte b true t) s

theorem takeBytes_eq (bytes : List Byte) (s : State) : takeBytes bytes s = .next (feed bytes s) := by
  unfold takeBytes feed
  induction bytes generalizing s with
  | nil => rfl
  | cons b bytes ih => exact ih _

theorem feed_append (xs ys : List Byte) (s : State) : feed (xs ++ ys) s = feed ys (feed xs s) := List.foldl_append ..

theorem setReceiver_idle {s : State} (h : s.hml.receiver = .idle) : setReceiver .idle s = s := by
  obtain ⟨_, _, _, _, _, _, _, _, _, _, _, _, _, _, hml, _, _⟩ := s
  obtain ⟨receiver, _, _, _⟩ := hml
  have e : receiver = .idle := h
  rw [e]
  rfl

section
variable {s : State} (hlow : s.hml.lineLow = false)
include hlow

theorem feed_sync (h : s.hml.receiver = .idle) : feed [sync] s = setReceiver (.receiving []) s :=
  (takeByte_idle hlow h sync true).trans (by simp)

theorem feed_length {len : Byte} (h2 : 2 ≤ len.toNat) (h250 : len.toNat ≤ 250) :
    feed [len] (setReceiver (.receiving []) s) = setReceiver (.receiving [len]) s := by
  refine (takeByte_receiving (s := setReceiver (.receiving []) s) hlow rfl len true).trans ?_
  exact if_pos ((within_iff 2 250 len.toNat).2 ⟨h2, h250⟩)

/-- Bytes before the last are stored, one after the other. -/
theorem feed_middle {len : Byte} (more bytes : List Byte) (h : bytes.length + more.length + 1 < len.toNat + 3) :
    feed more (setReceiver (.receiving (len :: bytes)) s) = setReceiver (.receiving (len :: (bytes ++ more))) s := by
  induction more generalizing bytes with
  | nil => simp [feed]
  | cons b more ih =>
    simp only [List.length_cons] at h
    have first : takeByte b true (setReceiver (.receiving (len :: bytes)) s) =
        setReceiver (.receiving (len :: (bytes ++ [b]))) s :=
      (takeByte_receiving (s := setReceiver (.receiving (len :: bytes)) s) hlow rfl b true).trans
        (storeByte_middle (by omega) b _)
    have rest := ih (bytes ++ [b]) (by simp; omega)
    rw [List.append_assoc] at rest
    calc feed (b :: more) (setReceiver (.receiving (len :: bytes)) s)
      _ = feed more (takeByte b true (setReceiver (.receiving (len :: bytes)) s)) := rfl
      _ = _ := by rw [first, rest]; rfl

theorem feed_last {len : Byte} {bytes : List Byte} (h : bytes.length + 2 = len.toNat + 3) (b : Byte) :
    feed [b] (setReceiver (.receiving (len :: bytes)) s) =
      completeFrame (len :: bytes ++ [b]) (setReceiver (.receiving (len :: bytes)) s) :=
  (takeByte_receiving (s := setReceiver (.receiving (len :: bytes)) s) hlow rfl b true).trans (storeByte_last h b _)
end

/-- A frame of which the last byte has arrived, with an idle transmitter: its check sequence decides. -/
theorem completeFrame_body {t : State} (ht : t.hml.transmitter = .idle) (kind tag : Byte) {payload : List Byte}
    (hlen : payload.length ≤ 248) (high low : Byte) :
    completeFrame (frameBody kind tag payload ++ [high, low]) t =
      if [high, low] = frameBytes (crc16 (frameBody kind tag payload)) then
        takeFrame kind tag payload (setReceiver .idle t)
      else rejectFrame .crc t := by
  have hcount : (byteOf (payload.length + 2)).toNat - 2 = payload.length := by
    rw [toNat_byteOf (by omega)]; omega
  simp [frameBody, completeFrame, ht, hcount] <;> rfl

theorem frameBytes_append (high low : Byte) : frameBytes (high ++ low) = [high, low] := by
  have hhigh : (high ++ low : BitVec (8 + 8)).extractLsb' 8 8 = high := by
    rw [BitVec.extractLsb'_append_eq_of_le (le_refl 8)]; simp
  have hlow : (high ++ low : BitVec (8 + 8)).extractLsb' 0 8 = low := by
    rw [BitVec.extractLsb'_append_eq_of_add_le (le_refl 8)]; simp
  exact congrArg₂ (fun x y => [x, y]) hhigh hlow

/-- Two bytes are those of the sixteen bits that they spell. -/
theorem frameBytes_eq_iff (high low : Byte) (x : BitVec 16) : [high, low] = frameBytes x ↔ high ++ low = x := by
  constructor
  · simp only [frameBytes, List.cons.injEq, and_true]
    rintro ⟨rfl, rfl⟩
    exact BitVec.extractLsb'_append_extractLsb'_eq_extractLsb' (by rfl) |>.trans (by simp)
  · rintro rfl
    exact (frameBytes_append high low).symm

/-- All the bytes of a frame, taken by an IDLE receiver with an idle transmitter. -/
theorem feed_frame {s : State} (hs : Answering s) (hidle : s.hml.receiver = .idle) (kind tag : Byte)
    {payload : List Byte} (hlen : payload.length ≤ 248) (high low : Byte) :
    feed (sync :: frameBody kind tag payload ++ [high, low]) s =
      if high ++ low = crc16 (frameBody kind tag payload) then takeFrame kind tag payload s else hmlError .crc s := by
  have hcount : (byteOf (payload.length + 2)).toNat = payload.length + 2 := toNat_byteOf (by omega)
  have hsplit : sync :: frameBody kind tag payload ++ [high, low] =
      [sync] ++ ([byteOf (payload.length + 2)] ++ ((kind :: tag :: payload ++ [high]) ++ [low])) := by
    simp [frameBody]
  have hbytes : byteOf (payload.length + 2) :: (([] : List Byte) ++ (kind :: tag :: payload ++ [high])) ++ [low] =
      frameBody kind tag payload ++ [high, low] := by simp [frameBody]
  rw [hsplit, feed_append, feed_sync hs.1 hidle, feed_append, feed_length hs.1 (by omega) (by omega), feed_append,
    feed_middle hs.1 _ _ (by simp; omega), feed_last hs.1 (by simp; omega), hbytes]
  refine (completeFrame_body (t := setReceiver (.receiving _) s) hs.2 kind tag hlen high low).trans ?_
  simp only [frameBytes_eq_iff]
  have hback (bytes : List Byte) : setReceiver .idle (setReceiver (.receiving bytes) s) = s := setReceiver_idle hidle
  rw [rejectFrame, hback]

theorem takeFrame_crc {s : State} (hs : Answering s) (hidle : s.hml.receiver = .idle) (kind tag : Byte)
    {payload : List Byte} (hlen : payload.length ≤ 248) :
    takeBytes (lineFrame kind tag payload) s = .next (takeFrame kind tag payload s) := by
  rw [takeBytes_eq]
  exact congrArg Host.Outcome.next ((feed_frame hs hidle kind tag hlen _ _).trans
    (if_pos ((frameBytes_eq_iff _ _ _).1 rfl)))

/-- Settles O58: the frame's bytes in turn (`feed_frame`). -/
theorem byteByByteFramesActAsMessages : Obligations.ByteByByteFramesActAsMessages := by
  intro tag payload s hs hidle hlen
  refine ⟨fun m => ?_, fun kind _ => takeFrame_crc hs hidle kind tag hlen, fun kind high low hcrc =>
    ⟨hmlError .crc s, ?_, rfl, latchedAfter_hmlError .crc s⟩⟩
  · rw [takeFrame_crc hs hidle m.kind tag hlen, takeFrame_kind, exec_messageCommand]
  · rw [takeBytes_eq]
    exact congrArg Host.Outcome.next ((feed_frame hs hidle kind tag hlen high low).trans (if_neg hcrc))

end Sys2Proof.Machine
end

section
/-! The Event Latch Table's messages (R184 to R186). -/
namespace Sys2Proof.Machine

/-! ### READ_EVENTS -/

/-- The second byte of an entry: index, LEAVE edge and absence of the frame number (R185). -/
theorem eventFlags_eq (leave absent : Bool) (index : Nat) :
    flagBit absent ++ flagBit leave ++ 0#2 ++ BitVec.ofNat 4 index =
      byteOf (index % 16 + (if leave = true then 64 else 0) + if absent = true then 128 else 0) := by
  have hindex : BitVec.ofNat 4 index = BitVec.ofNat 4 (index % 16) := BitVec.eq_of_toNat_eq (by simp)
  rw [hindex]
  have hlt : index % 16 < 16 := Nat.mod_lt _ (by decide)
  generalize index % 16 = i at hlt
  revert i
  cases leave <;> cases absent <;> decide

theorem eventBytes_eq (free : Nat → Byte) (i : Nat) (x : EventEntry) : eventBytes free i x =
    [byteOf x.kind.code.val,
     byteOf (x.index % 16 + (if x.edge = some .leave then 64 else 0) + if x.frame.isNone then 128 else 0)] ++
    frameBytes (x.frame.getD (free (4 * i + 4) ++ free (4 * i + 5))) := by
  have hflags := eventFlags_eq (decide (x.edge = some .leave)) x.frame.isNone x.index
  simp only [decide_eq_true_eq] at hflags
  rw [eventBytes, hflags]
  cases x.frame with
  | none => rw [Option.getD_none, frameBytes_append]
  | some f => rfl

/-! ### CLEAR_EVENTS -/

/-- A pair of bytes names a (kind, index) of the table (R185). -/
def PairNames (pair : Byte × Byte) (kind : EventKind) (i : Nat) : Prop :=
  EventKind.ofNat? pair.1.toNat = some kind ∧ i = pair.2.toNat ∧ i < kind.indices

theorem length_flatMap_pairs (pairs : List (Byte × Byte)) :
    (pairs.flatMap fun pair => [pair.1, pair.2]).length = 2 * pairs.length := by
  induction pairs with
  | nil => rfl
  | cons pair pairs ih => simp only [List.flatMap_cons, List.length_append, List.length_cons, List.length_nil, ih]; omega

/-- A list of pairs that all name something is read as what they name. -/
theorem readPairs_of_named {pairs : List (Byte × Byte)} (h : ∀ pair ∈ pairs, ∃ kind i, PairNames pair kind i) :
    ∃ names, readPairs (pairs.flatMap fun pair => [pair.1, pair.2]) = some names ∧ names.length = pairs.length ∧
      ∀ kind i, (kind, i) ∈ names ↔ ∃ pair ∈ pairs, PairNames pair kind i := by
  induction pairs with
  | nil => exact ⟨[], rfl, rfl, by simp⟩
  | cons pair pairs ih =>
    obtain ⟨names, hread, hlen, hmem⟩ := ih fun q hq => h q (List.mem_cons_of_mem _ hq)
    obtain ⟨kind, i, hkind, rfl, hi⟩ := h pair (List.mem_cons_self ..)
    refine ⟨(kind, pair.2.toNat) :: names, ?_, by simp [hlen], fun k j => ?_⟩
    · simp only [List.flatMap_cons, List.cons_append, List.nil_append, readPairs, hkind, hread, hi, if_true]
    · have hpair : (k, j) = (kind, pair.2.toNat) ↔ PairNames pair k j := by
        constructor
        · rintro ⟨rfl, rfl⟩; exact ⟨hkind, rfl, hi⟩
        · rintro ⟨hk, rfl, -⟩
          rw [hkind] at hk
          rw [Option.some.inj hk]
      simp only [List.mem_cons, hpair, hmem, exists_eq_or_imp]

theorem readPairs_of_unnamed {pairs : List (Byte × Byte)} (h : ∃ pair ∈ pairs, ∀ kind i, ¬ PairNames pair kind i) :
    readPairs (pairs.flatMap fun pair => [pair.1, pair.2]) = none := by
  induction pairs with
  | nil => simp at h
  | cons pair pairs ih =>
    simp only [List.flatMap_cons, List.cons_append, List.nil_append, readPairs]
    cases hkind : EventKind.ofNat? pair.1.toNat with
    | none => rfl
    | some kind =>
      cases hread : readPairs (pairs.flatMap fun pair => [pair.1, pair.2]) with
      | none => rfl
      | some names =>
        refine if_neg fun hi => ?_
        obtain ⟨q, hq, hno⟩ := h
        rcases List.mem_cons.1 hq with rfl | hq
        · exact hno kind _ ⟨hkind, rfl, hi⟩
        · rw [ih ⟨q, hq, hno⟩] at hread; cases hread

section
variable {pairs : List (Byte × Byte)} (hne : pairs ≠ []) (hlen : pairs.length ≤ 58) (s : State)
include hlen

theorem clearEventsMessage_of_none (h : readPairs (pairs.flatMap fun pair => [pair.1, pair.2]) = none) :
    clearEventsMessage (pairs.flatMap fun pair => [pair.1, pair.2]) s = refuse .badValue s := by
  have hcount := length_flatMap_pairs pairs
  unfold clearEventsMessage
  rw [if_neg (by simp; omega), h]

include hne

/-- CLEAR_EVENTS with a list of good pairs removes what they name, and nothing else. -/
theorem clearEventsMessage_of_named (h : ∀ pair ∈ pairs, ∃ kind i, PairNames pair kind i) :
    ∃ t, clearEventsMessage (pairs.flatMap fun pair => [pair.1, pair.2]) s = accept (s.setEvents t) ∧
      t.modes = s.events.modes ∧
      ∀ x, x ∈ t.entries ↔ x ∈ s.events.entries ∧ ∀ pair ∈ pairs, ¬ PairNames pair x.kind x.index := by
  have hcount := length_flatMap_pairs pairs
  obtain ⟨names, hread, hnames, hmem⟩ := readPairs_of_named h
  obtain ⟨name, rest, rfl⟩ : ∃ name rest, names = name :: rest := by
    cases names with
    | nil => exact absurd (List.length_eq_zero_iff.1 hnames.symm) hne
    | cons name rest => exact ⟨name, rest, rfl⟩
  refine ⟨{ s.events with entries := s.events.entries.filter fun x => !(name :: rest).contains (x.kind, x.index) },
    ?_, rfl, fun x => ?_⟩
  · unfold clearEventsMessage
    rw [if_neg (by simp; omega), hread]
  · simp only [List.mem_filter, Bool.not_eq_true', List.contains_eq_mem, decide_eq_false_iff_not, hmem, not_exists, not_and]
end

/-! ### SET_EVENT_MODE -/

theorem setKindMode_mode (k j : EventKind) (mode : KindMode) (t : EventTable) :
    (setKindMode k mode t).mode j = if j = k then mode else t.mode j := EventTable.mode_set ..

theorem setKindMode_entries (k : EventKind) (mode : KindMode) (t : EventTable) (x : EventEntry) :
    x ∈ (setKindMode k mode t).entries ↔ x ∈ t.entries ∧ (mode.on = false → x.kind ≠ k) := by
  unfold setKindMode
  cases mode.on <;> simp

/-- The edge mode that SET_EVENT_MODE writes: an occurrence kind keeps its own (R185). -/
def writtenEdge (t : EventTable) (kind : EventKind) (edge : Byte) : EdgeMode :=
  if kind.isCondition then (if edge = 0 then .enter else if edge = 1 then .leave else .both) else (t.mode kind).edge

theorem ofByte?_of_le {edge : Byte} (h : edge.toNat ≤ 2) :
    EdgeMode.ofByte? edge = some (if edge = 0 then .enter else if edge = 1 then .leave else .both) := by
  have htwo : ¬ edge = 0 → ¬ edge = 1 → edge = 2 := fun h0 h1 => by bv_omega
  unfold EdgeMode.ofByte?
  by_cases h0 : edge = 0
  · rw [if_pos h0, if_pos h0]
  · by_cases h1 : edge = 1
    · rw [if_neg h0, if_pos h1, if_neg h0, if_pos h1]
    · rw [if_neg h0, if_neg h1, if_pos (htwo h0 h1), if_neg h0, if_neg h1]

theorem ofByte?_of_gt {edge : Byte} (h : 2 < edge.toNat) : EdgeMode.ofByte? edge = none := by
  have h0 : ¬ edge = 0 := by bv_omega
  have h1 : ¬ edge = 1 := by bv_omega
  have h2 : ¬ edge = 2 := by bv_omega
  rw [EdgeMode.ofByte?, if_neg h0, if_neg h1, if_neg h2]

theorem setEventModeMessage_of_good {k edge : Byte} {kind : EventKind} (hk : EventKind.ofNat? k.toNat = some kind)
    (hedge : kind.isCondition = true → edge.toNat ≤ 2) (on : Bool) (s : State) :
    setEventModeMessage [k, flagByte on, edge] s =
      accept (s.setEvents (setKindMode kind { on := on, edge := writtenEdge s.events kind edge } s.events)) := by
  cases hcond : kind.isCondition with
  | false => simp [setEventModeMessage, hk, hcond, writtenEdge]
  | true => simp [setEventModeMessage, hk, hcond, writtenEdge, ofByte?_of_le (hedge hcond)]

theorem setEventModeMessage_of_bad {k on edge : Byte} (s : State)
    (h : 15 < k.toNat ∨ 2 ≤ on.toNat ∨
      (2 < edge.toNat ∧ ∃ kind, EventKind.ofNat? k.toNat = some kind ∧ kind.isCondition = true)) :
    setEventModeMessage [k, on, edge] s = refuse .badValue s := by
  cases hk : EventKind.ofNat? k.toNat with
  | none => simp [setEventModeMessage, hk]
  | some kind =>
    rcases h with h | h | ⟨h, kind', hk', hcond⟩
    · rw [(EventKind.ofNat?_eq_none_iff _).2 h] at hk; cases hk
    · simp [setEventModeMessage, hk, (isFlag_eq_false_iff on).2 h]
    · rw [hk] at hk'
      obtain rfl := Option.some.inj hk'
      cases hon : isFlag on <;> simp [setEventModeMessage, hk, hon, hcond, ofByte?_of_gt h]

/-! ### One report, and ALERT -/

theorem latch_of_dropped {frame : Option FrameNo} {t : EventTable} {r : Report}
    (h : (t.mode r.kind).on = false ∨ (t.mode r.kind).edge.selects r.edge = false ∨ t.latched r.kind r.index = true) :
    latch frame t r = t := by
  rcases latch_cases frame t r with ⟨e, -⟩ | ⟨hon, hsel, hnew, -⟩
  · exact e
  · simp [hon, hsel, hnew] at h

theorem latch_of_taken {frame : Option FrameNo} {t : EventTable} {r : Report} (hon : (t.mode r.kind).on = true)
    (hsel : (t.mode r.kind).edge.selects r.edge = true) (hnew : t.latched r.kind r.index = false) :
    latch frame t r = { t with
      entries := insertEntry { kind := r.kind, index := r.index, edge := r.edge, frame := frame } t.entries } := by
  rcases latch_cases frame t r with ⟨-, h⟩ | ⟨-, -, -, e⟩
  · simp [hon, hsel, hnew] at h
  · exact e

theorem State.alert_iff (s : State) : s.alert = true ↔ s.events.entries ≠ [] := by simp [State.alert]

/-- CLEAR_EVENTS with one pair out of range is refused. -/
theorem pairNames_of_out_of_range {k i : Byte}
    (h : 15 < k.toNat ∨ ∀ kind, EventKind.ofNat? k.toNat = some kind → kind.indices ≤ i.toNat) (kind : EventKind)
    (j : Nat) : ¬ PairNames (k, i) kind j := by
  rintro ⟨hk, rfl, hi⟩
  rcases h with h | h
  · rw [(EventKind.ofNat?_eq_none_iff _).2 h] at hk; cases hk
  · exact absurd hi (not_lt.2 (h kind hk))

/-- Settles O56, message by message. -/
theorem eventMessagesActOnTheTable : Obligations.EventMessagesActOnTheTable := by
  refine ⟨fun tag s hs => ⟨?read, ?_, fun k i kind hk hi => ?one, fun pairs hne hlen => ⟨fun h => ?_, fun h => ?_⟩,
    fun k i h => ?bad, fun k edge on kind hk hedge => ?mode, fun k on edge h => ?_⟩,
    fun frame t r => ⟨latch_of_dropped, fun hon hsel hnew => ?latch⟩, State.alert_iff⟩
  case read =>
    refine ⟨fun i => Config.freeReplyByte s.freeCount (4 * i + 4) ++ Config.freeReplyByte s.freeCount (4 * i + 5),
      exec_of_act (m := .readEvents) (by decide) hs tag ?_⟩
    simp only [messageAct, readEventsMessage, eventsPayload, eventBytes_eq]
    rfl
  · exact exec_of_accept (m := .clearEvents) (by decide) hs tag rfl
  case one =>
    obtain ⟨t, hact, hmodes, hmem⟩ := clearEventsMessage_of_named (pairs := [(k, i)]) (by simp) (by simp) s
      (by simpa using ⟨kind, i.toNat, hk, rfl, hi⟩)
    refine ⟨t, exec_of_accept (m := .clearEvents) (by decide) hs tag hact, hmodes, fun x => (hmem x).trans ?_⟩
    have hnames : PairNames (k, i) x.kind x.index ↔ x.kind = kind ∧ x.index = i.toNat := by
      constructor
      · rintro ⟨hx, hxi, -⟩
        exact ⟨Option.some.inj (hx.symm.trans hk), hxi⟩
      · rintro ⟨hx, hxi⟩
        exact ⟨hx ▸ hk, hxi, by rw [hxi, hx]; exact hi⟩
    simp only [List.mem_singleton, forall_eq, hnames]
  · obtain ⟨t, hact, hmodes, hmem⟩ := clearEventsMessage_of_named hne hlen s h
    exact ⟨t, exec_of_accept (m := .clearEvents) (by decide) hs tag hact, hmodes, hmem⟩
  · exact exec_of_refuse (m := .clearEvents) (by decide) hs tag
      (clearEventsMessage_of_none hlen s (readPairs_of_unnamed h))
  case bad =>
    exact exec_of_refuse (m := .clearEvents) (by decide) hs tag (clearEventsMessage_of_none (pairs := [(k, i)]) (by simp) s
      (readPairs_of_unnamed ⟨(k, i), by simp, pairNames_of_out_of_range h⟩))
  case mode =>
    refine ⟨_, exec_of_accept (m := .setEventMode) (by decide) hs tag (setEventModeMessage_of_good hk hedge on s),
      ?_, fun h => ?_, fun h => ?_, fun other h => ?_, fun h => ?_, fun h x => ?_⟩
    · rw [setKindMode_mode, if_pos rfl]
    · rw [setKindMode_mode, if_pos rfl, writtenEdge, if_pos h]
    · rw [setKindMode_mode, if_pos rfl, writtenEdge, if_neg (by simp [h])]
    · rw [setKindMode_mode, if_neg h]
    · exact if_pos h
    · rw [setKindMode_entries]
      exact and_congr_right fun _ => ⟨fun hx => hx h, fun hx _ => hx⟩
  · exact exec_of_refuse (m := .setEventMode) (by decide) hs tag (setEventModeMessage_of_bad s h)
  case latch =>
    rw [latch_of_taken hon hsel hnew]
    refine ⟨rfl, length_insertEntry _ _, fun x => ?_⟩
    rw [mem_insertEntry, or_comm]

end Sys2Proof.Machine
end

section
/-! The estimator's history over a list of reports (R27 to R32). -/
namespace Sys2Proof.Machine

/-- The last eight of a list, oldest first. -/
def lastEight (l : List Int) : List Int := l.drop (l.length - 8)

theorem pushHistory_lastEight (l : List Int) (e : Int) : pushHistory (lastEight l) e = lastEight (l ++ [e]) := by
  have hlen : (lastEight l).length = l.length - (l.length - 8) := List.length_drop
  unfold pushHistory
  split
  · next h =>
    rw [lastEight, lastEight, List.tail_drop, List.length_append, List.length_singleton,
      List.drop_append_of_le_length (by omega)]
    congr 2
    omega
  · next h =>
    have hshort : l.length < 8 := by omega
    have h0 : l.length - 8 = 0 := by omega
    have h1 : (l ++ [e]).length - 8 = 0 := by simp; omega
    rw [lastEight, lastEight, h0, h1, List.drop_zero, List.drop_zero]

theorem slopeOf_lastEight_short {l : List Int} (h : l.length < 8) (e : Int) : slopeOf (lastEight l) e = 0 := by
  have hlen : (lastEight l).length ≠ 8 := by rw [lastEight, List.length_drop]; omega
  unfold slopeOf
  split
  · next hcons => exact if_neg (hcons ▸ hlen)
  · rfl

theorem slopeOf_lastEight_full {l : List Int} {oldest : Int} (h : 8 ≤ l.length) (e : Int)
    (hold : l[l.length - 8]? = some oldest) : slopeOf (lastEight l) e = (e - oldest).fdiv 8 := by
  have hlen : (lastEight l).length = 8 := by rw [lastEight, List.length_drop]; omega
  have hhead : (lastEight l).head? = some oldest := by rw [lastEight, List.head?_drop, hold]
  obtain ⟨rest, hcons⟩ : ∃ rest, lastEight l = oldest :: rest := List.head?_eq_some_iff.1 hhead
  rw [hcons] at hlen ⊢
  rw [Int.fdiv_eq_ediv_of_nonneg _ (by decide)]
  exact if_pos hlen

section
variable (link : LinkParams)

theorem estimateAfter_append (xs : List Int) (x : Int) :
    estimateAfter link (xs ++ [x]) = some (nextEstimate link (estimateAfter link xs) x) := by
  simp [estimateAfter]

/-- The estimates made from a list of samples, in order. -/
def estimatesOf (xs : List Int) : List Int :=
  (List.range xs.length).map fun i => ((estimateAfter link (xs.take (i + 1))).map (·.e)).getD 0

@[simp] theorem length_estimatesOf (xs : List Int) : (estimatesOf link xs).length = xs.length := by simp [estimatesOf]

theorem estimatesOf_append (xs : List Int) (x : Int) :
    estimatesOf link (xs ++ [x]) = estimatesOf link xs ++ [(nextEstimate link (estimateAfter link xs) x).e] := by
  have hlast : (xs ++ [x]).take (xs.length + 1) = xs ++ [x] := List.take_of_length_le (by simp)
  have hfirst : ∀ i ∈ List.range xs.length, (xs ++ [x]).take (i + 1) = xs.take (i + 1) := fun i hi =>
    List.take_append_of_le_length (List.mem_range.1 hi)
  rw [estimatesOf, List.length_append, List.length_singleton, List.range_succ, List.map_append, List.map_singleton, hlast,
    estimateAfter_append]
  exact congrArg (· ++ _) (List.map_congr_left fun i hi => by rw [hfirst i hi])

/-- A sample's estimate is that of the record after it. -/
theorem estimatesOf_getElem? (xs : List Int) {i : Nat} (h : i < xs.length) :
    ∃ z, estimateAfter link (xs.take (i + 1)) = some z ∧ (estimatesOf link xs)[i]? = some z.e := by
  have htake : xs.take (i + 1) = xs.take i ++ [xs[i]] := (List.take_append_getElem h).symm
  refine ⟨_, by rw [htake, estimateAfter_append], ?_⟩
  rw [estimatesOf, List.getElem?_map, List.getElem?_range h, Option.map_some, htake, estimateAfter_append]
  rfl

/-- The history of a record, empty when it is unseeded. -/
def historyOf (before : Option Estimate) : List Int := (before.map (·.history)).getD []

theorem nextEstimate_history (before : Option Estimate) (x : Int) :
    (nextEstimate link before x).history = pushHistory (historyOf before) (nextEstimate link before x).e := by
  cases before <;> rfl

theorem nextEstimate_slope (before : Option Estimate) (x : Int) :
    (nextEstimate link before x).r = slopeOf (historyOf before) (nextEstimate link before x).e := by
  cases before <;> rfl

/-- R31: the history holds the last eight estimates. -/
theorem historyOf_estimateAfter (xs : List Int) : historyOf (estimateAfter link xs) = lastEight (estimatesOf link xs) := by
  induction xs using List.reverseRecOn with
  | nil => rfl
  | append_singleton xs x ih =>
    rw [estimateAfter_append, estimatesOf_append, ← pushHistory_lastEight, ← ih]
    exact nextEstimate_history ..

theorem estimatesOf_first (xs : List Int) : (estimatesOf link xs)[0]? = xs[0]? := by
  cases xs with
  | nil => rfl
  | cons x xs =>
    obtain ⟨z, hz, e⟩ := estimatesOf_getElem? link (x :: xs) (Nat.zero_lt_succ _)
    rw [e, ← Option.some.inj hz]
    rfl

/-- R28, R29: an estimate after the first is filtered from the one before it. -/
theorem estimatesOf_succ {xs : List Int} {i : Nat} {e sample : Int} (he : (estimatesOf link xs)[i]? = some e)
    (hsample : xs[i + 1]? = some sample) :
    (estimatesOf link xs)[i + 1]? = some (filterEstimate link.filterShift link.fastDrop e sample) := by
  obtain ⟨hlt, rfl⟩ := List.getElem?_eq_some_iff.1 hsample
  obtain ⟨z, hz, hze⟩ := estimatesOf_getElem? link xs (Nat.lt_of_succ_lt hlt)
  obtain ⟨w, hw, hwe⟩ := estimatesOf_getElem? link xs hlt
  rw [(List.take_append_getElem hlt).symm, estimateAfter_append, hz] at hw
  rw [hwe, ← Option.some.inj hw]
  rw [he] at hze
  rw [Option.some.inj hze]
  rfl
end

/-- Settles O21: the record after a list of samples in the terms of `estimatesOf`. -/
theorem historyHoldsTheLastEightEstimates : Obligations.HistoryHoldsTheLastEightEstimates := by
  intro link samples last
  have hes := estimatesOf_append link samples last
  have hhist := historyOf_estimateAfter link samples
  refine ⟨nextEstimate link (estimateAfter link samples) last, estimatesOf link (samples ++ [last]),
    estimateAfter_append link samples last, by simp, fun i hi => estimatesOf_getElem? link _ (by simpa using hi),
    estimatesOf_first link _, fun i e sample => estimatesOf_succ link, rfl, ?_, fun h => ?_, fun h => ?_⟩
  · rw [nextEstimate_history, hhist, pushHistory_lastEight, ← hes]
    rfl
  · rw [nextEstimate_slope, hhist]
    exact slopeOf_lastEight_short (by simp at h ⊢; omega) _
  · have hlen : 8 ≤ (estimatesOf link samples).length := by simp at h ⊢; omega
    have hlt : (estimatesOf link samples).length - 8 < (estimatesOf link samples).length := by omega
    refine ⟨(estimatesOf link samples)[(estimatesOf link samples).length - 8], ?_, ?_⟩
    · have hidx : (estimatesOf link (samples ++ [last])).length - 9 = (estimatesOf link samples).length - 8 := by simp
      rw [hidx, hes, List.getElem?_append_left hlt, List.getElem?_eq_getElem hlt]
    · rw [nextEstimate_slope, hhist]
      exact slopeOf_lastEight_full hlen _ (List.getElem?_eq_getElem hlt)

/-! ### Downgrades (R77) -/

theorem belowDown_iff (table : List ProfileRecord) (p : Nat) (pr : Int) : belowDown table p pr = true ↔
    ∃ r d, table[p]? = some r ∧ r.down = some d ∧ pr < 16 * (d : Int) := by
  unfold belowDown downOf
  cases table[p]? with
  | none => simp
  | some r => cases hd : r.down <;> simp [hd]

theorem reachesDown_iff (table : List ProfileRecord) (p : Nat) (pr : Int) : reachesDown table p pr = true ↔
    ∃ r d, table[p]? = some r ∧ r.down = some d ∧ 16 * (d : Int) ≤ pr := by
  unfold reachesDown downOf
  cases table[p]? with
  | none => simp
  | some r => cases hd : r.down <;> simp [hd]

theorem downgradeKind_of (env : RxEnv) (a target : Nat) (h : Handover) : downgradeKind env a target h =
    if h.blind = true ∨ env.link.errLimit ≤ h.errors ∨ target + 2 ≤ a then .urgent else .down := by
  simp [downgradeKind, or_assoc]

/-- Neither the threshold nor the errors ask for a downgrade: the ceiling alone decides. -/
theorem downgradeTarget_of_ceiling {env : RxEnv} {a : Nat} {h : Handover} (hb : h.blind = false)
    (hno : a = 0 ∨ (belowDown env.table a h.pr = false ∧ h.errors < env.link.errLimit)) :
    downgradeTarget env a h = if env.ceiling < a then some env.ceiling else none := by
  rcases hno with rfl | ⟨hbelow, herr⟩
  · simp [downgradeTarget]
  · unfold downgradeTarget
    rw [hb, hbelow, decide_eq_false (not_le.2 herr)]
    by_cases hc : env.ceiling < a <;> simp [hc]

/-- Settles O27: R77's conditions in their order. -/
theorem downgradeNamesTheHighestHeldProfile : Obligations.DowngradeNamesTheHighestHeldProfile := by
  intro env a h
  refine ⟨fun hb ha => ?_, fun hb ha hbelow => ?_, fun hb ha hbelow herr => ?_, fun hb hno hc => ?_, fun hb hno hc => ?_,
    downgradeTarget_lt env a h, fun target => downgradeKind_of env a target h,
    fun p => ⟨belowDown_iff env.table p h.pr, reachesDown_iff env.table p h.pr⟩⟩
  · simp [downgradeTarget, hb, ha]
  · refine ⟨highestHeld env.table h.pr a, ?_, highestHeld_spec env.table h.pr a ha⟩
    simp [downgradeTarget, hb, ha, hbelow]
  · simp [downgradeTarget, hb, ha, hbelow, herr]
  · rw [downgradeTarget_of_ceiling hb hno, if_pos hc]
  · rw [downgradeTarget_of_ceiling hb hno, if_neg (not_lt.2 hc)]

/-! ### The hold count toward an upgrade (R79, R82) -/

/-- A context in which qualifying reports count toward an upgrade. -/
structure CountsUp (env : RxEnv) (u : Nat) (x : RxContext) : Prop where
  unpaused : isPaused env x = false
  settled : x.request.kind = .none
  unarmed : x.armed = none
  below : x.active < env.ceiling
  forgotten : x.refused = none
  threshold : upOf env.table (x.active + 1) = some u

/-- A report that asks for no downgrade and reaches the threshold of the profile above. -/
def Qualifies (env : RxEnv) (u active : Nat) (h : Handover) : Prop :=
  downgradeTarget env active h = none ∧ 16 * (u : Int) ≤ h.pr

/-- The context that an UP request leaves (R82). -/
def upAsked (x : RxContext) : RxContext :=
  { x with hold := 0, timer := some 0,
           request := { seq := nextSeq x.request.seq x.consumed, kind := .up, target := some (x.active + 1) } }

section
variable {env : RxEnv} {u : Nat} {x : RxContext} (hx : CountsUp env u x)
include hx

theorem CountsUp.lower (n : Nat) : CountsUp env u { x with hold := n } :=
  ⟨hx.unpaused, hx.settled, hx.unarmed, hx.below, hx.forgotten, hx.threshold⟩

theorem decide76_qualifying {h : Handover} (hh : Qualifies env u x.active h) : decide76 env h x =
    ({ x with hold := x.hold - 1 }, if x.hold - 1 = 0 then some (.up, x.active + 1) else none) := by
  obtain ⟨hdown, hup⟩ := hh
  have hreach : reachesUp env.table (x.active + 1) h.pr = true := by simp [reachesUp, hx.threshold, hup]
  simp only [decide76, hdown, hx.unarmed, upgradeTest, hx.unpaused, not_le.2 hx.below, hx.settled, hreach]
  rfl

theorem passMemory_forgotten (n : Nat) (d : Option (ReqKind × Nat)) : passMemory env { x with hold := n } d = d := by
  cases d with
  | none => rfl
  | some d => simp [passMemory, suppressed, hx.forgotten]

theorem evaluateReport_counts {h : Handover} (hh : Qualifies env u x.active h) (hhold : 1 < x.hold) :
    evaluateReport env h x = { x with hold := x.hold - 1 } := by
  have hne : ¬ x.hold - 1 = 0 := by omega
  simp only [evaluateReport, decide76_qualifying hx hh, passMemory_forgotten hx, hne, if_false]
  simp [applyDecision, hx.settled]

theorem evaluateReport_asks {h : Handover} (hh : Qualifies env u x.active h) (hhold : x.hold = 1) :
    evaluateReport env h x = upAsked x := by
  simp only [evaluateReport, decide76_qualifying hx hh, passMemory_forgotten hx, hhold]
  simp [applyDecision, hx.settled, upAsked]

theorem foldl_counts {reports : List Handover} (hh : ∀ h ∈ reports, Qualifies env u x.active h)
    (hlen : reports.length < x.hold) :
    reports.foldl (fun y h => evaluateReport env h y) x = { x with hold := x.hold - reports.length } := by
  induction reports generalizing x with
  | nil => rfl
  | cons h reports ih =>
    simp only [List.length_cons] at hlen
    rw [List.foldl_cons, evaluateReport_counts hx (hh h (List.mem_cons_self ..)) (by omega)]
    refine (ih (hx.lower (x.hold - 1)) (fun q hq => hh q (List.mem_cons_of_mem _ hq)) (by dsimp only; omega)).trans ?_
    simp only [List.length_cons]
    congr 1
    omega

theorem foldl_asks {reports : List Handover} (hh : ∀ h ∈ reports, Qualifies env u x.active h) (hpos : 1 ≤ x.hold)
    (hlen : reports.length = x.hold) : reports.foldl (fun y h => evaluateReport env h y) x = upAsked x := by
  induction reports using List.reverseRecOn with
  | nil => rw [← hlen] at hpos; simp at hpos
  | append_singleton reports h _ =>
    simp only [List.length_append, List.length_singleton] at hlen
    have hcount := foldl_counts hx (fun q hq => hh q (List.mem_append_left _ hq)) (by omega)
    rw [List.foldl_append, hcount]
    exact evaluateReport_asks (hx.lower _) (hh h (by simp)) (by dsimp only; omega)
end

/-- Settles O28, by the reports before the last and the last. -/
theorem upgradeWaitsOutTheHoldCount : Obligations.UpgradeWaitsOutTheHoldCount := by
  intro env x u reports hhost hscan hkind harmed hbelow hrefused hup hreports
  have hx : CountsUp env u x := ⟨by simp [isPaused, hhost, hscan], hkind, harmed, hbelow, hrefused, hup⟩
  exact ⟨fun hlen => foldl_counts hx hreports hlen, fun hpos hlen => foldl_asks hx hreports hpos hlen⟩

end Sys2Proof.Machine
end

section
/-! The adaptation field: its parts in its bytes (R99, R100), its checks (R101), and the composed field (R103 to
R107). -/
namespace Sys2Proof.Machine

/-! ### Parts of a byte -/

section
variable {n m : Nat}

theorem extractLsb'_high (x : BitVec n) (y : BitVec m) : (x ++ y).extractLsb' m n = x := by
  rw [BitVec.extractLsb'_append_eq_of_le (le_refl m)]; simp

theorem extractLsb'_low (x : BitVec n) (y : BitVec m) : (x ++ y).extractLsb' 0 m = y := by
  rw [BitVec.extractLsb'_append_eq_of_add_le (by omega)]; simp

theorem extractLsb'_past (start len : Nat) (x : BitVec n) (y : BitVec m) :
    (x ++ y).extractLsb' (start + m) len = x.extractLsb' start len := by
  rw [BitVec.extractLsb'_append_eq_of_le (by omega)]; simp

/-- The middle one of three parts. -/
theorem extractLsb'_middle {k : Nat} (x : BitVec n) (y : BitVec m) (z : BitVec k) :
    (x ++ y ++ z).extractLsb' (0 + k) m = y := (extractLsb'_past 0 m (x ++ y) z).trans (extractLsb'_low x y)

/-- The first one of three parts. -/
theorem extractLsb'_first {k : Nat} (x : BitVec n) (y : BitVec m) (z : BitVec k) :
    (x ++ y ++ z).extractLsb' (m + k) n = x := (extractLsb'_past m n (x ++ y) z).trans (extractLsb'_high x y)

theorem append_extractLsb' (x : BitVec (n + m)) : x.extractLsb' m n ++ x.extractLsb' 0 m = x :=
  (BitVec.extractLsb'_append_extractLsb'_eq_extractLsb' (by omega)).trans (by simp)

theorem getLsbD_zero_append_flag (x : BitVec n) (v : Bool) : (x ++ flagBit v).getLsbD 0 = v := by
  rw [BitVec.getLsbD_append]; simp [flagBit]

theorem flagBit_getLsbD (x : BitVec n) (i : Nat) : flagBit (x.getLsbD i) = x.extractLsb' i 1 := by
  ext j hj
  obtain rfl : j = 0 := by omega
  simp [flagBit]

theorem ofNat_toNat_self (x : BitVec n) : BitVec.ofNat n x.toNat = x := by simp

theorem toNat_ofNat_of_lt {p : Nat} (h : p < 2 ^ n) : (BitVec.ofNat n p).toNat = p := by
  rw [BitVec.toNat_ofNat, Nat.mod_eq_of_lt h]
end

/-- Three parts of a byte put together again. -/
theorem append_three {high middle low : Nat} (x : BitVec (high + middle + low)) :
    x.extractLsb' (middle + low) high ++ x.extractLsb' low middle ++ x.extractLsb' 0 low = x := by
  have h1 : x.extractLsb' (middle + low) high ++ x.extractLsb' low middle = x.extractLsb' low (high + middle) :=
    BitVec.extractLsb'_append_extractLsb'_eq_extractLsb' (by omega)
  have h2 : x.extractLsb' low (high + middle) ++ x.extractLsb' 0 low = x.extractLsb' 0 (high + middle + low) :=
    BitVec.extractLsb'_append_extractLsb'_eq_extractLsb' (by omega)
  rw [h1, h2]
  simp

/-! ### The check sequence -/

theorem crc8Shift_eq_zero (r : BitVec 8) : crc8Shift r = 0 ↔ r = 0 := by revert r; decide

theorem iterate_crc8Shift_eq_zero (n : Nat) (r : BitVec 8) : crc8Shift^[n] r = 0 ↔ r = 0 := by
  induction n generalizing r with
  | zero => rfl
  | succ n ih => rw [Function.iterate_succ_apply, ih, crc8Shift_eq_zero]

/-- R100: the check over a message and its check sequence gives 0, and over no other byte in its place. -/
theorem crc8_append_eq_zero (bytes : List Byte) (b : Byte) : crc8 (bytes ++ [b]) = 0 ↔ crc8 bytes = b := by
  rw [crc8, List.foldl_append]
  exact (iterate_crc8Shift_eq_zero 8 _).trans BitVec.xor_eq_zero_iff

/-! ### Codes -/

@[simp] theorem ReqKind.ofCode_code (k : ReqKind) : ReqKind.ofCode k.code = k := by cases k <;> decide

theorem ReqKind.code_ofCode (x : BitVec 2) : (ReqKind.ofCode x).code = x := by revert x; decide

theorem ReqKind.ofCode_eq_none_iff (x : BitVec 2) : ReqKind.ofCode x = .none ↔ x.toNat = 0 := by revert x; decide

@[simp] theorem AnsKind.ofCode?_code (k : AnsKind) : AnsKind.ofCode? k.code = some k := by cases k <;> decide

theorem AnsKind.code_of_ofCode? {x : BitVec 3} {k : AnsKind} (h : AnsKind.ofCode? x = some k) : k.code = x := by
  revert x k; decide

theorem AnsKind.ofCode?_isSome_iff (x : BitVec 3) : (AnsKind.ofCode? x).isSome = true ↔ x.toNat ≤ 4 := by
  revert x; decide

/-! ### R101 -/

/-- Settles O31: each part is read as a quotient and a remainder of its byte. -/
theorem fieldValidityIsTheSevenChecks : Obligations.FieldValidityIsTheSevenChecks := by
  intro T f
  have h0 := f.b0.isLt
  have h1 := f.b1.isLt
  have h2 := f.b2.isLt
  have h3 := f.b3.isLt
  have toNat_part (b : Byte) (i len : Nat) : (b.extractLsb' i len).toNat = b.toNat / 2 ^ i % 2 ^ len := by
    rw [BitVec.extractLsb'_toNat, Nat.shiftRight_eq_div_pow]
  simp only [fieldValid, fieldParts, Bool.and_eq_true, Bool.or_eq_true, decide_eq_true_eq,
    ReqKind.ofCode_eq_none_iff, AnsKind.ofCode?_isSome_iff, toNat_part, and_assoc]
  refine and_congr_right fun _ => ?_
  omega

/-! ### R100 and the layout -/

/-- Parts within the widths of their places in the bytes. -/
def FitsWidths (p : FieldParts) : Prop :=
  p.ver < 16 ∧ p.active < 16 ∧ p.next < 16 ∧ p.count < 8 ∧ p.reqTarget < 16 ∧ p.margin < 64

theorem fieldParts_writeField {p : FieldParts} (h : FitsWidths p) (ans : AnsKind) :
    fieldParts (writeField p ans) = { p with ansKind := some ans } := by
  obtain ⟨hver, hactive, hnext, hcount, htarget, hmargin⟩ := h
  have ever : (fieldParts (writeField p ans)).ver = p.ver :=
    (congrArg BitVec.toNat (extractLsb'_high (n := 4) (m := 4) ..)).trans (toNat_ofNat_of_lt hver)
  have eactive : (fieldParts (writeField p ans)).active = p.active :=
    (congrArg BitVec.toNat (extractLsb'_low (n := 4) (m := 4) ..)).trans (toNat_ofNat_of_lt hactive)
  have enext : (fieldParts (writeField p ans)).next = p.next :=
    (congrArg BitVec.toNat (extractLsb'_first (n := 4) (m := 3) (k := 1) ..)).trans (toNat_ofNat_of_lt hnext)
  have ecount : (fieldParts (writeField p ans)).count = p.count :=
    (congrArg BitVec.toNat (extractLsb'_middle (n := 4) (m := 3) (k := 1) ..)).trans (toNat_ofNat_of_lt hcount)
  have efade : (fieldParts (writeField p ans)).fade = p.fade := getLsbD_zero_append_flag (n := 7) ..
  have ekind : (fieldParts (writeField p ans)).reqKind = p.reqKind :=
    (congrArg ReqKind.ofCode (extractLsb'_first (n := 2) (m := 3) (k := 3) ..)).trans (ReqKind.ofCode_code _)
  have eseq : (fieldParts (writeField p ans)).reqSeq = p.reqSeq := extractLsb'_middle (n := 2) (m := 3) (k := 3) ..
  have eans : (fieldParts (writeField p ans)).ansSeq = p.ansSeq := extractLsb'_low (n := 5) (m := 3) ..
  have etarget : (fieldParts (writeField p ans)).reqTarget = p.reqTarget :=
    (congrArg BitVec.toNat (extractLsb'_first (n := 4) (m := 3) (k := 1) ..)).trans (toNat_ofNat_of_lt htarget)
  have eansKind : (fieldParts (writeField p ans)).ansKind = some ans :=
    (congrArg AnsKind.ofCode? (extractLsb'_middle (n := 4) (m := 3) (k := 1) ..)).trans (AnsKind.ofCode?_code _)
  have efault : (fieldParts (writeField p ans)).equipFault = p.equipFault := getLsbD_zero_append_flag (n := 7) ..
  have emargin : (fieldParts (writeField p ans)).margin = p.margin :=
    (congrArg BitVec.toNat (extractLsb'_first (n := 6) (m := 1) (k := 1) ..)).trans (toNat_ofNat_of_lt hmargin)
  have eaborted : (fieldParts (writeField p ans)).aborted = p.aborted := by
    have e : ((BitVec.ofNat 6 p.margin ++ flagBit p.aborted ++ 0#1 : BitVec (6 + 1 + 1))).getLsbD 1 = p.aborted := by
      rw [BitVec.getLsbD_append]
      exact getLsbD_zero_append_flag (n := 6) ..
    exact e
  exact (FieldParts.mk.injEq ..).mpr ⟨ever, eactive, enext, ecount, efade, ekind, eseq, eans, etarget, eansKind, efault,
    emargin, eaborted⟩

theorem writeField_fieldParts {f : RawField} {ans : AnsKind} (hans : (fieldParts f).ansKind = some ans)
    (hunused : f.b4.getLsbD 0 = false) (hcrc : fieldCrc f = f.b5) : writeField (fieldParts f) ans = f := by
  obtain ⟨b0, b1, b2, b3, b4, b5⟩ := f
  have e0 : (BitVec.ofNat 4 (b0.extractLsb' 4 4).toNat ++ BitVec.ofNat 4 (b0.extractLsb' 0 4).toNat : Byte) = b0 := by
    rw [ofNat_toNat_self, ofNat_toNat_self]
    exact append_extractLsb' (n := 4) (m := 4) b0
  have e1 : (BitVec.ofNat 4 (b1.extractLsb' 4 4).toNat ++ BitVec.ofNat 3 (b1.extractLsb' 1 3).toNat ++
      flagBit (b1.getLsbD 0) : Byte) = b1 := by
    rw [ofNat_toNat_self, ofNat_toNat_self, flagBit_getLsbD]
    exact append_three (high := 4) (middle := 3) (low := 1) b1
  have e2 : ((ReqKind.ofCode (b2.extractLsb' 6 2)).code ++ b2.extractLsb' 3 3 ++ b2.extractLsb' 0 3 : Byte) = b2 := by
    rw [ReqKind.code_ofCode]
    exact append_three (high := 2) (middle := 3) (low := 3) b2
  have e3 : (BitVec.ofNat 4 (b3.extractLsb' 4 4).toNat ++ ans.code ++ flagBit (b3.getLsbD 0) : Byte) = b3 := by
    rw [ofNat_toNat_self, AnsKind.code_of_ofCode? hans, flagBit_getLsbD]
    exact append_three (high := 4) (middle := 3) (low := 1) b3
  have e4 : (BitVec.ofNat 6 (b4.extractLsb' 2 6).toNat ++ flagBit (b4.getLsbD 1) ++ 0#1 : Byte) = b4 := by
    have hzero : (0#1 : BitVec 1) = flagBit (b4.getLsbD 0) := by
      have : b4.getLsbD 0 = false := hunused
      rw [this]; rfl
    rw [ofNat_toNat_self, hzero, flagBit_getLsbD, flagBit_getLsbD]
    exact append_three (high := 6) (middle := 1) (low := 1) b4
  simp only [writeField, fieldParts, e0, e1, e2, e3, e4]
  exact congrArg (RawField.mk b0 b1 b2 b3 b4) hcrc

/-- Settles O32: the parts are the bits of their bytes. -/
theorem fieldPartsAndBytesAgree : Obligations.FieldPartsAndBytesAgree :=
  ⟨fun _ ans hver hactive hnext hcount htarget hmargin =>
      ⟨fieldParts_writeField ⟨hver, hactive, hnext, hcount, htarget, hmargin⟩ ans, rfl,
        getLsbD_zero_append_flag (n := 7) _ false⟩,
    fun _ _ hans hunused hcrc => writeField_fieldParts hans hunused hcrc,
    fun f => (crc8_append_eq_zero [f.b0, f.b1, f.b2, f.b3, f.b4] f.b5).symm⟩

/-! ### Composition -/

section
variable {s : State} {c : Carrier} (hconf : ConfigSound s) (hrx : ReceiveSound s) (hlane : LaneSound s)
  (hest : EstimatesInRange s) (hc : s.enabled c = true)

/-- The announcement's part of a composed field. -/
theorem composeParts_announced (s : State) (c : Carrier) :
    (s.lane.memberOf c = none → (composeParts s c).next = 15 ∧ (composeParts s c).count = 0) ∧
    (∀ a m, s.lane.announcement = some a → s.lane.memberOf c = some m →
      (composeParts s c).next = m.toP ∧ (composeParts s c).count = a.count) := by
  unfold composeParts Lane.memberOf Announcement.member?
  cases s.lane.announcement with
  | none => exact ⟨fun _ => ⟨rfl, rfl⟩, nofun⟩
  | some a =>
    dsimp only
    cases a.members.find? (·.carrier = c) with
    | none => exact ⟨fun _ => ⟨rfl, rfl⟩, nofun⟩
    | some m =>
      refine ⟨nofun, fun a' m' ha hm => ?_⟩
      rw [← Option.some.inj ha, ← Option.some.inj hm]
      exact ⟨rfl, rfl⟩

include hconf hc in
theorem two_le_length_of_enabled : 2 ≤ s.working.length ∧ s.working.length ≤ 12 := by
  obtain ⟨-, ⟨-, -, -, hlen, -⟩, -, hlimits, -⟩ := hconf
  exact ⟨(hlimits c hc).1, hlen⟩

include hconf hlane hc in
theorem active_lt_length_of_enabled : s.txActive c < s.working.length := by
  have hlen := (two_le_length_of_enabled hconf hc).1
  rcases (hlane.1 c).1 with h | h
  · exact h
  · exact lt_of_eq_of_lt h (by omega)

include hlane in
/-- The announcement that a field shows lies below the table length, with its count. -/
theorem composeParts_next_sound : ((composeParts s c).next = 15 ∧ (composeParts s c).count = 0) ∨
    ((composeParts s c).next < s.working.length ∧ 1 ≤ (composeParts s c).count ∧ (composeParts s c).count ≤ 7) := by
  obtain ⟨hnone, hsome⟩ := composeParts_announced s c
  cases hm : s.lane.memberOf c with
  | none => exact .inl (hnone hm)
  | some m =>
    have hm' := hm
    unfold Lane.memberOf at hm'
    cases ha : s.lane.announcement with
    | none => rw [ha] at hm'; cases hm'
    | some a =>
      rw [ha] at hm'
      obtain ⟨⟨-, -, -, hmembers, -, hcount⟩, -⟩ := hlane.2 a ha
      obtain ⟨-, hlt, -⟩ := hmembers m (List.mem_of_find?_eq_some hm')
      obtain ⟨e1, e2⟩ := hsome a m ha hm
      rw [e1, e2]
      exact .inr ⟨hlt, hcount⟩

include hconf hrx hlane hest hc in
theorem fitsWidths_composeParts : FitsWidths (composeParts s c) := by
  have hlen := two_le_length_of_enabled hconf hc
  have hactive := active_lt_length_of_enabled hconf hlane hc
  have hnext := composeParts_next_sound hlane (c := c)
  refine ⟨(by decide : 1 < 16), ?_, by omega, by omega, ?_, ?_⟩
  · exact lt_of_lt_of_le hactive (by omega)
  · obtain ⟨-, htarget, -⟩ := hrx c
    have e : (composeParts s c).reqTarget = (s.rau.get c).request.target.getD 15 := rfl
    rw [e]
    cases ht : (s.rau.get c).request.target with
    | none => decide
    | some t => exact lt_of_lt_of_le (htarget t ht).2 (by omega)
  · have hrange := hest c
    have e : (composeParts s c).margin = (s.est.get c).margin := rfl
    rw [e]
    unfold EstimateInRange at hrange
    cases hx : (s.est.get c).est with
    | none => rw [hx] at hrange; omega
    | some v => rw [hx] at hrange; omega

include hconf hrx hlane hest hc in
/-- The far end reads what was composed (R104). -/
theorem fieldParts_composeField : fieldParts (composeField s c) = composeParts s c :=
  fieldParts_writeField (fitsWidths_composeParts hconf hrx hlane hest hc) _

include hrx in
theorem composeParts_request_sound :
    (composeParts s c).reqKind = .none ∨ (composeParts s c).reqTarget < s.working.length := by
  obtain ⟨⟨hkind, -⟩, htarget, -⟩ := hrx c
  have e : (composeParts s c).reqTarget = (s.rau.get c).request.target.getD 15 := rfl
  rw [e]
  cases ht : (s.rau.get c).request.target with
  | some t => exact .inr (htarget t ht).2
  | none =>
    left
    have e : (composeParts s c).reqKind = (s.rau.get c).request.kind := rfl
    rw [e]
    rw [ht] at hkind
    cases hk : (s.rau.get c).request.kind with
    | none => rfl
    | up => rw [hk] at hkind; exact hkind.elim
    | down => rw [hk] at hkind; exact hkind.elim
    | urgent => rw [hk] at hkind; exact hkind.elim

include hconf hrx hlane hest hc in
theorem fieldValid_composeField : fieldValid s.working.length (composeField s c) = true := by
  have hactive : (composeParts s c).active < s.working.length := active_lt_length_of_enabled hconf hlane hc
  have hnext := composeParts_next_sound hlane (c := c)
  have hreq := composeParts_request_sound hrx (c := c)
  have hcrc : fieldCrc (composeField s c) = (composeField s c).b5 := rfl
  have hver : (composeParts s c).ver = 1 := rfl
  have hans : (composeParts s c).ansKind.isSome = true := rfl
  simp only [fieldValid, fieldParts_composeField hconf hrx hlane hest hc, Bool.and_eq_true, Bool.or_eq_true,
    decide_eq_true_eq]
  refine ⟨⟨⟨⟨⟨hcrc, hver⟩, hactive⟩, ?_⟩, hreq⟩, hans⟩
  exact hnext.imp_right fun h => ⟨h.1, h.2.1⟩
end

/-- Settles O33: the composed field is read back as the parts composed, which the invariants keep within range. -/
theorem composedFieldIsValidAndTrue : Obligations.ComposedFieldIsValidAndTrue := by
  intro s c hconf hrx hlane hest hc
  refine ⟨fieldValid_composeField hconf hrx hlane hest hc, ?_⟩
  obtain ⟨hnone, hsome⟩ := composeParts_announced s c
  rw [fieldParts_composeField hconf hrx hlane hest hc]
  exact ⟨rfl, rfl, rfl, rfl, rfl, rfl, rfl, rfl, rfl, rfl, decide_eq_true_iff, hnone, hsome⟩

end Sys2Proof.Machine
end

section
/-! An accepted report (R12, R21, R26 to R35), and what the receive unit does with its hand-over (R75 to R82, R96). -/
namespace Sys2Proof.Machine

/-! ### The receive unit's decision, case by case -/

section
variable (env : RxEnv) (x : RxContext)

/-- R81: the memory suppresses a target that it holds, refused less than refuse_backoff frames ago. -/
def MemorySuppresses (target : Nat) : Prop :=
  ∃ r n, x.refused = some r ∧ env.frame = some n ∧ r.target = target ∧ frameAge n r.frame < env.link.refuseBackoff

theorem suppressed_iff (target : Nat) : suppressed env x target = true ↔ MemorySuppresses env x target := by
  unfold suppressed MemorySuppresses
  cases x.refused with
  | none => simp
  | some r => cases env.frame <;> simp

theorem suppressed_of_refused {x y : RxContext} (h : y.refused = x.refused) (target : Nat) :
    suppressed env y target = suppressed env x target := by
  unfold suppressed; rw [h]

theorem passMemory_some (k : ReqKind) (t : Nat) : passMemory env x (some (k, t)) =
    if suppressed env x t then none else some (k, t) := rfl

theorem applyDecision_some (k : ReqKind) (t : Nat) : applyDecision env (some (k, t)) x = asked k t x := by
  unfold applyDecision asked
  simp only [Bool.and_eq_true, decide_eq_true_eq]

theorem applyDecision_none_armed {armed : Armed} (h : x.armed = some armed) : applyDecision env none x = x := by
  simp [applyDecision, h]

theorem applyDecision_none_unarmed (h : x.armed = none) :
    applyDecision env none x = undecided env.link.holdFrames (isPaused env x) x := by
  have hpause : isPaused env (replaceByNone x) = isPaused env x := rfl
  by_cases hk : x.request.kind = .up
  · have hcancel : cancelRequest x = replaceByNone x := by simp [cancelRequest, isOpen, hk]
    have hcond : (decide (x.request.kind = .up) && x.armed.isNone) = true := by simp [hk, h]
    refine (if_pos hcond).trans ?_
    rw [undecided, if_pos hk, hcancel, reloadUnlessPaused, hpause]
    cases isPaused env x <;> rfl
  · simp [applyDecision, undecided, hk]

theorem reloadUnlessPaused_eq : reloadUnlessPaused env x =
    if isPaused env x then x else { x with hold := env.link.holdFrames * x.m } := rfl

/-- A decision for a request, past the memory. -/
theorem applyDecision_passMemory_some (k : ReqKind) (t : Nat) :
    (¬ MemorySuppresses env x t → applyDecision env (passMemory env x (some (k, t))) x = asked k t x) ∧
    (MemorySuppresses env x t → applyDecision env (passMemory env x (some (k, t))) x = applyDecision env none x) := by
  rw [passMemory_some]
  constructor
  · intro h
    rw [if_neg (by rw [suppressed_iff]; exact h), applyDecision_some]
  · intro h
    rw [if_pos ((suppressed_iff env x t).2 h)]
end

section
variable {env : RxEnv} {h : Handover} {x : RxContext}

/-- R78: a downgrade outside SWITCHING reloads the hold count unless paused. -/
theorem evaluateReport_downgrade {target : Nat} (hdown : downgradeTarget env x.active h = some target)
    (harmed : x.armed = none) :
    let z := if isPaused env x then x else { x with hold := env.link.holdFrames * x.m }
    (¬ MemorySuppresses env x target →
      evaluateReport env h x = asked (downgradeKind env x.active target h) target z) ∧
    (MemorySuppresses env x target → evaluateReport env h x = undecided env.link.holdFrames (isPaused env x) z) := by
  intro z
  have hz : reloadUnlessPaused env x = z := reloadUnlessPaused_eq env x
  have hrefused : z.refused = x.refused := by unfold z; split <;> rfl
  have hzarmed : z.armed = none := by unfold z; split <;> exact harmed
  have hzpaused : isPaused env z = isPaused env x := by unfold z; split <;> rfl
  have hsup : MemorySuppresses env z target ↔ MemorySuppresses env x target := by
    rw [← suppressed_iff, ← suppressed_iff, suppressed_of_refused env hrefused]
  have he : evaluateReport env h x =
      applyDecision env (passMemory env z (some (downgradeKind env x.active target h, target))) z := by
    simp only [evaluateReport, decide76, hdown, harmed, hz]
  obtain ⟨hask, hsuppressed⟩ := applyDecision_passMemory_some env z (downgradeKind env x.active target h) target
  refine ⟨fun hno => ?_, fun hyes => ?_⟩
  · rw [he, hask (hsup.not.2 hno)]
  · rw [he, hsuppressed (hsup.2 hyes), applyDecision_none_unarmed env z hzarmed, hzpaused]

/-- R80: in SWITCHING only a downgrade below the armed next profile stands. -/
theorem evaluateReport_switching {armed : Armed} (harmed : x.armed = some armed) :
    (∀ target, downgradeTarget env x.active h = some target → target < armed.next → ¬ MemorySuppresses env x target →
      evaluateReport env h x = asked (downgradeKind env x.active target h) target x) ∧
    (∀ target, downgradeTarget env x.active h = some target → armed.next ≤ target ∨ MemorySuppresses env x target →
      evaluateReport env h x = x) ∧
    (downgradeTarget env x.active h = none → evaluateReport env h x = x) := by
  refine ⟨fun target hdown hlt hno => ?_, fun target hdown hor => ?_, fun hdown => ?_⟩
  · simp only [evaluateReport, decide76, hdown, harmed, hlt, if_true]
    exact (applyDecision_passMemory_some env x _ target).1 hno
  · by_cases hlt : target < armed.next
    · have hyes := hor.resolve_left (not_le.2 hlt)
      simp only [evaluateReport, decide76, hdown, harmed, hlt, if_true]
      rw [(applyDecision_passMemory_some env x _ target).2 hyes, applyDecision_none_armed env x harmed]
    · simp only [evaluateReport, decide76, hdown, harmed, hlt, if_false]
      exact applyDecision_none_armed env x harmed
  · simp only [evaluateReport, decide76, hdown, harmed]
    exact applyDecision_none_armed env x harmed

/-- The context counts toward an upgrade (R79). -/
def CountsTowardUpgrade (env : RxEnv) (x : RxContext) : Prop :=
  isPaused env x = false ∧ x.active < env.ceiling ∧ x.request.kind ≠ .down ∧ x.request.kind ≠ .urgent

theorem upgradeTest_of_not_counting (hno : ¬ CountsTowardUpgrade env x) (pr : Int) :
    upgradeTest env pr x = (x, none) := by
  unfold upgradeTest
  by_cases hp : isPaused env x = true
  · rw [if_pos hp]
  · rw [if_neg hp]
    by_cases hc : env.ceiling ≤ x.active
    · rw [if_pos hc]
    · rw [if_neg hc]
      refine if_pos ?_
      have hk : ¬ (x.request.kind ≠ .down ∧ x.request.kind ≠ .urgent) := fun hk =>
        hno ⟨by simpa using hp, by omega, hk⟩
      simp only [Bool.or_eq_true, decide_eq_true_eq]
      tauto

theorem upgradeTest_of_counting (hyes : CountsTowardUpgrade env x) (pr : Int) :
    upgradeTest env pr x = if reachesUp env.table (x.active + 1) pr then
        ({ x with hold := x.hold - 1 }, if x.hold - 1 = 0 then some (.up, x.active + 1) else none)
      else (reloadHold env x, none) := by
  obtain ⟨hp, hc, hd, hu⟩ := hyes
  cases hr : reachesUp env.table (x.active + 1) pr <;> simp [upgradeTest, hp, not_le.2 hc, hd, hu, hr]

theorem reachesUp_of_record {table : List ProfileRecord} {p u : Nat} {r : ProfileRecord} (hr : table[p]? = some r)
    (hu : r.up = some u) (pr : Int) : reachesUp table p pr = decide (16 * (u : Int) ≤ pr) := by
  simp [reachesUp, upOf, hr, hu]

/-- R79: no downgrade and no armed switch. -/
theorem evaluateReport_upgradeTest (hdown : downgradeTarget env x.active h = none) (harmed : x.armed = none) :
    evaluateReport env h x =
      applyDecision env (passMemory env (upgradeTest env h.pr x).1 (upgradeTest env h.pr x).2) (upgradeTest env h.pr x).1 := by
  simp only [evaluateReport, decide76, hdown, harmed]

theorem evaluateReport_not_counting (hdown : downgradeTarget env x.active h = none) (harmed : x.armed = none)
    (hno : ¬ CountsTowardUpgrade env x) :
    evaluateReport env h x = undecided env.link.holdFrames (isPaused env x) x := by
  rw [evaluateReport_upgradeTest hdown harmed, upgradeTest_of_not_counting hno]
  exact applyDecision_none_unarmed env x harmed

/-- A report that counts toward an upgrade, below the threshold of the profile above and from it on. -/
theorem evaluateReport_counting (hdown : downgradeTarget env x.active h = none) (harmed : x.armed = none)
    (hyes : CountsTowardUpgrade env x) {r : ProfileRecord} {u : Nat} (hr : env.table[x.active + 1]? = some r)
    (hu : r.up = some u) :
    (h.pr < 16 * (u : Int) → evaluateReport env h x =
      undecided env.link.holdFrames (isPaused env x) { x with hold := env.link.holdFrames * x.m }) ∧
    (16 * (u : Int) ≤ h.pr →
      (2 ≤ x.hold → evaluateReport env h x =
        undecided env.link.holdFrames (isPaused env x) { x with hold := x.hold - 1 }) ∧
      (x.hold ≤ 1 → ¬ MemorySuppresses env x (x.active + 1) →
        evaluateReport env h x = asked .up (x.active + 1) { x with hold := 0 }) ∧
      (x.hold ≤ 1 → MemorySuppresses env x (x.active + 1) →
        evaluateReport env h x = undecided env.link.holdFrames (isPaused env x) { x with hold := 0 })) := by
  rw [evaluateReport_upgradeTest hdown harmed, upgradeTest_of_counting hyes, reachesUp_of_record hr hu]
  refine ⟨fun hlow => ?_, fun hreach => ?_⟩
  · rw [if_neg (by simpa using hlow)]
    exact applyDecision_none_unarmed env (reloadHold env x) harmed
  · rw [if_pos (by simpa using hreach)]
    refine ⟨fun hhold => ?_, fun hhold hno => ?_, fun hhold hsup => ?_⟩
    · rw [if_neg (by omega)]
      exact applyDecision_none_unarmed env { x with hold := x.hold - 1 } harmed
    all_goals
      have hzero : x.hold - 1 = 0 := by omega
      simp only [hzero, if_true]
    · exact (applyDecision_passMemory_some env { x with hold := 0 } _ _).1 hno
    · exact ((applyDecision_passMemory_some env { x with hold := 0 } _ _).2 hsup).trans
        (applyDecision_none_unarmed env { x with hold := 0 } harmed)
end

/-! ### The report stored and handed on -/

theorem conditionEdge_same (k : EventKind) (i : Nat) (b : Bool) : conditionEdge k i b b = [] := by cases b <;> rfl

/-- A condition that rises or falls is reported with its edge, and one that stands is not. -/
theorem latched_conditionEdge (frame : Option FrameNo) (t : EventTable) (k : EventKind) (i : Nat) (before after : Bool) :
    (before = false → after = true → LatchedAfter t (latchAll frame t (conditionEdge k i before after)) k i (some .enter)) ∧
    (before = true → after = false → LatchedAfter t (latchAll frame t (conditionEdge k i before after)) k i (some .leave)) ∧
    (before = after → (latchAll frame t (conditionEdge k i before after)).latched k i = t.latched k i) := by
  refine ⟨?_, ?_, ?_⟩
  · rintro rfl rfl
    exact latchedAfter_of_mem frame t _ { kind := k, index := i, edge := some .enter } (by simp [conditionEdge])
  · rintro rfl rfl
    exact latchedAfter_of_mem frame t _ { kind := k, index := i, edge := some .leave } (by simp [conditionEdge])
  · rintro rfl
    rw [conditionEdge_same]
    rfl

theorem takeCarrierReport_of_accepted {c : Carrier} {f : FrameNo} {s : State} (hrun : s.frameRunning = true)
    (hc : s.enabled c = true) (hfresh : isStale s.port (s.intake.get c).lastAccepted f = false)
    (a b : Option BranchPart) (errors : Nat) :
    takeCarrierReport c f a b errors s = takeReport c a b errors (storeReport c f a b s) := by
  simp [takeCarrierReport, hrun, hc, hfresh]

theorem takenPart_eq (p : BranchPart) : takenPart p =
    { p with level := if p.level < -120 then -120 else if -10 < p.level then -10 else p.level } := by
  have e : clampInt (-120) (-10) p.level = if p.level < -120 then -120 else if -10 < p.level then -10 else p.level := by
    unfold clampInt; split
    · omega
    · split <;> omega
  rw [takenPart, e]

/-- R27 to R31: the record after a report, by the record before it. -/
theorem nextEstimate_cases (link : LinkParams) (before : Option Estimate) (sample : Int) :
    let y := nextEstimate link before sample
    (before = none → y.e = sample ∧ y.r = 0 ∧ y.history = [sample]) ∧
    ∀ b, before = some b → y.e = filterEstimate link.filterShift link.fastDrop b.e sample ∧
      (b.history.length ≠ 8 → y.r = 0 ∧ y.history = b.history ++ [y.e]) ∧
      ∀ oldest rest, b.history = oldest :: rest → rest.length = 7 →
        y.r = (y.e - oldest).fdiv 8 ∧ y.history = rest ++ [y.e] := by
  dsimp only
  constructor
  · rintro rfl; exact ⟨rfl, rfl, rfl⟩
  · rintro b rfl
    refine ⟨rfl, fun hlen => ⟨?_, if_neg hlen⟩, fun oldest rest hcons hlen => ?_⟩
    · rw [nextEstimate_slope]
      unfold slopeOf
      split
      · exact if_neg hlen
      · rfl
    · rw [nextEstimate_slope, nextEstimate_history]
      have hb : historyOf (some b) = oldest :: rest := hcons
      have h8 : (oldest :: rest).length = 8 := by simp [hlen]
      rw [hb, Int.fdiv_eq_ediv_of_nonneg _ (by decide)]
      exact ⟨if_pos h8, if_pos h8⟩

/-- The sample of a combined value (R26). -/
def sampleOf (combined : Option Nat) : Int :=
  match combined with
  | some v => 16 * (v : Int)
  | none => 0

theorem estimateReport_eq (w : WorkingSet) (c : Carrier) (combined : Option Nat) (x : EstRecord) :
    estimateReport w c combined x =
      let y := nextEstimate w.link x.est (sampleOf combined)
      ({ est := some y, margin := marginOf (marginBase w.table (w.carriers.get c).rxCeiling) y.pr,
         fade := decide (y.pr < 16 * (w.link.fadeAlarmLevel : Int)) },
       conditionEdge .fadeAlarm c.toNat x.fade (decide (y.pr < 16 * (w.link.fadeAlarmLevel : Int)))) := by
  cases combined <;> rfl

section
variable (c : Carrier) (a b : Option BranchPart) (errors : Nat) (s : State)

theorem takeReport_rau : (takeReport c a b errors s).rau = s.rau.set c (takeHandover (rxEnv s c)
    { pr := (nextEstimate s.working.link (s.est.get c).est (sampleOf (combinedOf c a b s))).pr,
      blind := (combinedOf c a b s).isNone, errors := errors } (s.rau.get c)) := by
  rw [takeReport_eq]
  dsimp only
  cases combinedOf c a b s <;> rfl

theorem takeReport_events : (takeReport c a b errors s).events =
    latchAll s.port.current s.events (estimateReport s.working c (combinedOf c a b s) (s.est.get c)).2 := rfl
end

/-- Settles O18: the stored report (`storeReport`) handed to the estimator (`takeReport_eq`), and the receive unit's
evaluation case by case. -/
theorem acceptedReportIsStoredAndHandedOn : Obligations.AcceptedReportIsStoredAndHandedOn := by
  refine ⟨fun c f n a b errors s hlink hn hc hwindow hlast hbehind => ?report, fun env h x => ?unit⟩
  case report =>
    have hrun : s.frameRunning = true := s.frameRunning_iff.2 ⟨hlink, n, hn⟩
    have hfresh : isStale s.port (s.intake.get c).lastAccepted f = false := by
      rw [Bool.eq_false_iff, ne_eq, isStale_iff hn]
      tauto
    have hest : (takeReport c a b errors.toNat (storeReport c f a b s)).est.get c =
        (estimateReport s.working c (combinedOf c a b s) (s.est.get c)).1 := Four.get_set_same ..
    have heq := estimateReport_eq s.working c (combinedOf c a b s) (s.est.get c)
    have hedges := latched_conditionEdge s.port.current s.events .fadeAlarm c.toNat (s.est.get c).fade
      (estimateReport s.working c (combinedOf c a b s) (s.est.get c)).1.fade
    obtain ⟨hfirst, hlater⟩ := nextEstimate_cases s.working.link (s.est.get c).est (sampleOf (combinedOf c a b s))
    have hevents : (takeReport c a b errors.toNat (storeReport c f a b s)).events =
        latchAll s.port.current s.events (conditionEdge .fadeAlarm c.toNat (s.est.get c).fade
          (estimateReport s.working c (combinedOf c a b s) (s.est.get c)).1.fade) := by
      rw [takeReport_events]
      rfl
    refine ⟨takeReport c a b errors.toNat (storeReport c f a b s),
      nextEstimate s.working.link (s.est.get c).est (sampleOf (combinedOf c a b s)),
      congrArg Host.Outcome.next (takeCarrierReport_of_accepted hrun hc hfresh a b errors.toNat), rfl, rfl, rfl,
      fun d hd => ⟨Four.get_set_of_ne _ _ hd, Four.get_set_of_ne _ _ hd, Four.get_set_of_ne _ _ hd⟩, ?_,
      fun side part ha hb => ?_, hest, ?_, hfirst, hlater, rfl, ?_, ?_, ?_, ?_, ?_, ?_⟩
    · exact congrArg IntakeCarrier.lastAccepted (Four.get_set_same s.intake c _)
    · have hrecords : (takeReport c a b errors.toNat (storeReport c f a b s)).intake.get c =
          { lastAccepted := some f, records := { a := some { frame := f, part := a.map takenPart },
                                                 b := some { frame := f, part := b.map takenPart } } } :=
        Four.get_set_same s.intake c _
      rw [hrecords, ← funext takenPart_eq]
      cases side with
      | a => rw [ha rfl]; rfl
      | b => rw [hb rfl]; rfl
    · rw [hest, heq]
    · rw [hest, heq]; rfl
    · rw [hest, heq]; exact decide_eq_true_iff
    · rw [hest, hevents]; exact hedges.1
    · rw [hest, hevents]; exact hedges.2.1
    · rw [hest, hevents]; exact hedges.2.2
    · rw [takeReport_rau]
      exact Four.get_set_same ..
  case unit =>
    refine ⟨fun hphase => ?_, fun hphase => ?_, fun hphase hrun => ?_⟩
    · simp only [takeHandover, hphase]
      rfl
    · rcases hphase with hphase | hphase | ⟨hphase, hrun⟩
      · simp only [takeHandover, hphase]
      · simp only [takeHandover, hphase]
      · simp only [takeHandover, hphase, hrun, Bool.false_eq_true, if_false]
    · have he : takeHandover env h x = evaluateReport env h x := by simp only [takeHandover, hphase, hrun, if_true]
      rw [he]
      exact ⟨fun target hdown harmed => evaluateReport_downgrade hdown harmed,
        fun armed harmed => evaluateReport_switching harmed,
        fun hdown harmed => ⟨evaluateReport_not_counting hdown harmed,
          fun r u hcounts hr hu => evaluateReport_counting hdown harmed hcounts hr hu⟩⟩

end Sys2Proof.Machine
end

section
/-! The reports of each block, as a relation between Event Latch Tables: what an operation may have reported
(`Reported`), and so which pairs it leaves alone. -/
namespace Sys2Proof.Machine

/-- A table that reports keeping a rule, taken one after the other, make of another. -/
def Reported (P : Report → Prop) : EventTable → EventTable → Prop :=
  Relation.ReflTransGen fun t u => ∃ frame r, P r ∧ u = latch frame t r

section
variable {P : Report → Prop} {a b c : EventTable}

theorem Reported.refl (t : EventTable) : Reported P t t := Relation.ReflTransGen.refl

theorem Reported.of_eq (h : b = a) : Reported P a b := by rw [h]; exact Reported.refl a

theorem Reported.trans (h1 : Reported P a b) (h2 : Reported P b c) : Reported P a c := Relation.ReflTransGen.trans h1 h2

theorem reported_latchAll {rs : List Report} (h : ∀ r ∈ rs, P r) (frame : Option FrameNo) (t : EventTable) :
    Reported P t (latchAll frame t rs) := by
  unfold latchAll
  induction rs generalizing t with
  | nil => exact .refl t
  | cons r rs ih =>
    exact .head ⟨frame, r, h r (List.mem_cons_self ..), rfl⟩ (ih (fun q hq => h q (List.mem_cons_of_mem _ hq)) _)

theorem reported_report {s : State} {rs : List Report} (h : ∀ r ∈ rs, P r) : Reported P s.events (s.report rs).events :=
  reported_latchAll h s.port.current s.events

theorem Reported.of_latchAll {frame : Option FrameNo} {rs : List Report} (e : b = latchAll frame a rs) (h : ∀ r ∈ rs, P r) :
    Reported P a b := e ▸ reported_latchAll h frame a

theorem Reported.mono {Q : Report → Prop} (hPQ : ∀ r, P r → Q r) (h : Reported P a b) : Reported Q a b := by
  induction h with
  | refl => exact .refl a
  | tail _ hbc ih =>
    obtain ⟨frame, r, hr, e⟩ := hbc
    exact .tail ih ⟨frame, r, hPQ r hr, e⟩

theorem Reported.mode (h : Reported P a b) (k : EventKind) : b.mode k = a.mode k := by
  induction h with
  | refl => rfl
  | tail _ hbc ih =>
    obtain ⟨frame, r, -, rfl⟩ := hbc
    rw [latch_mode, ih]

theorem Reported.latched (h : Reported P a b) {k : EventKind} {i : Nat} (ha : a.latched k i = true) :
    b.latched k i = true := by
  induction h with
  | refl => exact ha
  | tail _ hbc ih =>
    obtain ⟨frame, r, -, rfl⟩ := hbc
    exact latched_latch frame _ r k i ih

/-- A pair that no report names stays as it is. -/
theorem Reported.latched_eq {k : EventKind} {i : Nat} (h : Reported (fun r => r.kind ≠ k ∨ r.index ≠ i) a b) :
    b.latched k i = a.latched k i := by
  induction h with
  | refl => rfl
  | tail _ hbc ih =>
    obtain ⟨frame, r, hr, rfl⟩ := hbc
    refine (latched_latchAll_of_not_mem frame _ [r] k i fun q hq => ?_).trans ih
    rw [List.mem_singleton.1 hq]
    exact hr

theorem Reported.after {k : EventKind} {i : Nat} {e : Option Edge} (h : Reported P b c) (hab : LatchedAfter a b k i e) :
    LatchedAfter a c k i e := fun hon hedge => h.latched (hab hon hedge)

theorem Reported.before {k : EventKind} {i : Nat} {e : Option Edge} (h : Reported P a b) (hbc : LatchedAfter b c k i e) :
    LatchedAfter a c k i e := fun hon hedge => hbc (by rw [h.mode]; exact hon) (by rw [h.mode]; exact hedge)
end

/-! ### The kinds of report -/

/-- A kind that neither the estimator nor the signalling unit nor the frame number's check reports. -/
def OfBlocks (k : EventKind) : Prop := k ≠ .fadeAlarm ∧ k ≠ .sigLost ∧ k ≠ .frameSlip

/-- A rule that holds of every report of the kinds `OfBlocks`. -/
def AllowsBlocks (P : Report → Prop) : Prop := ∀ r, OfBlocks r.kind → P r

theorem allowsBlocks_true : AllowsBlocks fun _ => True := fun _ _ => trivial

theorem mem_conditionEdge {k : EventKind} {i : Nat} {before after : Bool} {r : Report}
    (h : r ∈ conditionEdge k i before after) :
    r.kind = k ∧ r.index = i ∧ before ≠ after ∧ ∃ e, r.edge = some e := by
  cases before <;> cases after <;> simp [conditionEdge] at h <;> simp [h]

theorem mem_perCarrier {α : Type} {f : Carrier → α × List Report} {r : Report} :
    r ∈ (perCarrier f).2 ↔ ∃ c, r ∈ (f c).2 := by
  simp [perCarrier, List.mem_flatMap, Carrier.mem_all]

theorem mem_shedEdges {before after : Eight ClassEntry} {r : Report} (h : r ∈ shedEdges before after) :
    r.kind = .classShed := by
  obtain ⟨k, -, hk⟩ := List.mem_flatMap.1 h
  exact (mem_conditionEdge hk).1

theorem switchTo_kind (env : RxEnv) (next : Nat) (x : RxContext) :
    ∀ r ∈ (switchTo env next x).2, r.kind = .profileChangeRx := by
  unfold switchTo
  split <;> simp [occurrence]

theorem slipTo_kind (env : RxEnv) (profile : Nat) (x : RxContext) : ∀ r ∈ (slipTo env profile x).2, r.kind = .profileSlip := by
  simp [slipTo, occurrence]

theorem armedTick_kind (env : RxEnv) (x : RxContext) : ∀ r ∈ (armedTick env x).2, r.kind = .profileChangeRx := by
  unfold armedTick
  split
  · split
    · exact switchTo_kind _ _ _
    · simp
  · simp

theorem timerTick_kind (env : RxEnv) (x : RxContext) : ∀ r ∈ (timerTick env x).2, r.kind = .requestTimeout := by
  unfold timerTick
  split
  · split
    · simp [timeOut, occurrence]
    · simp
  · simp

theorem rxFrameWork_kind (env : RxEnv) (x : RxContext) :
    ∀ r ∈ (rxFrameWork env x).2, r.kind = .profileChangeRx ∨ r.kind = .requestTimeout := by
  unfold rxFrameWork
  split
  · simp
  · intro r hr
    rcases List.mem_append.1 hr with hr | hr
    · exact .inl (armedTick_kind _ _ r hr)
    · exact .inr (timerTick_kind _ _ r hr)

theorem takeField_kind (env : RxEnv) (seeded : Bool) (p : FieldParts) (ans : AnsKind) (x : RxContext) :
    ∀ r ∈ (takeField env seeded p ans x).2, r.kind = .profileChangeRx ∨ r.kind = .profileSlip := by
  have hannounce (y : RxContext) : ∀ r ∈ (takeAnnouncement env p y).2, r.kind = .profileChangeRx := by
    unfold takeAnnouncement
    split
    · split
      · simp
      · split
        · exact switchTo_kind _ _ _
        · simp
    · simp
  have hslip (y : RxContext) : ∀ r ∈ (slipTest env p.active y).2, r.kind = .profileSlip := by
    unfold slipTest
    split
    · exact slipTo_kind _ _ _
    · simp
  unfold takeField
  split
  · simp
  · intro r hr
    rcases List.mem_append.1 hr with hr | hr
    · exact .inl (hannounce _ r hr)
    · exact .inr (hslip _ r hr)

theorem rxCommit_kind (env : RxEnv) (old new : Bool) (x : RxContext) :
    ∀ r ∈ (rxCommit env old new x).2, r.kind = .profileSlip := by
  cases old <;> cases new
  · simp [rxCommit]
  · simp [rxCommit]
  · simp [rxCommit]
  · rw [rxCommit_stays]
    unfold slipAbsent
    dsimp only
    split
    · exact slipTo_kind _ _ _
    · simp

theorem laneCountdown_kind (w : WorkingSet) (l : Lane) : ∀ r ∈ (laneCountdown w l).2, r.kind = .profileChangeTx := by
  unfold laneCountdown
  split
  · split
    · simp [laneSwitch, occurrence]
    · simp
  · simp

theorem mapperTick_kind (x : Mapper) : ∀ r ∈ (mapperTick x).2, r.kind = .classShed := by
  unfold mapperTick
  split
  · split
    · exact fun r hr => mem_shedEdges hr
    · simp
  · simp

theorem scanBranch_kind (w : WorkingSet) (n : FrameNo) (pass : Carrier → Bool) (intake : Four IntakeCarrier) (x : Monitor) :
    ∀ r ∈ (scanBranch w n pass intake x).2, r.kind = .branchFault := by
  unfold scanBranch
  dsimp only
  split
  · simp
  · unfold evaluateBranch
    dsimp only
    split <;> simp

theorem monitorCommit_kind (link : LinkParams) (c : Carrier) (old new : CarrierParams) (x : Monitor) :
    ∀ r ∈ (monitorCommit link c old new x).2, r.kind = .branchFault := by
  intro r hr
  rcases List.mem_append.1 hr with hr | hr
  · split at hr <;> simp at hr; rw [hr]
  · split at hr <;> simp at hr; rw [hr]

/-! ### What each operation reports -/

section
variable {P : Report → Prop} (hP : AllowsBlocks P)

theorem AllowsBlocks.of_kind (hP : AllowsBlocks P) {rs : List Report} {k : EventKind} (hk : OfBlocks k) (h : ∀ r ∈ rs, r.kind = k) : ∀ r ∈ rs, P r :=
  fun r hr => hP r (by rw [h r hr]; exact hk)

theorem reported_takeReport (c : Carrier) (a b : Option BranchPart) (errors : Nat) (s : State)
    (hfade : ∀ e, P { kind := .fadeAlarm, index := c.toNat, edge := some e }) :
    Reported P s.events (takeReport c a b errors s).events := by
  rw [takeReport_events]
  refine reported_latchAll (fun r hr => ?_) _ _
  rw [estimateReport_eq] at hr
  obtain ⟨hk, hi, -, e, he⟩ := mem_conditionEdge hr
  obtain ⟨k, i, o⟩ := r
  obtain rfl : k = .fadeAlarm := hk
  obtain rfl : i = c.toNat := hi
  obtain rfl : o = some e := he
  exact hfade e

theorem reported_foldl {g : State → Carrier → State} (hg : ∀ t c, Reported P t.events (g t c).events) (l : List Carrier)
    (s : State) : Reported P s.events (l.foldl g s).events := by
  induction l generalizing s with
  | nil => exact .refl _
  | cons c l ih => exact (hg s c).trans (ih _)

theorem reported_takeBlinds (counted : Four Bool) (s : State)
    (hfade : ∀ c, counted.get c = true → ∀ e, P { kind := .fadeAlarm, index := c.toNat, edge := some e }) :
    Reported P s.events (takeBlinds counted s).events := by
  refine reported_foldl (fun t c => ?_) _ s
  split
  · next h =>
    simp only [Bool.and_eq_true] at h
    exact reported_takeReport c none none 0 t (hfade c h.1)
  · exact .refl _

include hP

theorem reported_linkAbort (cause : AbortCause) (s : State) : Reported P s.events (linkAbort cause s).events := by
  have e : (linkAbort cause s).events = (s.report [{ kind := .aborted, index := 0, edge := some .enter }]).events := by
    have e' : (linkAbort cause s).events = (abortLane ((s.setFault { s.fault with state := .aborted, cause := some cause }).report
      [{ kind := .aborted, index := 0, edge := some .enter }])).events := rfl
    rw [e', abortLane_events]
    rfl
  rw [e]
  exact reported_report (hP.of_kind (k := .aborted) (by simp [OfBlocks]) (by simp))

theorem reported_rederiveDemand (held : Bool) (cause : AbortCause) (s : State) :
    Reported P s.events (rederiveDemand held cause s).events := by
  unfold rederiveDemand
  split
  · exact reported_linkAbort hP cause s
  · exact .refl _

theorem reported_rederiveAfterCommit (held : Bool) (s : State) :
    Reported P s.events (rederiveAfterCommit held s).events := by
  unfold rederiveAfterCommit
  split
  · exact reported_linkAbort hP _ (s.setFreeCount (s.freeCount + 1))
  · exact .refl _

theorem reported_takeEquipFault (c : Carrier) (v : Bool) (s : State) :
    Reported P s.events (takeEquipFault c v s).events := by
  unfold takeEquipFault
  split
  · have h1 : Reported P s.events ((storeFarFault c true s).report [occurrence .farFault c.toNat]).events :=
      reported_report (s := storeFarFault c true s) (hP.of_kind (k := .farFault) (by simp [OfBlocks]) (by simp [occurrence]))
    exact h1.trans (reported_rederiveDemand hP _ _ _)
  · exact .refl _

theorem reported_routeToReceive (c : Carrier) (p : FieldParts) (ans : AnsKind) (s : State) :
    Reported P s.events (routeToReceive c p ans s).events := by
  refine reported_report (s := s.setRau _) fun r hr => hP r ?_
  rcases takeField_kind _ _ _ _ _ r hr with h | h
  · rw [h]; simp [OfBlocks]
  · rw [h]; simp [OfBlocks]

theorem reported_routePart (c : Carrier) (p : FieldParts) (ans : AnsKind) (s : State) :
    Reported P s.events (routePart c p ans s).events :=
  (reported_takeEquipFault hP c p.equipFault s).trans (reported_routeToReceive hP c p ans _)

theorem reported_routeFull (c : Carrier) (p : FieldParts) (ans : AnsKind) (s : State) :
    Reported P s.events (routeFull c p ans s).events := by
  have e : (routeFull c p ans s).events = (routePart c p ans s).events := takeMargin_events ..
  rw [e]
  exact reported_routePart hP c p ans s

omit hP in
theorem reported_enterSigLost (c : Carrier) (s : State)
    (hsig : ∀ e, P { kind := .sigLost, index := c.toNat, edge := some e }) :
    Reported P s.events (enterSigLost c s).events := by
  have e : (enterSigLost c s).events = (s.report [{ kind := .sigLost, index := c.toNat, edge := some .enter }]).events := by
    rw [enterSigLost_eq, applyLossPolicy_events]
    rfl
  rw [e]
  exact reported_report (by simpa using hsig .enter)

omit hP in
theorem reported_recoverSig (c : Carrier) (s : State)
    (hsig : ∀ e, P { kind := .sigLost, index := c.toNat, edge := some e }) :
    Reported P s.events (recoverSig c s).events := by
  have e : (recoverSig c s).events = (s.report [{ kind := .sigLost, index := c.toNat, edge := some .leave }]).events := rfl
  rw [e]
  exact reported_report (by simpa using hsig .leave)

omit hP in
theorem reported_takeInvalid (c : Carrier) (s : State)
    (hsig : ∀ e, P { kind := .sigLost, index := c.toNat, edge := some e }) :
    Reported P s.events (takeInvalid c s).events := by
  unfold takeInvalid
  dsimp only
  split
  · exact .refl _
  · split
    · exact reported_enterSigLost c s hsig
    · exact .refl _

theorem reported_takeValid (c : Carrier) (f : RawField) (ans : AnsKind) (s : State)
    (hsig : ∀ e, P { kind := .sigLost, index := c.toNat, edge := some e }) :
    Reported P s.events (takeValid c f ans s).events := by
  unfold takeValid
  dsimp only
  split
  · split
    · exact Reported.trans (reported_recoverSig c (storeSig c _ s) hsig) (reported_routeFull hP ..)
    · exact reported_routePart hP c _ ans (storeSig c _ s)
  · exact reported_routeFull hP c _ ans (storeSig c _ s)

theorem reported_handField (c : Carrier) (f : Option RawField) (s : State)
    (hsig : ∀ e, P { kind := .sigLost, index := c.toNat, edge := some e }) :
    Reported P s.events (handField c f s).events := by
  unfold handField
  split
  · exact reported_takeInvalid c s hsig
  · split
    · split
      · exact reported_takeValid hP c _ _ s hsig
      · exact reported_takeInvalid c s hsig
    · exact reported_takeInvalid c s hsig

omit hP in
theorem reported_takeNotices (missing : Four Bool) (s : State)
    (hsig : ∀ c, missing.get c = true → ∀ e, P { kind := .sigLost, index := c.toNat, edge := some e }) :
    Reported P s.events (takeNotices missing s).events := by
  refine reported_foldl (fun t c => ?_) _ s
  split
  · next h => exact reported_takeInvalid c t (hsig c h)
  · exact .refl _

theorem reported_mapperWork (s : State) : Reported P s.events (mapperWork s).events :=
  reported_report (s := s.setMapper _) (hP.of_kind (k := .classShed) (by simp [OfBlocks]) (mapperTick_kind _))

theorem reported_rauWork (s : State) : Reported P s.events (rauWork s).events := by
  refine reported_report (s := s.setRau _) fun r hr => hP r ?_
  obtain ⟨c, hr⟩ := mem_perCarrier.1 hr
  rcases rxFrameWork_kind _ _ r hr with h | h
  · rw [h]; simp [OfBlocks]
  · rw [h]; simp [OfBlocks]

theorem reported_laneStep1 (s : State) : Reported P s.events (laneStep1 s).events :=
  reported_report (s := s.setLane _) (hP.of_kind (k := .profileChangeTx) (by simp [OfBlocks]) (laneCountdown_kind _ _))

theorem reported_scanWork (n : FrameNo) (pass : Carrier → Bool) (s : State) :
    Reported P s.events (scanWork n pass s).events :=
  reported_report (s := s.setMonitor _) (hP.of_kind (k := .branchFault) (by simp [OfBlocks]) (scanBranch_kind _ _ _ _ _))

theorem reported_commitMonitorCarrier (old : WorkingSet) (c : Carrier) (s : State) :
    Reported P s.events (commitMonitorCarrier old c s).events :=
  .of_latchAll (frame := s.port.current)
    (rs := (monitorCommit s.working.link c (old.carriers.get c) (s.params c) s.monitor).2) rfl
    (hP.of_kind (k := .branchFault) (by simp [OfBlocks]) (monitorCommit_kind _ _ _ _ _))

theorem reported_commitMonitor (old : WorkingSet) (s : State) : Reported P s.events (commitMonitor old s).events :=
  reported_foldl (fun t c => reported_commitMonitorCarrier hP old c t) _ s

theorem reported_commitConfiguration (s : State) : Reported P s.events (commitConfiguration s).events :=
  .of_latchAll (frame := s.port.current) (rs := [occurrence .applyDone 0]) rfl
    (hP.of_kind (k := .applyDone) (by simp [OfBlocks]) (by simp [occurrence]))

theorem reported_commitRau (old : WorkingSet) (s : State) : Reported P s.events (commitRau old s).events := by
  refine .of_latchAll (frame := s.port.current) (rs := (perCarrier fun c =>
    rxCommit (rxEnv s c) (old.carriers.get c).enable (s.enabled c) (s.rau.get c)).2) rfl fun r hr => ?_
  obtain ⟨c, hr⟩ := mem_perCarrier.1 hr
  exact hP.of_kind (k := .profileSlip) (by simp [OfBlocks]) (rxCommit_kind _ _ _ _) r hr

omit hP in
theorem reported_commitEst (old : WorkingSet) (s : State)
    (hfade : ∀ c, enableChanges old s.working c = true → (s.est.get c).fade = true →
      ∀ e, P { kind := .fadeAlarm, index := c.toNat, edge := some e }) :
    Reported P s.events (commitEst old s).events := by
  refine .of_latchAll (frame := s.port.current) (rs := (perCarrier fun c =>
    if enableChanges old s.working c then unseed c (s.est.get c) else (s.est.get c, [])).2) rfl fun r hr => ?_
  obtain ⟨c, hr⟩ := mem_perCarrier.1 hr
  split at hr
  · next hch =>
    obtain ⟨k, i, o⟩ := r
    obtain ⟨rfl, rfl, hne, e, rfl⟩ := mem_conditionEdge hr
    exact hfade c hch (by simpa using hne) e
  · cases hr

omit hP in
theorem reported_commitSig (old : WorkingSet) (s : State)
    (hsig : ∀ c, enableChanges old s.working c = true → (s.sig.get c).lost = true →
      ∀ e, P { kind := .sigLost, index := c.toNat, edge := some e }) :
    Reported P s.events (commitSig old s).events := by
  refine .of_latchAll (frame := s.port.current) (rs := (perCarrier fun c =>
    if enableChanges old s.working c then
      (SigCarrier.initial, conditionEdge .sigLost c.toNat (s.sig.get c).lost false)
    else (s.sig.get c, [])).2) rfl fun r hr => ?_
  obtain ⟨c, hr⟩ := mem_perCarrier.1 hr
  split at hr
  · next hch =>
    obtain ⟨k, i, o⟩ := r
    obtain ⟨rfl, rfl, hne, e, rfl⟩ := mem_conditionEdge hr
    exact hsig c hch (by simpa using hne) e
  · cases hr

theorem reported_commitMapper (old : WorkingSet) (n : FrameNo) (s : State) :
    Reported P s.events (commitMapper old n s).events :=
  .of_latchAll (frame := s.port.current) (rs := (mapperCommit s.working
    (fun c => (old.carriers.get c).enable && !s.enabled c) s.lane n s.mapper).2) rfl
    (hP.of_kind (k := .classShed) (by simp [OfBlocks]) fun _ hr => mem_shedEdges hr)

/-- The state in which a commit clears the signalling records. -/
def commitBeforeSig (s : State) : State :=
  commitIntake s.working (commitMonitor s.working (commitEst s.working (commitRau s.working (committedLane s))))

omit hP in
theorem commitBeforeSig_working (s : State) : (commitBeforeSig s).working = stagedAsWorking s.staged := by
  simp [commitBeforeSig, commitIntake, commitEst, commitRau]

omit hP in
theorem commitBeforeSig_sig (s : State) : (commitBeforeSig s).sig = s.sig := by
  simp [commitBeforeSig, commitIntake, commitEst, commitRau, committedLane, commitLane, commitConfiguration]

/-- What a commit reports of the estimator and of the signalling unit: the conditions of the carriers that it enables or
disables. -/
theorem reported_commitParts (n : FrameNo) (s : State)
    (hfade : ∀ c, enableChanges s.working (stagedAsWorking s.staged) c = true → (s.est.get c).fade = true →
      ∀ e, P { kind := .fadeAlarm, index := c.toNat, edge := some e })
    (hsig : ∀ c, enableChanges s.working (stagedAsWorking s.staged) c = true → (s.sig.get c).lost = true →
      ∀ e, P { kind := .sigLost, index := c.toNat, edge := some e }) :
    Reported P s.events (commitParts n s).events := by
  have happlied : Reported P s.events (committedLane s).events := reported_commitConfiguration hP s
  have hest := (happlied.trans (reported_commitRau hP s.working (committedLane s))).trans
    (reported_commitEst s.working (commitRau s.working (committedLane s)) hfade)
  have hmonitor : Reported P s.events (commitBeforeSig s).events := hest.trans (reported_commitMonitor hP s.working
    (commitEst s.working (commitRau s.working (committedLane s))))
  have hsigs := hmonitor.trans (reported_commitSig s.working (commitBeforeSig s) fun c hch hl => hsig c
      (by rwa [commitBeforeSig_working] at hch) (by rwa [commitBeforeSig_sig] at hl))
  exact hsigs.trans (reported_commitMapper hP s.working n (commitBeforeMapper s))

theorem reported_commitWork (n : FrameNo) (s : State)
    (hfade : ∀ c, enableChanges s.working (stagedAsWorking s.staged) c = true → (s.est.get c).fade = true →
      ∀ e, P { kind := .fadeAlarm, index := c.toNat, edge := some e })
    (hsig : ∀ c, enableChanges s.working (stagedAsWorking s.staged) c = true → (s.sig.get c).lost = true →
      ∀ e, P { kind := .sigLost, index := c.toNat, edge := some e }) :
    Reported P s.events (commitWork n s).events :=
  (reported_commitParts hP n s hfade hsig).trans (reported_rederiveAfterCommit hP _ _)

/-- The lane's work reports what its commit does, when it makes one, and the switch. -/
theorem reported_laneWork (n : FrameNo) (s : State)
    (hfade : ∀ c, s.applyPending = true → enableChanges s.working (stagedAsWorking s.staged) c = true →
      (s.est.get c).fade = true → ∀ e, P { kind := .fadeAlarm, index := c.toNat, edge := some e })
    (hsig : ∀ c, s.applyPending = true → enableChanges s.working (stagedAsWorking s.staged) c = true →
      (s.sig.get c).lost = true → ∀ e, P { kind := .sigLost, index := c.toNat, edge := some e }) :
    Reported P s.events (laneWork n s).events := by
  have h1 := reported_laneStep1 hP s
  unfold laneWork
  dsimp only
  split
  · split
    · next hp => exact h1.trans (reported_commitWork hP n _ (fun c => hfade c hp) fun c => hsig c hp)
    · exact h1.trans (.of_eq (laneStep3_events ..))
  · split
    · exact h1.trans (.of_eq (laneStep4_events ..))
    · exact h1

/-- The blocks' work from the receive units on, the same for every kind of frame start. -/
theorem reported_workFrom (n : FrameNo) (pass : Carrier → Bool) (loaded : Four (Option Nat)) (s : State)
    (hfade : ∀ c, s.applyPending = true → enableChanges s.working (stagedAsWorking s.staged) c = true →
      (s.est.get c).fade = true → ∀ e, P { kind := .fadeAlarm, index := c.toNat, edge := some e })
    (hsig : ∀ c, s.applyPending = true → enableChanges s.working (stagedAsWorking s.staged) c = true →
      (s.sig.get c).lost = true → ∀ e, P { kind := .sigLost, index := c.toNat, edge := some e }) :
    Reported P s.events (computeAtten loaded (scanWork n pass (laneWork n (rauWork s)))).events :=
  ((reported_rauWork hP s).trans (reported_laneWork hP n _ hfade hsig)).trans (reported_scanWork hP n pass _)

theorem reported_blockWork (n : FrameNo) (pass : Carrier → Bool) (s : State)
    (hfade : ∀ c, s.applyPending = true → enableChanges s.working (stagedAsWorking s.staged) c = true →
      (s.est.get c).fade = true → ∀ e, P { kind := .fadeAlarm, index := c.toNat, edge := some e })
    (hsig : ∀ c, s.applyPending = true → enableChanges s.working (stagedAsWorking s.staged) c = true →
      (s.sig.get c).lost = true → ∀ e, P { kind := .sigLost, index := c.toNat, edge := some e }) :
    Reported P s.events (blockWork n pass id s).events :=
  Reported.trans (reported_mapperWork hP (graceWork s)) (reported_workFrom hP n _ _
    (powerWork (mapperWork (graceWork s))) hfade hsig)

omit hP in
theorem reported_handovers (order : FrameOrder) (counted missing : Four Bool) (time : HandoverTime) (s : State)
    (hfade : ∀ c, counted.get c = true → ∀ e, P { kind := .fadeAlarm, index := c.toNat, edge := some e })
    (hsig : ∀ c, missing.get c = true → ∀ e, P { kind := .sigLost, index := c.toNat, edge := some e }) :
    Reported P s.events (handovers order counted missing time s).events := by
  have h1 : Reported P s.events (if order.reports = time then takeBlinds counted s else s).events := by
    split
    · exact reported_takeBlinds counted s hfade
    · exact .refl _
  unfold handovers
  dsimp only
  split
  · exact h1.trans (reported_takeNotices missing _ hsig)
  · exact h1
end

/-- Any report at all: what an operation leaves latched stays latched. -/
abbrev Grows : EventTable → EventTable → Prop := Reported fun _ => True

/-! ### Frame loss -/

/-- What a frame loss reports, in order. -/
def lossReports (s : State) : List Report :=
  { kind := .frameLost, index := 0, edge := some .enter } ::
    ((perCarrier fun c => unseed c (s.est.get c)).2 ++ (mapperFrameLoss s.mapper).2 ++
      (perCarrier fun c => (SigCarrier.initial, conditionEdge .sigLost c.toNat (s.sig.get c).lost false)).2)

theorem latchAll_append (frame : Option FrameNo) (t : EventTable) (xs ys : List Report) :
    latchAll frame t (xs ++ ys) = latchAll frame (latchAll frame t xs) ys := List.foldl_append ..

theorem muteSettings_current (s : State) : (muteSettings s).port.current = s.port.current := by
  unfold muteSettings
  split
  · next h => rw [h]; exact h
  · rfl

/-- What a frame loss makes of the blocks after the estimator (R7). -/
def lossOfBlocks (s : State) : State :=
  let s3 := onEnabledRau s fun _ x => rxFrameLoss x
  let s4 := s3.setLane (laneFrameLoss s3.lane)
  let s5 := s4.setPcu (.ofFn fun c => powerFrameLoss (s4.pcu.get c))
  lossSig (lossMapper s5)

theorem takeFrameLoss_eq (s : State) : takeFrameLoss s = (lossOfBlocks (lossMuted s)).setFault
    { (lossOfBlocks (lossMuted s)).fault with farFault := .fill false } := rfl

theorem lossOfBlocks_events (s : State) : (lossOfBlocks s).events = latchAll s.port.current s.events
    ((mapperFrameLoss s.mapper).2 ++
      (perCarrier fun c => (SigCarrier.initial, conditionEdge .sigLost c.toNat (s.sig.get c).lost false)).2) := by
  rw [latchAll_append]
  rfl

theorem lossEst_events (s : State) : (lossEst s).events = latchAll s.port.current s.events
    (perCarrier fun c => unseed c (s.est.get c)).2 := rfl

theorem lossMuted_current (s : State) : (lossMuted s).port.current = s.port.current := by
  unfold lossMuted
  rw [show ∀ t, (lossEst t).port = t.port from fun _ => rfl, muteSettings_current]
  rfl

theorem lossMuted_events (s : State) : (lossMuted s).events = latchAll s.port.current s.events
    ({ kind := .frameLost, index := 0, edge := some .enter } :: (perCarrier fun c => unseed c (s.est.get c)).2) := by
  unfold lossMuted
  rw [lossEst_events, muteSettings_current, muteSettings_events, muteSettings_est]
  rfl

theorem lossMuted_mapper (s : State) : (lossMuted s).mapper = s.mapper := muteSettings_mapper _

theorem lossMuted_sig (s : State) : (lossMuted s).sig = s.sig := muteSettings_sig _

theorem takeFrameLoss_events (s : State) : (takeFrameLoss s).events = latchAll s.port.current s.events (lossReports s) := by
  rw [takeFrameLoss_eq, State.setFault_events, lossOfBlocks_events, lossMuted_current, lossMuted_events, lossMuted_mapper,
    lossMuted_sig, ← latchAll_append]
  simp only [lossReports, List.append_assoc, List.cons_append]

end Sys2Proof.Machine
end

section
/-! The Change Lane's operations on one carrier's items, case by case (R122 to R129, R138). -/
namespace Sys2Proof.Machine

theorem giveAnswer_refused (seq : Seq) (x : LaneCarrier) : giveAnswer .refused seq x = refusedSeq seq x := rfl

theorem mergeKind_eq (a b : ChangeKind) : mergeKind a b = if a = .urgent ∨ b = .urgent then .urgent else .down := by
  simp [mergeKind]

theorem intakeOwn_internalIntake (maker : Internal) (kind : ChangeKind) (target : Nat) (x : LaneCarrier) :
    InternalIntake maker kind target x (intakeOwn maker kind target x) := by
  refine ⟨fun h => ?_, fun seq t arrival restored h => ?_, fun seq k t arrival restored h hk => ?_,
    fun m k t absorbed h => ?_⟩
  · simp [intakeOwn, h]
  · simp [intakeOwn, h, giveAnswer_refused]
  · cases k with
    | up => exact absurd rfl hk
    | down => simp [intakeOwn, h, mergeKind_eq]
    | urgent => simp [intakeOwn, h, mergeKind_eq]
  · simp [intakeOwn, h, mergeKind_eq]

theorem refuseEntry_far (seq : Seq) (k : ChangeKind) (t : Nat) (arrival : Option FrameNo) (restored : Bool)
    (x : LaneCarrier) : refuseEntry (.far seq k t arrival restored) x = refusedSeq seq { x with entry := none } := rfl

theorem refuseEntry_own (m : Internal) (k : ChangeKind) (t : Nat) (absorbed : Option Seq) (x : LaneCarrier) :
    refuseEntry (.own m k t absorbed) x = match absorbed with
      | some seq => refusedSeq seq { x with entry := none }
      | none => { x with entry := none } := by
  cases absorbed <;> rfl

theorem recheckEntry_rechecked (ceiling T : Nat) (x : LaneCarrier) :
    EntryRechecked ceiling T x (recheckEntry ceiling T x) := by
  refine ⟨fun h => ?_, fun seq t arrival restored h => ?_, fun seq k t arrival restored h hk => ?_,
    fun m k t absorbed h => ?_⟩
  · simp [recheckEntry, h]
  · simp [recheckEntry, h, refuseEntry_far]
  · cases k with
    | up => exact absurd rfl hk
    | down => simp [recheckEntry, h, refuseEntry_far]
    | urgent => simp [recheckEntry, h, refuseEntry_far]
  · simp [recheckEntry, h, refuseEntry_own] <;> rfl

theorem refuseFarSide_eq (x : LaneCarrier) : refuseFarSide x = farSideRefused x := by
  unfold refuseFarSide farSideRefused
  rcases h : x.entry with _ | ⟨seq, k, t, arrival, restored⟩ | ⟨m, k, t, _ | seq⟩ <;> rfl

/-! ### The intake of a far-end request -/

section
variable {ceiling T : Nat} {aborted : Bool} {frame : Option FrameNo} {kind : ReqKind} {seq : Seq} {target : Nat}
  {x : LaneCarrier}

theorem farSeq?_eq_some {o : Option Entry} : o.bind Entry.farSeq? = some seq ↔
    ∃ k t arrival restored, o = some (.far seq k t arrival restored) := by
  rcases o with _ | ⟨q, k, t, arrival, restored⟩ | ⟨m, k, t, ab⟩ <;> simp [Entry.farSeq?]

theorem intakeRequest_answered (h : seq = x.lastAnswered) :
    intakeRequest ceiling T aborted frame kind seq target x = x := if_pos h

theorem intakeRequest_waiting (h : seq ≠ x.lastAnswered)
    (hfar : ∃ k t arrival restored, x.entry = some (.far seq k t arrival restored)) :
    intakeRequest ceiling T aborted frame kind seq target x = { x with answer := { kind := .deferred, seq := seq } } :=
  (if_neg h).trans (if_pos (farSeq?_eq_some.2 hfar))

theorem intakeRequest_none (h : seq ≠ x.lastAnswered)
    (hfar : ¬ ∃ k t arrival restored, x.entry = some (.far seq k t arrival restored)) :
    intakeRequest ceiling T aborted frame .none seq target x =
      { x with entry := dropFarSide x.entry, answer := { kind := .cancelled, seq := seq }, lastAnswered := seq } :=
  (if_neg h).trans (if_neg fun h => hfar (farSeq?_eq_some.1 h))

/-- The clamped request is refused (R125), as the statements write it. -/
def RefusedAtIntake (k : ChangeKind) (clamped : Nat) (aborted : Bool) (x : LaneCarrier) : Prop :=
  clamped = x.active ∨ (k = .up ∧ clamped ≤ x.active) ∨ (k ≠ .up ∧ x.active < clamped) ∨
    (k = .up ∧ x.hold = true) ∨ aborted = true

theorem refusedAtIntake_iff (k : ChangeKind) (clamped : Nat) :
    refusedAtIntake k clamped aborted x = true ↔ RefusedAtIntake k clamped aborted x := by
  simp [refusedAtIntake, RefusedAtIntake, or_assoc]

theorem clampTarget_eq (k : ChangeKind) (active : Nat) :
    clampTarget k target active ceiling T =
      min (min (if k = .up then min target (active + 1) else target) ceiling) (T - 1) := by
  cases k <;> rfl

theorem intakeRequest_refused (h : seq ≠ x.lastAnswered)
    (hfar : ¬ ∃ k t arrival restored, x.entry = some (.far seq k t arrival restored)) {k : ChangeKind}
    (hk : kind.change? = some k) (hr : RefusedAtIntake k (clampTarget k target x.active ceiling T) aborted x) :
    intakeRequest ceiling T aborted frame kind seq target x =
      refusedSeq seq { x with entry := x.entry.filter (·.isOwn) } := by
  have hr' := (refusedAtIntake_iff k _).2 hr
  refine (if_neg h).trans ((if_neg fun h => hfar (farSeq?_eq_some.1 h)).trans ?_)
  rw [hk]
  dsimp only
  rw [hr']
  obtain ⟨entry, active, lastAnswered, answer, hold⟩ := x
  rcases entry with _ | ⟨q, j, t, arrival, restored⟩ | ⟨m, j, t, ab⟩ <;> rfl

theorem intakeRequest_deferred (h : seq ≠ x.lastAnswered)
    (hfar : ¬ ∃ k t arrival restored, x.entry = some (.far seq k t arrival restored)) {k : ChangeKind}
    (hk : kind.change? = some k) (hr : ¬ RefusedAtIntake k (clampTarget k target x.active ceiling T) aborted x) :
    intakeRequest ceiling T aborted frame kind seq target x =
      { x with
        entry := if (x.entry.any (·.isOwn)) = true then x.entry
          else some (.far seq k (clampTarget k target x.active ceiling T) frame false)
        answer := { kind := .deferred, seq := seq } } := by
  have hr' : refusedAtIntake k (clampTarget k target x.active ceiling T) aborted x = false :=
    Bool.eq_false_iff.2 fun h => hr ((refusedAtIntake_iff k _).1 h)
  refine (if_neg h).trans ((if_neg fun h => hfar (farSeq?_eq_some.1 h)).trans ?_)
  rw [hk]
  dsimp only
  rw [hr']
  obtain ⟨entry, active, lastAnswered, answer, hold⟩ := x
  rcases entry with _ | ⟨q, j, t, arrival, restored⟩ | ⟨m, j, t, ab⟩ <;> rfl

end

/-- Settles O38, by the intake's branches in the order of R122 to R126, and the cases of R128 and of R129. -/
theorem intakeDisposesOfEachRequest : Obligations.IntakeDisposesOfEachRequest := by
  refine ⟨intakeOwn_internalIntake, recheckEntry_rechecked, fun ceiling T aborted frame kind seq target x => ?_⟩
  refine ⟨intakeRequest_active .., intakeRequest_hold .., intakeRequest_answered, intakeRequest_waiting, ?_, ?_⟩
  · rintro h hfar rfl
    rw [intakeRequest_none h hfar]
    refine ⟨rfl, rfl, fun maker k t absorbed he => by simp [he, dropFarSide], fun hown => ?_⟩
    rcases he : x.entry with _ | ⟨q, j, t, arrival, restored⟩ | ⟨m, j, t, ab⟩
    · rfl
    · rfl
    · exact (hown m j t ab he).elim
  · intro h hfar k hk
    dsimp only
    rw [← clampTarget_eq]
    refine ⟨fun hr => ?_, fun hr => ?_⟩
    · rw [intakeRequest_refused h hfar hk hr]
      exact ⟨rfl, rfl, rfl⟩
    · rw [intakeRequest_deferred h hfar hk hr]
      refine ⟨rfl, rfl, fun e he hown => by simp [he, hown], fun hown => ?_⟩
      rcases he : x.entry with _ | e
      · rfl
      · simp [hown e he]

end Sys2Proof.Machine
end

section
/-! The lane's selection and its withdrawal of an upgrade, on the lane alone (R132, R133, R135, R136). -/
namespace Sys2Proof.Machine

/-! ### The downgrade bundle -/

theorem Entry.isDown_iff (e : Entry) : e.isDown = true ↔ e.kind ≠ .up := by simp [Entry.isDown]

theorem hasDown_of_entry {l : Lane} (h : ∃ c e, (l.carriers.get c).entry = some e ∧ e.kind ≠ .up) : hasDown l = true := by
  obtain ⟨c, e, he, hk⟩ := h
  refine (hasDown_iff l).2 ⟨c, ?_⟩
  unfold downEntry
  rw [he]
  exact e.isDown_iff.2 hk

theorem hasDown_eq_false {l : Lane} (h : ∀ c e, (l.carriers.get c).entry = some e → e.kind = .up) : hasDown l = false := by
  refine Bool.eq_false_iff.2 fun hd => ?_
  obtain ⟨c, hc⟩ := (hasDown_iff l).1 hd
  unfold downEntry at hc
  split at hc
  · next e he => exact e.isDown_iff.1 hc (h c e he)
  · cases hc

theorem laneSelect_of_down {link : LinkParams} {n : FrameNo} {running applyPending : Bool} {l : Lane}
    (h : hasDown l = true) : laneSelect link n running applyPending l = startBundle link n l := if_pos h

theorem bundleHurries_iff (l : Lane) : bundleHurries l = true ↔
    ∃ c e, (l.carriers.get c).entry = some e ∧ e.kind ≠ .up ∧ (e.kind = .urgent ∨ e.isOwn = true) := by
  refine List.any_eq_true.trans ⟨?_, ?_⟩
  · rintro ⟨c, -, h⟩
    split at h
    · next e he => exact ⟨c, e, he, by simpa [Entry.isDown_iff] using h⟩
    · cases h
  · rintro ⟨c, e, he, hk⟩
    exact ⟨c, c.mem_all, by simpa [he, Entry.isDown_iff] using hk⟩

theorem startBundle_of_down {link : LinkParams} {n : FrameNo} {l : Lane} {c : Carrier} {e : Entry}
    (he : (l.carriers.get c).entry = some e) (hk : e.kind ≠ .up) :
    (startBundle link n l).carriers.get c = grantEntry (l.carriers.get c) := by
  simp [startBundle, he, e.isDown_iff.2 hk]

theorem startBundle_of_up {link : LinkParams} {n : FrameNo} {l : Lane} {c : Carrier}
    (h : ∀ e, (l.carriers.get c).entry = some e → e.kind = .up) :
    (startBundle link n l).carriers.get c = l.carriers.get c := by
  simp only [startBundle, Four.get_ofFn]
  split
  · next e he => exact if_neg fun hd => e.isDown_iff.1 hd (h e he)
  · rfl

theorem grantEntry_answered {x : LaneCarrier} {e : Entry} (he : x.entry = some e) {q : Seq} (hq : e.answerSeq? = some q) :
    grantEntry x = { x with entry := none, answer := { kind := .granted, seq := q }, lastAnswered := q } := by
  simp [grantEntry, he, hq, giveAnswer]

theorem grantEntry_silent {x : LaneCarrier} {e : Entry} (he : x.entry = some e) (hq : e.answerSeq? = none) :
    grantEntry x = { x with entry := none } := by
  simp [grantEntry, he, hq]

/-- The selection with a DOWN or URGENT entry in the table (R132, R134). -/
theorem laneSelect_bundle (link : LinkParams) (n : FrameNo) (running applyPending : Bool) (l : Lane)
    (h : ∃ c e, (l.carriers.get c).entry = some e ∧ e.kind ≠ .up) :
    let l' := laneSelect link n running applyPending l
    ∃ a, l'.announcement = some a ∧ a.kind = .down ∧ (a.members.map (·.carrier)).Nodup ∧
      a.switchFrame = n + BitVec.ofNat 16 a.count ∧
      ((∃ c e, (l.carriers.get c).entry = some e ∧ e.kind ≠ .up ∧ (e.kind = .urgent ∨ e.isOwn = true)) →
        a.count = link.urgentCount) ∧
      ((∀ c e, (l.carriers.get c).entry = some e → e.kind ≠ .up → e.kind = .down ∧ e.isOwn = false) →
        a.count = link.announceCount) ∧
      (∀ m ∈ a.members, ∃ e, (l.carriers.get m.carrier).entry = some e ∧ e.kind ≠ .up ∧
        m.fromP = (l.carriers.get m.carrier).active ∧ m.toP = e.target ∧ m.origin = e.origin) ∧
      ∀ c,
        (∀ e, (l.carriers.get c).entry = some e → e.kind ≠ .up →
          (∃ m ∈ a.members, m.carrier = c) ∧ (l'.carriers.get c).entry = none ∧
          (l'.carriers.get c).active = (l.carriers.get c).active ∧
          (l'.carriers.get c).hold = (l.carriers.get c).hold ∧
          (∀ q, e.answerSeq? = some q →
            (l'.carriers.get c).answer = { kind := .granted, seq := q } ∧ (l'.carriers.get c).lastAnswered = q) ∧
          (e.answerSeq? = none → (l'.carriers.get c).answer = (l.carriers.get c).answer ∧
            (l'.carriers.get c).lastAnswered = (l.carriers.get c).lastAnswered)) ∧
        ((∀ e, (l.carriers.get c).entry = some e → e.kind = .up) → l'.carriers.get c = l.carriers.get c) := by
  dsimp only
  rw [laneSelect_of_down (hasDown_of_entry h)]
  refine ⟨_, rfl, rfl, ?_, rfl, fun hurries => if_pos ((bundleHurries_iff l).2 hurries), fun hcalm => if_neg fun hb => ?_,
    fun m hm => ?_, fun c => ⟨fun e he hk => ?_, startBundle_of_up⟩⟩
  · rw [bundleMembers_carriers]
    exact List.Nodup.filter _ (by decide)
  · obtain ⟨c, e, he, hk, hu⟩ := (bundleHurries_iff l).1 hb
    obtain ⟨hdown, hown⟩ := hcalm c e he hk
    simp [hdown, hown] at hu
  · obtain ⟨c, e, he, hd, rfl⟩ := mem_bundleMembers.1 hm
    exact ⟨e, he, e.isDown_iff.1 hd, rfl, rfl, rfl⟩
  · rw [startBundle_of_down he hk]
    refine ⟨⟨_, mem_bundleMembers.2 ⟨c, e, he, e.isDown_iff.2 hk, rfl⟩, rfl⟩, grantEntry_entry _, grantEntry_active _,
      grantEntry_hold _, fun q hq => ?_, fun hq => ?_⟩
    · rw [grantEntry_answered he hq]
      exact ⟨rfl, rfl⟩
    · rw [grantEntry_silent he hq]
      exact ⟨rfl, rfl⟩

/-! ### The oldest upgrade -/

theorem foldl_olderUp_oldest (n : FrameNo) (l : Lane) (cs : List Carrier) (best : Option (Carrier × Nat))
    (hsorted : cs.Pairwise (·.toNat < ·.toNat)) (hbest : ∀ p ∈ best, ∀ d ∈ cs, p.1.toNat < d.toNat) :
    (cs.foldl (olderUp n l) best = none → best = none ∧ ∀ d ∈ cs, upAge n (l.carriers.get d) = none) ∧
    ∀ p ∈ cs.foldl (olderUp n l) best,
      (∀ q ∈ best, q.2 ≤ p.2 ∧ (q.2 = p.2 → p.1.toNat ≤ q.1.toNat)) ∧
      ∀ d ∈ cs, ∀ age ∈ upAge n (l.carriers.get d), age ≤ p.2 ∧ (age = p.2 → p.1.toNat ≤ d.toNat) := by
  induction cs generalizing best with
  | nil =>
    refine ⟨fun h => ⟨h, by simp⟩, fun p hp => ⟨fun q hq => ?_, by simp⟩⟩
    obtain rfl : q = p := Option.some.inj (hq.symm.trans hp)
    exact ⟨le_refl _, fun _ => le_refl _⟩
  | cons c cs ih =>
    obtain ⟨hc, hsorted⟩ := List.pairwise_cons.1 hsorted
    have hstep : ∀ p ∈ olderUp n l best c, ∀ d ∈ cs, p.1.toNat < d.toNat := by
      intro p hp d hd
      unfold olderUp at hp
      split at hp
      · split at hp
        · obtain rfl := Option.some.inj hp; exact hc d hd
        · obtain rfl := Option.some.inj hp; exact hbest _ rfl d (List.mem_cons_of_mem _ hd)
      · obtain rfl := Option.some.inj hp; exact hc d hd
      · exact hbest p hp d (List.mem_cons_of_mem _ hd)
    obtain ⟨hnone, hsome⟩ := ih (olderUp n l best c) hsorted hstep
    rw [List.foldl_cons]
    cases hage : upAge n (l.carriers.get c) with
    | none =>
      have e : olderUp n l best c = best := by simp [olderUp, hage]
      rw [e] at hnone hsome ⊢
      refine ⟨fun h => ⟨(hnone h).1, ?_⟩, fun p hp => ⟨(hsome p hp).1, ?_⟩⟩
      · simpa [hage] using (hnone h).2
      · simpa [hage] using (hsome p hp).2
    | some age =>
      cases best with
      | none =>
        have e : olderUp n l none c = some (c, age) := by simp [olderUp, hage]
        rw [e] at hnone hsome ⊢
        refine ⟨fun h => ?_, fun p hp => ⟨by simp, fun d hd a ha => ?_⟩⟩
        · cases (hnone h).1
        · rcases List.mem_cons.1 hd with rfl | hd
          · rw [hage] at ha
            obtain rfl := Option.some.inj ha
            exact (hsome p hp).1 _ rfl
          · exact (hsome p hp).2 d hd a ha
      | some q =>
        obtain ⟨b, bestAge⟩ := q
        have hlt : b.toNat < c.toNat := hbest _ rfl c (List.mem_cons_self ..)
        rcases Nat.lt_or_ge bestAge age with hold | hold
        · have e : olderUp n l (some (b, bestAge)) c = some (c, age) := by simp [olderUp, hage, hold]
          rw [e] at hnone hsome ⊢
          refine ⟨fun h => ?_, fun p hp => ⟨fun r hr => ?_, fun d hd a ha => ?_⟩⟩
          · cases (hnone h).1
          · obtain rfl := Option.some.inj hr
            have := ((hsome p hp).1 _ rfl).1
            dsimp only at this ⊢
            omega
          · rcases List.mem_cons.1 hd with rfl | hd
            · rw [hage] at ha
              obtain rfl := Option.some.inj ha
              exact (hsome p hp).1 _ rfl
            · exact (hsome p hp).2 d hd a ha
        · have e : olderUp n l (some (b, bestAge)) c = some (b, bestAge) := by
            simp [olderUp, hage, Nat.not_lt.2 hold]
          rw [e] at hnone hsome ⊢
          refine ⟨fun h => ?_, fun p hp => ⟨(hsome p hp).1, fun d hd a ha => ?_⟩⟩
          · cases (hnone h).1
          · rcases List.mem_cons.1 hd with rfl | hd
            · rw [hage] at ha
              obtain rfl := Option.some.inj ha
              have := (hsome p hp).1 _ rfl
              dsimp only at this
              omega
            · exact (hsome p hp).2 d hd a ha

theorem upAge_far {n : FrameNo} {x : LaneCarrier} {q : Seq} {t : Nat} {f : FrameNo} {r : Bool}
    (h : x.entry = some (.far q .up t (some f) r)) : upAge n x = some (frameAge n f) := by
  simp [upAge, h]

theorem laneSelect_of_no_down {link : LinkParams} {n : FrameNo} {running applyPending : Bool} {l : Lane}
    (h : hasDown l = false) : laneSelect link n running applyPending l =
      if running = true ∧ applyPending = false then (match chooseUp n l with
        | some c => startUpgrade link n c l
        | none => l) else l := by
  unfold laneSelect
  rw [h]
  cases running <;> cases applyPending <;> rfl

/-- The selection with no DOWN or URGENT entry in the table (R133, R134). -/
theorem laneSelect_upgrade (link : LinkParams) (n : FrameNo) (running applyPending : Bool) (l : Lane)
    (h : ∀ c e, (l.carriers.get c).entry = some e → ∃ q t f r, e = .far q .up t (some f) r) :
    let l' := laneSelect link n running applyPending l
    ((running = false ∨ applyPending = true ∨ ∀ c, (l.carriers.get c).entry = none) → l' = l) ∧
    (running = true → applyPending = false → (∃ c, (l.carriers.get c).entry.isSome = true) →
      ∃ c q t f r, (l.carriers.get c).entry = some (.far q .up t (some f) r) ∧
        (∀ d q' t' f' r', (l.carriers.get d).entry = some (.far q' .up t' (some f') r') →
          frameAge n f' ≤ frameAge n f ∧ (frameAge n f' = frameAge n f → c.toNat ≤ d.toNat)) ∧
        l'.announcement = some
          { kind := .up, count := link.announceCount, switchFrame := n + BitVec.ofNat 16 link.announceCount,
            members := [{ carrier := c, fromP := (l.carriers.get c).active, toP := t, origin := .far q,
                          arrival := some f }] } ∧
        l'.carriers = l.carriers.set c { l.carriers.get c with
          entry := none, answer := { kind := .granted, seq := q }, lastAnswered := q }) := by
  dsimp only
  have hup : hasDown l = false := hasDown_eq_false fun c e he => by
    obtain ⟨q, t, f, r, rfl⟩ := h c e he
    rfl
  obtain ⟨hnone, hsome⟩ := foldl_olderUp_oldest n l Carrier.all none (by decide) (by simp)
  rw [laneSelect_of_no_down hup]
  refine ⟨fun hstop => ?_, fun hrun hp ⟨holder, hholder⟩ => ?_⟩
  · split
    · next hgo =>
      have hempty : ∀ c, (l.carriers.get c).entry = none := by simpa [hgo] using hstop
      cases hc : chooseUp n l with
      | none => rfl
      | some c =>
        obtain ⟨q, t, f, r, he⟩ := chooseUp_entry hc
        rw [hempty c] at he
        cases he
    · rfl
  · rw [if_pos ⟨hrun, hp⟩]
    have hageHolder : upAge n (l.carriers.get holder) ≠ none := by
      obtain ⟨e, he⟩ := Option.isSome_iff_exists.1 hholder
      obtain ⟨q, t, f, r, rfl⟩ := h holder e he
      simp [upAge_far he]
    cases hbest : Carrier.all.foldl (olderUp n l) none with
    | none => exact absurd ((hnone hbest).2 holder holder.mem_all) hageHolder
    | some p =>
      have hc : chooseUp n l = some p.1 := by simp [chooseUp, hbest]
      have hage := foldl_olderUp_mem n l Carrier.all none (by simp) p hbest
      obtain ⟨q, t, f, r, he⟩ := chooseUp_entry hc
      obtain ⟨q', t', f', r', e⟩ := h _ _ he
      cases e
      rw [upAge_far he] at hage
      have hp : p.2 = frameAge n f' := (Option.some.inj hage).symm
      refine ⟨p.1, q, t, f', r, he, fun d q' t' g r' hd => ?_, ?_, ?_⟩
      · rw [← hp]
        exact (hsome p hbest).2 d d.mem_all _ (upAge_far hd)
      · rw [hc]
        simp only [startUpgrade, he]
        rfl
      · rw [hc]
        simp only [startUpgrade, he]
        rw [grantEntry_answered he (q := q) rfl]

/-! ### The withdrawal -/

theorem member?_singleton (m : Member) (a : Announcement) (h : a.members = [m]) (c : Carrier) :
    a.member? c = if m.carrier = c then some m else none := by
  unfold Announcement.member?
  rw [h]
  by_cases hc : m.carrier = c <;> simp [hc]

theorem restoreMember_hold {m : Member} {seq : Seq} (hm : m.origin = .far seq) {x : LaneCarrier} (h : x.hold = true) :
    restoreMember m x = refusedSeq seq x := by simp [restoreMember, hm, h, giveAnswer_refused]

theorem restoreMember_standing {m : Member} {seq : Seq} (hm : m.origin = .far seq) {x : LaneCarrier} (h : x.hold = false)
    (he : x.entry.isSome = true) : restoreMember m x = x := by simp [restoreMember, hm, h, he]

theorem restoreMember_returns {m : Member} {seq : Seq} (hm : m.origin = .far seq) {x : LaneCarrier} (h : x.hold = false)
    (he : x.entry = none) : restoreMember m x =
      { x with entry := some (.far seq .up m.toP m.arrival true), answer := { kind := .deferred, seq := seq } } := by
  simp [restoreMember, hm, h, he, giveAnswer]

/-- A withdrawn upgrade of one member (R135, R136). -/
theorem laneWithdraw_restores (w : WorkingSet) (l : Lane) (a : Announcement) (m : Member) (seq : Seq)
    (ha : l.announcement = some a) (hm : a.members = [m]) (ho : m.origin = .far seq) :
    let x := l.carriers.get m.carrier
    let l' := laneWithdraw w restoreMember l
    let y := l'.carriers.get m.carrier
    l'.announcement = none ∧ (∀ c, c ≠ m.carrier → l'.carriers.get c = l.carriers.get c) ∧
    y.active = x.active ∧ y.hold = x.hold ∧
    (x.hold = true → x.entry = none → y = refusedSeq seq x) ∧
    (x.hold = true → EntryRechecked (w.carriers.get m.carrier).txCeiling w.table.length (refusedSeq seq x) y) ∧
    (x.hold = false → x.entry = none →
      y = if m.toP = x.active + 1 ∧ m.toP ≤ (w.carriers.get m.carrier).txCeiling
        then { x with entry := some (.far seq .up m.toP m.arrival true), answer := { kind := .deferred, seq := seq } }
        else refusedSeq seq x) ∧
    (x.hold = false → x.entry.isSome = true → y = recheckFor w m.carrier x ∧
      EntryRechecked (w.carriers.get m.carrier).txCeiling w.table.length x y) := by
  obtain ⟨hann, hget⟩ := laneWithdraw_some (w := w) (deal := restoreMember) ha
  have hy : (laneWithdraw w restoreMember l).carriers.get m.carrier =
      recheckFor w m.carrier (restoreMember m (l.carriers.get m.carrier)) := by
    rw [hget, member?_singleton m a hm, if_pos rfl]
  have hrechecked (x : LaneCarrier) : EntryRechecked (w.carriers.get m.carrier).txCeiling w.table.length x
      (recheckFor w m.carrier x) := recheckEntry_rechecked ..
  dsimp only
  rw [hy]
  refine ⟨hann, fun c hc => ?_, ?_, ?_, fun hh he => ?_, fun hh => ?_, fun hh he => ?_, fun hh he => ?_⟩
  · rw [hget, member?_singleton m a hm, if_neg (Ne.symm hc)]
  · exact (recheckEntry_active ..).trans (restoreMember_active ..)
  · refine (recheckEntry_hold ..).trans ?_
    unfold restoreMember
    rw [ho]
    dsimp only
    split
    · simp
    · split <;> simp
  · rw [restoreMember_hold ho hh]
    exact (hrechecked (refusedSeq seq _)).1 he
  · rw [restoreMember_hold ho hh]
    exact hrechecked _
  · rw [restoreMember_returns ho hh he, (hrechecked _).2.1 seq m.toP m.arrival true rfl]
    refine ite_congr rfl (fun _ => rfl) fun _ => ?_
    generalize l.carriers.get m.carrier = x at he
    obtain ⟨entry, active, lastAnswered, answer, hold⟩ := x
    cases he
    rfl
  · rw [restoreMember_standing ho hh he]
    exact ⟨rfl, hrechecked _⟩

end Sys2Proof.Machine
end

section
/-! The abort as one act on every block (R138, R172 to R174). -/
namespace Sys2Proof.Machine

/-- Two states with the same items are the same. -/
theorem State.ext_items {s t : State} (hport : s.port = t.port) (hintake : s.intake = t.intake) (hest : s.est = t.est)
    (hmonitor : s.monitor = t.monitor) (hstaged : s.staged = t.staged) (hworking : s.working = t.working)
    (hpending : s.applyPending = t.applyPending) (hrau : s.rau = t.rau) (hsig : s.sig = t.sig) (hlane : s.lane = t.lane)
    (hpcu : s.pcu = t.pcu) (hmapper : s.mapper = t.mapper) (hfault : s.fault = t.fault) (hevents : s.events = t.events)
    (hhml : s.hml = t.hml) (hfree : s.freeCount = t.freeCount) (hqueue : s.pending = t.pending) : s = t := by
  cases s
  cases t
  simp_all only

/-! ### The lane's part -/

theorem withdrawable_iff (l : Lane) :
    withdrawable l = true ↔ ∃ a, l.announcement = some a ∧ a.kind = .up ∧ 2 ≤ a.count := by
  refine ⟨withdrawable_some, fun ⟨a, ha, hk, h2⟩ => ?_⟩
  simp [withdrawable, ha, hk, h2]

theorem withdrawable_eq_false_iff (l : Lane) :
    withdrawable l = false ↔ ∀ a, l.announcement = some a → a.kind = .down ∨ a.count ≤ 1 := by
  rw [Bool.eq_false_iff, Ne, withdrawable_iff]
  refine ⟨fun h a ha => ?_, fun h ⟨a, ha, hk, h2⟩ => ?_⟩
  · cases hk : a.kind with
    | down => exact .inl rfl
    | up => exact .inr (Nat.le_of_not_lt fun h2 => h ⟨a, ha, hk, h2⟩)
  · rcases h a ha with hd | hc
    · rw [hk] at hd; cases hd
    · omega

@[simp] theorem refuseFarSide_hold (x : LaneCarrier) : (refuseFarSide x).hold = x.hold := by
  unfold refuseFarSide
  (repeat' split) <;> simp

theorem refuseMember_hold (m : Member) (x : LaneCarrier) : (refuseMember m x).hold = x.hold := by
  unfold refuseMember
  split <;> simp

theorem refuseMember_eq (m : Member) (x : LaneCarrier) : refuseMember m x = match m.origin with
    | .far seq => refusedSeq seq x
    | .own _ => x := by
  unfold refuseMember
  cases m.origin <;> rfl

theorem abortWithdrawn_member {w : WorkingSet} {l : Lane} {a : Announcement} (ha : l.announcement = some a)
    (hw : withdrawable l = true) {c : Carrier} {m : Member} (hm : a.member? c = some m) :
    (abortWithdrawn w l).carriers.get c = recheckFor w c (refuseMember m (l.carriers.get c)) := by
  unfold abortWithdrawn
  rw [if_pos hw, (laneWithdraw_some ha).2, hm]

theorem abortWithdrawn_other {w : WorkingSet} {l : Lane} {c : Carrier}
    (h : ∀ a, l.announcement = some a → a.kind = .up → 2 ≤ a.count → a.member? c = none) :
    (abortWithdrawn w l).carriers.get c = l.carriers.get c := by
  unfold abortWithdrawn
  split
  · next hw =>
    obtain ⟨a, ha, hk, h2⟩ := withdrawable_some hw
    rw [(laneWithdraw_some ha).2, h a ha hk h2]
  · rfl

theorem abortWithdrawn_hold (w : WorkingSet) (l : Lane) (c : Carrier) :
    ((abortWithdrawn w l).carriers.get c).hold = (l.carriers.get c).hold := by
  unfold abortWithdrawn
  split
  · next hw =>
    obtain ⟨a, ha, -⟩ := withdrawable_some hw
    rw [(laneWithdraw_some ha).2]
    split
    · exact (recheckEntry_hold ..).trans (refuseMember_hold ..)
    · rfl
  · rfl

theorem laneAbort_hold (w : WorkingSet) (l : Lane) (c : Carrier) :
    ((laneAbort w l).carriers.get c).hold = (l.carriers.get c).hold := by
  rw [← abortWithdrawn_hold w l, laneAbort_get]
  split <;> simp

theorem laneAbort_txBound (w : WorkingSet) (l : Lane) (c : Carrier) :
    (laneAbort w l).txBound c = (abortWithdrawn w l).txBound c :=
  Lane.txBound_congr (by rw [laneAbort_announcement]) (by rw [laneAbort_get]; split <;> simp)

/-- The refusals leave no far entry and no absorbed seq. -/
theorem farSideRefused_entry (x : LaneCarrier) : (farSideRefused x).entry = none ∨
    ∃ m k t, (farSideRefused x).entry = some (.own m k t none) := by
  unfold farSideRefused
  rcases h : x.entry with _ | ⟨seq, k, t, arrival, restored⟩ | ⟨m, k, t, _ | seq⟩
  · exact .inl h
  · exact .inl rfl
  · exact .inr ⟨m, k, t, h⟩
  · exact .inr ⟨m, k, t, rfl⟩

/-- The ABORT entry taken after the refusals. -/
theorem intakeOwn_abort_entry (x : LaneCarrier) :
    ∃ maker, (intakeOwn .abort .urgent 0 (farSideRefused x)).entry = some (.own maker .urgent 0 none) := by
  obtain ⟨hnone, -, -, hown⟩ := intakeOwn_internalIntake .abort .urgent 0 (farSideRefused x)
  rcases farSideRefused_entry x with h | ⟨m, k, t, h⟩
  · exact ⟨.abort, by rw [hnone h]⟩
  · exact ⟨_, by rw [hown m k t none h]; simp; rfl⟩

theorem intakeOwn_abort_answer (x : LaneCarrier) :
    (intakeOwn .abort .urgent 0 (farSideRefused x)).answer = (farSideRefused x).answer ∧
    (intakeOwn .abort .urgent 0 (farSideRefused x)).lastAnswered = (farSideRefused x).lastAnswered := by
  obtain ⟨hnone, -, -, hown⟩ := intakeOwn_internalIntake .abort .urgent 0 (farSideRefused x)
  rcases farSideRefused_entry x with h | ⟨m, k, t, h⟩
  · rw [hnone h]; exact ⟨rfl, rfl⟩
  · rw [hown m k t none h]; exact ⟨rfl, rfl⟩

theorem farSideRefused_far {x : LaneCarrier} {seq : Seq} {k : ChangeKind} {t : Nat} {arrival : Option FrameNo} {restored : Bool}
    (h : x.entry = some (.far seq k t arrival restored)) : farSideRefused x = refusedSeq seq { x with entry := none } := by
  unfold farSideRefused
  rw [h]

/-- A re-check leaves a far entry to be refused, or refuses its seq and removes it. -/
theorem recheckEntry_far {ceiling T : Nat} {x : LaneCarrier} {seq : Seq} {k : ChangeKind} {t : Nat}
    {arrival : Option FrameNo} {restored : Bool} (h : x.entry = some (.far seq k t arrival restored)) :
    (∃ t', (recheckEntry ceiling T x).entry = some (.far seq k t' arrival restored)) ∨
    recheckEntry ceiling T x = refusedSeq seq { x with entry := none } := by
  obtain ⟨-, hup, hdown, -⟩ := recheckEntry_rechecked ceiling T x
  by_cases hk : k = .up
  · subst hk
    rw [hup _ _ _ _ h]
    split
    · exact .inl ⟨t, h⟩
    · exact .inr rfl
  · rw [hdown _ _ _ _ _ h hk]
    split
    · exact .inl ⟨_, rfl⟩
    · exact .inr rfl

/-- The answer that an abort gives a far entry's seq. -/
theorem farSideRefused_abortWithdrawn {w : WorkingSet} {l : Lane} {c : Carrier} {seq : Seq} {k : ChangeKind} {t : Nat}
    {arrival : Option FrameNo} {restored : Bool} (h : (l.carriers.get c).entry = some (.far seq k t arrival restored)) :
    (farSideRefused ((abortWithdrawn w l).carriers.get c)).answer = { kind := .refused, seq := seq } ∧
    (farSideRefused ((abortWithdrawn w l).carriers.get c)).lastAnswered = seq := by
  by_cases hm : ∃ a m, l.announcement = some a ∧ withdrawable l = true ∧ a.member? c = some m
  · obtain ⟨a, m, ha, hw, hm⟩ := hm
    rw [abortWithdrawn_member ha hw hm]
    have hentry : (refuseMember m (l.carriers.get c)).entry = some (.far seq k t arrival restored) := by
      rw [refuseMember_entry, h]
    rcases recheckEntry_far (ceiling := (w.carriers.get c).txCeiling) (T := w.table.length) hentry with ⟨t', ht⟩ | hgone
    · rw [recheckFor, farSideRefused_far ht]
      exact ⟨rfl, rfl⟩
    · rw [recheckFor, hgone]
      exact ⟨rfl, rfl⟩
  · have hsame : (abortWithdrawn w l).carriers.get c = l.carriers.get c := by
      refine abortWithdrawn_other fun a ha hk h2 => ?_
      rcases hm' : a.member? c with _ | m
      · rfl
      · exact absurd ⟨a, m, ha, (withdrawable_iff l).2 ⟨a, ha, hk, h2⟩, hm'⟩ hm
    rw [hsame, farSideRefused_far h]
    exact ⟨rfl, rfl⟩

/-- One carrier's items after the lane's part of an abort. -/
theorem laneAbort_items (w : WorkingSet) (l : Lane) (c : Carrier) : (laneAbort w l).carriers.get c =
    if (w.carriers.get c).enable = true ∧ 0 < (laneAbort w l).txBound c
    then intakeOwn .abort .urgent 0 (farSideRefused ((abortWithdrawn w l).carriers.get c))
    else farSideRefused ((abortWithdrawn w l).carriers.get c) := by
  rw [laneAbort_txBound, laneAbort_get, refuseFarSide_eq]

theorem isOwn_of_farSideRefused (x : LaneCarrier) : ∀ e ∈ (farSideRefused x).entry, e.isOwn = true := by
  intro e he
  rcases farSideRefused_entry x with h | ⟨m, k, t, h⟩
  · rw [h] at he; cases he
  · rw [h] at he; rw [← Option.some.inj he]; rfl

/-! ### The power control's part -/

theorem abortUnsettled_shadow (cause : AbortCause) (s : State) (c : Carrier) :
    ((abortUnsettled cause s).pcu.get c).shadow =
      if s.port.link = .running ∧ withdrawable s.lane = true then none else (s.pcu.get c).shadow := by
  unfold abortUnsettled
  rw [onEnabledRau_pcu]
  unfold abortLane
  cases hl : s.port.link <;> cases hw : withdrawable s.lane <;> simp [hl, hw, discardShadows, discardPowerShadows]

theorem abortUnsettled_atpc (cause : AbortCause) (s : State) (c : Carrier) :
    ((abortUnsettled cause s).pcu.get c).atpc = (s.pcu.get c).atpc ∧
    ((abortUnsettled cause s).pcu.get c).period = (s.pcu.get c).period := by
  rcases abortUnsettled_pcu cause s c with e | e <;> rw [e] <;> exact ⟨rfl, rfl⟩

theorem abortUnsettled_held (cause : AbortCause) (s : State) (c : Carrier) :
    powerHeld (abortUnsettled cause s) c = true := by
  simp [powerHeld, abortUnsettled]

theorem linkAbort_pcu (cause : AbortCause) (s : State) (c : Carrier) : (linkAbort cause s).pcu.get c =
    { s.pcu.get c with
      atpc := if powerHeld s c then (s.pcu.get c).atpc else 0
      shadow := if s.port.link = .running ∧ withdrawable s.lane = true then none else (s.pcu.get c).shadow } := by
  have heff := linkAbort_eff cause s c
  have hshadow := abortUnsettled_shadow cause s c
  obtain ⟨hatpc, hperiod⟩ := abortUnsettled_atpc cause s c
  rw [linkAbort_eq, settleHolds_pcu, abortUnsettled_held] at heff ⊢
  rw [← hshadow]
  cases hheld : powerHeld s c
  · rw [hheld] at heff
    simp only [settleHold] at heff ⊢
    simp [← heff, ← hperiod]
  · rw [hheld] at heff
    simp only [settleHold] at heff ⊢
    simp [← heff, ← hperiod, ← hatpc]

/-! ### The abort -/

theorem linkAbort_abortedLane (cause : AbortCause) {s : State} (hlink : s.port.link = .running) :
    AbortedLane s (linkAbort cause s) := by
  have hlane : (linkAbort cause s).lane = laneAbort s.working s.lane := by rw [linkAbort_lane, if_pos hlink]
  have hitems := laneAbort_items s.working s.lane
  have hen (c : Carrier) : (s.working.carriers.get c).enable = s.enabled c := (State.enabled_eq s c).symm
  refine ⟨fun c => ⟨linkAbort_active cause s c, ?_⟩, fun c e he => ?_, fun c hc hb => ?_,
    fun c seq kind target arrival restored he => ?_, fun a ha hk h2 => ?_, fun h => ?_, fun c => ?_⟩
  · rw [hlane, laneAbort_hold]
  · rw [hlane, hitems c] at he
    split at he
    · obtain ⟨maker, h⟩ := intakeOwn_abort_entry ((abortWithdrawn s.working s.lane).carriers.get c)
      rw [h] at he
      rw [← Option.some.inj he]
      rfl
    · exact isOwn_of_farSideRefused _ e he
  · rw [hlane] at hb ⊢
    rw [hitems c, if_pos ⟨(hen c).trans hc, hb⟩]
    exact intakeOwn_abort_entry _
  · rw [hlane, hitems c]
    have hfar := farSideRefused_abortWithdrawn (w := s.working) he
    split
    · obtain ⟨hanswer, hlast⟩ := intakeOwn_abort_answer ((abortWithdrawn s.working s.lane).carriers.get c)
      rwa [hanswer, hlast]
    · exact hfar
  · have hw : s.port.link = .running ∧ withdrawable s.lane = true := ⟨hlink, (withdrawable_iff _).2 ⟨a, ha, hk, h2⟩⟩
    refine ⟨by rw [linkAbort_announcement, if_pos hw], by rw [linkAbort_mapper, if_pos hw]; rfl, fun c => ?_⟩
    rw [linkAbort_pcu, if_pos hw]
  · have hw : ¬ (s.port.link = .running ∧ withdrawable s.lane = true) := fun h' => by
      rw [(withdrawable_eq_false_iff _).2 h] at h'
      exact Bool.false_ne_true h'.2
    refine ⟨by rw [linkAbort_announcement, if_neg hw], by rw [linkAbort_mapper, if_neg hw], fun c => ?_⟩
    rw [linkAbort_pcu, if_neg hw]
  · refine ⟨(abortWithdrawn s.working s.lane).carriers.get c, fun a m ha hk h2 hm => ?_, fun h => abortWithdrawn_other h, ?_⟩
    · rw [abortWithdrawn_member ha ((withdrawable_iff _).2 ⟨a, ha, hk, h2⟩) hm, refuseMember_eq]
      exact recheckEntry_rechecked ..
    · rw [hlane, hitems c, ← State.enabled_eq]
      split
      · exact intakeOwn_internalIntake ..
      · rfl

theorem linkAbort_events (cause : AbortCause) (s : State) : (linkAbort cause s).events =
    latchAll s.port.current s.events [{ kind := .aborted, index := 0, edge := some .enter }] := by
  have e' : (linkAbort cause s).events = (abortLane ((s.setFault { s.fault with state := .aborted, cause := some cause }).report
    [{ kind := .aborted, index := 0, edge := some .enter }])).events := rfl
  rw [e', abortLane_events]
  rfl

theorem linkAbort_fault (cause : AbortCause) (s : State) :
    (linkAbort cause s).fault = { s.fault with state := .aborted, cause := some cause } := by
  rw [linkAbort_eq]
  simp [abortUnsettled]

/-- Every abort is the one act of R173 and R174. -/
theorem linkAbort_effect (cause : AbortCause) (s : State) : AbortEffect cause s (linkAbort cause s) := by
  refine ⟨?_, linkAbort_fault cause s, ?_, fun c hc hk => ?_, fun c h => ?_, fun c => ?_, fun hlost => ?_,
    linkAbort_abortedLane cause⟩
  · apply State.ext_items <;> simp
  · rw [linkAbort_events]
    exact latchedAfter_of_mem _ _ _ { kind := .aborted, index := 0, edge := some .enter } (by simp)
  · rw [linkAbort_rau_get, if_pos hc, cancelRequest, if_pos (by simpa [isOpen] using hk)]
    rfl
  · rw [linkAbort_rau_get]
    split
    · next hc =>
      rcases h with h | h
      · rw [hc] at h; cases h
      · rw [cancelRequest, if_neg (by simp [isOpen, h])]
    · rfl
  · rw [linkAbort_pcu]
    exact ⟨rfl, rfl, rfl⟩
  · have hrun : ¬ s.port.link = .running := by rw [hlost]; decide
    have hw : ¬ (s.port.link = .running ∧ withdrawable s.lane = true) := fun h => hrun h.1
    refine ⟨by rw [linkAbort_lane, if_neg hrun], by rw [linkAbort_mapper, if_neg hw], fun c => ?_⟩
    rw [linkAbort_pcu, if_neg hw]

/-! ### ABORT and the FAULT input -/

theorem takeFaultLevel_same (s : State) : takeFaultLevel s.fault.faultLevel s = s := if_pos rfl

theorem takeFaultLevel_clear {s : State} (h : s.fault.faultLevel = true) :
    takeFaultLevel false s = s.setFault { s.fault with faultLevel := false } := by
  simp [takeFaultLevel, h]

/-- The state of an assertion of the FAULT input before the demand is derived again. -/
def faultAsserted (s : State) : State :=
  (s.setFault { s.fault with faultLevel := true }).report [occurrence .localFault 0]

theorem takeFaultLevel_assert {s : State} (h : s.fault.faultLevel = false) :
    takeFaultLevel true s = rederiveDemand (abortDemand s) .localFault (faultAsserted s) := by
  simp [takeFaultLevel, h, faultAsserted]

theorem abortDemand_faultAsserted {s : State} (h : s.working.link.abortOnLocal = true) :
    abortDemand (faultAsserted s) = true :=
  (abortDemand_iff _).2 (.inl ⟨h, rfl⟩)

/-- The level of the FAULT input alone raises no demand where LOCAL is no source. -/
theorem abortDemand_faultAsserted_off {s : State} (h : s.working.link.abortOnLocal = false) :
    abortDemand (faultAsserted s) = abortDemand s := by
  have e (t : State) (ht : t.working = s.working) (hf : t.fault.farFault = s.fault.farFault) :
      abortDemand t = Carrier.all.any (farStands s) := by
    have hfar : farStands t = farStands s := by
      funext c
      unfold farStands
      rw [ht, hf, State.enabled_congr ht]
    simp [abortDemand, localStands, ht, h, hfar]
  rw [e (faultAsserted s) rfl rfl, e s rfl rfl]

theorem takeFaultLevel_assert_cases {s : State} (h : s.fault.faultLevel = false) :
    (s.working.link.abortOnLocal = true ∧ s.fault.state = .running ∧ abortDemand s = false ∧
      takeFaultLevel true s = linkAbort .localFault (faultAsserted s)) ∨
    ((s.working.link.abortOnLocal = false ∨ s.fault.state = .aborted ∨ abortDemand s = true) ∧
      takeFaultLevel true s = faultAsserted s) := by
  rw [takeFaultLevel_assert h]
  unfold rederiveDemand
  have hst : (faultAsserted s).fault.state = s.fault.state := rfl
  cases hl : s.working.link.abortOnLocal
  · rw [abortDemand_faultAsserted_off hl]
    exact .inr ⟨.inl rfl, by cases abortDemand s <;> rfl⟩
  · rw [abortDemand_faultAsserted hl, hst]
    cases hd : abortDemand s
    · cases hs : s.fault.state
      · exact .inl ⟨rfl, rfl, rfl, rfl⟩
      · exact .inr ⟨.inr (.inl rfl), rfl⟩
    · exact .inr ⟨.inr (.inr rfl), rfl⟩

/-- An abort's effect from a state that has latched a report first. -/
theorem AbortEffect.of_report {cause : AbortCause} {s t : State} {rs : List Report} (h : AbortEffect cause (s.report rs) t) :
    AbortEffect cause s t := by
  obtain ⟨h1, h2, h3, h4, h5, h6, h7, h8⟩ := h
  refine ⟨h1, h2, fun hon hedge => h3 ?_ ?_, h4, h5, h6, h7, h8⟩
  · exact (congrArg KindMode.on (latchAll_mode _ s.events rs .aborted)).trans hon
  · exact (congrArg (fun m : KindMode => m.edge.selects (some .enter)) (latchAll_mode _ s.events rs .aborted)).trans hedge

/-- Settles O54, by the one act of `linkAbort` and the guards of ABORT and of the FAULT input. -/
theorem abortActsOnEveryBlock : Obligations.AbortActsOnEveryBlock := by
  refine ⟨fun tag s hs => ⟨fun hrun => ⟨linkAbort .host s, ?_, linkAbort_effect .host s⟩, fun hab => ?_⟩,
    fun s => ⟨fun level h => ?_, fun h => ?_, fun h => ⟨takeFaultLevel true s, rfl, ?_⟩⟩⟩
  · exact exec_of_accept (m := .abort) (by decide) hs tag (congrArg accept (if_pos hrun))
  · exact exec_of_accept (m := .abort) (by decide) hs tag (congrArg accept (if_neg (by rw [hab]; decide)))
  · rw [h]
    exact congrArg _ (takeFaultLevel_same s)
  · exact congrArg _ (takeFaultLevel_clear h)
  · have hlatched : LatchedAfter s.events (faultAsserted s).events .localFault 0 none :=
      latchedAfter_of_mem _ _ _ (occurrence .localFault 0) (by simp)
    rcases takeFaultLevel_assert_cases h with ⟨hl, hst, hd, e⟩ | ⟨hno, e⟩
    · rw [e]
      refine ⟨?_, fun _ _ _ => AbortEffect.of_report (linkAbort_effect .localFault (faultAsserted s)), fun hno => ?_⟩
      · rw [linkAbort_events]
        exact LatchedAfter.latchAll hlatched _ _
      · rcases hno with hno | hno | hno
        · rw [hl] at hno; cases hno
        · rw [hst] at hno; cases hno
        · rw [hd] at hno; cases hno
    · rw [e]
      refine ⟨hlatched, fun hl hst hd => ?_, fun _ => rfl⟩
      rcases hno with hno | hno | hno
      · rw [hl] at hno; cases hno
      · rw [hst] at hno; cases hno
      · rw [hd] at hno; cases hno

end Sys2Proof.Machine
end

section
/-! Frame loss (R5, R7): muted, cleared, and the conditions left. -/
namespace Sys2Proof.Machine

theorem Carrier.toNat_inj {c d : Carrier} (h : c.toNat = d.toNat) : c = d := by
  revert h
  cases c <;> cases d <;> decide

/-- An edge of a condition is among its reports exactly when the condition changes so. -/
theorem enter_mem_conditionEdge (k : EventKind) (i : Nat) :
    { kind := k, index := i, edge := some .enter } ∈ conditionEdge k i false true := List.mem_singleton.2 rfl

theorem leave_mem_conditionEdge (k : EventKind) (i : Nat) :
    { kind := k, index := i, edge := some .leave } ∈ conditionEdge k i true false := List.mem_singleton.2 rfl

theorem isShed_iff (e : ClassEntry) : isShed e = true ↔ e.state = .shed := by simp [isShed]

/-- A class that enters SHED is reported (R166). -/
theorem enter_mem_shedEdges {before after : Eight ClassEntry} {k : Cls} (hb : (before.get k).state ≠ .shed)
    (ha : (after.get k).state = .shed) :
    { kind := .classShed, index := k.toNat, edge := some .enter } ∈ shedEdges before after := by
  refine List.mem_flatMap.2 ⟨k, k.mem_all, ?_⟩
  rw [(isShed_iff _).2 ha, Bool.eq_false_iff.2 fun h => hb ((isShed_iff _).1 h)]
  exact enter_mem_conditionEdge ..

/-- A class that leaves SHED is reported (R166). -/
theorem leave_mem_shedEdges {before after : Eight ClassEntry} {k : Cls} (hb : (before.get k).state = .shed)
    (ha : (after.get k).state ≠ .shed) :
    { kind := .classShed, index := k.toNat, edge := some .leave } ∈ shedEdges before after := by
  refine List.mem_flatMap.2 ⟨k, k.mem_all, ?_⟩
  rw [(isShed_iff _).2 hb, Bool.eq_false_iff.2 fun h => ha ((isShed_iff _).1 h)]
  exact leave_mem_conditionEdge ..

/-! ### The port -/

/-- The link FRAME_LOST with the watch stopped, before the muting delivery (R5). -/
def linkLost (s : State) : State :=
  (s.setPort { s.port with link := .frameLost, watch := none }).report
    [{ kind := .frameLost, index := 0, edge := some .enter }]

theorem takeFrameLoss_port (s : State) : (takeFrameLoss s).port = (muteSettings (linkLost s)).port := by
  rw [takeFrameLoss_eq, State.setFault_port]
  simp [lossOfBlocks, lossSig, lossMapper, lossMuted, lossEst, linkLost]

theorem muteSettings_of_current {s : State} {n : FrameNo} (h : s.port.current = some n) : (muteSettings s).port =
    { s.port with
      settings := .ofFn fun c =>
        if s.enabled c then
          some { ((s.port.settings.get c).getD (gatherSettings s n c)) with
                 frame := n, output := .muted, slotMap := [] }
        else s.port.settings.get c } := by
  simp [muteSettings, h]

/-- The settings that a frame loss delivers to an enabled carrier. -/
theorem takeFrameLoss_settings {s : State} {n : FrameNo} (h : s.port.current = some n) {c : Carrier}
    (hc : s.enabled c = true) : ∃ default, (takeFrameLoss s).port.settings.get c =
      some { ((s.port.settings.get c).getD default) with frame := n, output := .muted, slotMap := [] } := by
  refine ⟨gatherSettings (linkLost s) n c, ?_⟩
  rw [takeFrameLoss_port, muteSettings_of_current (s := linkLost s) h, Four.get_ofFn]
  exact if_pos hc

theorem takeFrameLoss_numbers {s : State} {n : FrameNo} (h : s.port.current = some n) :
    (takeFrameLoss s).port = { s.port with
      link := .frameLost, watch := none, settings := (takeFrameLoss s).port.settings } := by
  rw [takeFrameLoss_port, muteSettings_of_current (s := linkLost s) h]
  rfl

/-! ### The events -/

theorem lossReports_frameLost (s : State) : { kind := .frameLost, index := 0, edge := some .enter } ∈ lossReports s :=
  List.mem_cons_self ..

theorem lossReports_fade {s : State} {c : Carrier} (h : (s.est.get c).fade = true) :
    { kind := .fadeAlarm, index := c.toNat, edge := some .leave } ∈ lossReports s := by
  refine List.mem_cons_of_mem _ (List.mem_append_left _ (List.mem_append_left _ (mem_perCarrier.2 ⟨c, ?_⟩)))
  rw [unseed, h]
  exact leave_mem_conditionEdge ..

theorem lossReports_sig {s : State} {c : Carrier} (h : (s.sig.get c).lost = true) :
    { kind := .sigLost, index := c.toNat, edge := some .leave } ∈ lossReports s := by
  refine List.mem_cons_of_mem _ (List.mem_append_right _ (mem_perCarrier.2 ⟨c, ?_⟩))
  rw [h]
  exact leave_mem_conditionEdge ..

theorem lossReports_shed {s : State} {k : Cls} (hb : (s.mapper.active.entries.get k).state ≠ .shed)
    (ha : (lossEntry (s.mapper.active.entries.get k)).state = .shed) :
    { kind := .classShed, index := k.toNat, edge := some .enter } ∈ lossReports s :=
  List.mem_cons_of_mem _ (List.mem_append_left _ (List.mem_append_right _
    (enter_mem_shedEdges hb (by rwa [Eight.get_ofFn]))))

/-- A frame loss reports FADE_ALARM and SIG_LOST of the carriers on which they hold, and of no other. -/
theorem lossReports_conditions {s : State} {r : Report} (h : r ∈ lossReports s) :
    (r.kind = .fadeAlarm → ∃ c, r.index = c.toNat ∧ (s.est.get c).fade = true) ∧
    (r.kind = .sigLost → ∃ c, r.index = c.toNat ∧ (s.sig.get c).lost = true) := by
  rcases List.mem_cons.1 h with rfl | h
  · exact ⟨nofun, nofun⟩
  · rcases List.mem_append.1 h with h | h
    · rcases List.mem_append.1 h with h | h
      · obtain ⟨c, h⟩ := mem_perCarrier.1 h
        obtain ⟨hk, hi, hne, -⟩ := mem_conditionEdge h
        exact ⟨fun _ => ⟨c, hi, by simpa using hne⟩, fun h => (by rw [hk] at h; cases h)⟩
      · have hk := mem_shedEdges h
        exact ⟨fun h => (by rw [hk] at h; cases h), fun h => (by rw [hk] at h; cases h)⟩
    · obtain ⟨c, h⟩ := mem_perCarrier.1 h
      obtain ⟨hk, hi, hne, -⟩ := mem_conditionEdge h
      exact ⟨fun h => (by rw [hk] at h; cases h), fun _ => ⟨c, hi, by simpa using hne⟩⟩

theorem takeFrameLoss_latched {s : State} {r : Report} (h : r ∈ lossReports s) :
    LatchedAfter s.events (takeFrameLoss s).events r.kind r.index r.edge := by
  rw [takeFrameLoss_events]
  exact latchedAfter_of_mem _ _ _ r h

theorem takeFrameLoss_conditionsLeft (s : State) (c : Carrier) : ConditionsLeft c s (takeFrameLoss s) := by
  refine ⟨fun h => takeFrameLoss_latched (lossReports_fade h), fun h => ?_,
    fun h => takeFrameLoss_latched (lossReports_sig h), fun h => ?_⟩
  · rw [takeFrameLoss_events]
    refine latched_latchAll_of_not_mem _ _ _ _ _ fun r hr => ?_
    rw [← not_and_or]
    rintro ⟨hk, hi⟩
    obtain ⟨d, hd, hfade⟩ := (lossReports_conditions hr).1 hk
    rw [← Carrier.toNat_inj (hi.symm.trans hd), h] at hfade
    cases hfade
  · rw [takeFrameLoss_events]
    refine latched_latchAll_of_not_mem _ _ _ _ _ fun r hr => ?_
    rw [← not_and_or]
    rintro ⟨hk, hi⟩
    obtain ⟨d, hd, hlost⟩ := (lossReports_conditions hr).2 hk
    rw [← Carrier.toNat_inj (hi.symm.trans hd), h] at hlost
    cases hlost

/-! ### The statement -/

theorem rxFrameLoss_items (x : RxContext) :
    (rxFrameLoss x).phase = .acquire ∧ (rxFrameLoss x).request.kind = .none ∧ (rxFrameLoss x).armed = none ∧
    (rxFrameLoss x).timer = none ∧ (rxFrameLoss x).refused = none ∧ (rxFrameLoss x).linked = false ∧
    (rxFrameLoss x).guardOpen = false ∧ (rxFrameLoss x).m = x.m ∧ (rxFrameLoss x).upCounter = x.upCounter := by
  simp [rxFrameLoss]

theorem takeFrameLoss_entries (s : State) (k : Cls) :
    (takeFrameLoss s).mapper.active.entries.get k = lossEntry (s.mapper.active.entries.get k) := by
  rw [takeFrameLoss_mapper]
  exact Eight.get_ofFn ..

theorem takeFrameLoss_fault (s : State) : (takeFrameLoss s).fault = { s.fault with farFault := .fill false } := by
  have e : (takeFrameLoss s).fault =
      { (onEnabledRau (lossMuted s) fun _ x => rxFrameLoss x).fault with farFault := .fill false } := rfl
  rw [e, onEnabledRau_fault]
  simp [lossMuted, lossEst]

theorem takeFrameLoss_kept (s : State) :
    (takeFrameLoss s).monitor = s.monitor ∧ (takeFrameLoss s).intake = s.intake ∧
    (takeFrameLoss s).working = s.working ∧ (takeFrameLoss s).applyPending = s.applyPending := by
  rw [takeFrameLoss_eq]
  simp [lossOfBlocks, lossSig, lossMapper, lossMuted, lossEst]

/-- Settles O16, by what `takeFrameLoss` makes of each block and by its reports, `lossReports`. -/
theorem frameLossMutesAndClears : Obligations.FrameLossMutesAndClears := by
  refine ⟨fun n s hlink hwatch hcur => ?_, fun s h => ?_⟩
  · have hexec : exec .frameLoss s = .next (takeFrameLoss s) :=
      congrArg _ (if_pos (by rw [hlink, hwatch]; rfl))
    have hport := takeFrameLoss_numbers hcur
    have hfault := takeFrameLoss_fault s
    obtain ⟨hmonitor, hintake, hworking, hpending⟩ := takeFrameLoss_kept s
    refine ⟨takeFrameLoss s, hexec, by rw [hport], by rw [hport], by rw [hport]; exact hcur, by rw [hport], by rw [hport],
      by rw [hport], fun c hc => ?_, fun c old hc hold => ?_, takeFrameLoss_latched (lossReports_frameLost s),
      fun c => by rw [takeFrameLoss_est]; exact Four.get_fill .., fun c hc => ?_, fun c hc => ?_,
      by rw [takeFrameLoss_lane]; rfl, fun c => by rw [takeFrameLoss_lane]; exact Four.get_ofFn ..,
      fun c => takeFrameLoss_pcu s c, fun c => by rw [takeFrameLoss_sig]; exact Four.get_fill ..,
      takeFrameLoss_conditionsLeft s, fun c => by rw [takeFrameLoss_mapper]; exact Four.get_fill ..,
      by rw [takeFrameLoss_mapper]; rfl, fun k => ⟨fun hheld => ?_, fun hheld => ?_⟩,
      fun c => by rw [hfault]; exact Four.get_fill .., by rw [hfault], by rw [hfault], by rw [hfault], hmonitor, hintake,
      takeFrameLoss_staged s, hworking, hpending, takeFrameLoss_hml s⟩
    · obtain ⟨default, e⟩ := takeFrameLoss_settings hcur hc
      exact ⟨_, e, rfl, rfl, rfl⟩
    · obtain ⟨default, e⟩ := takeFrameLoss_settings hcur hc
      rw [e, hold]
      rfl
    · rw [takeFrameLoss_rau, if_pos hc]
      exact rxFrameLoss_items _
    · rw [takeFrameLoss_rau, if_neg (by rw [hc]; decide)]
    · have e : lossEntry (s.mapper.active.entries.get k) = { state := .shed, placed := 0, segments := [] } :=
        if_pos (by simpa using hheld)
      refine ⟨by rw [takeFrameLoss_entries, e], takeFrameLoss_latched (lossReports_shed (fun hshed => ?_) (by rw [e]))⟩
      rcases hheld with hheld | hheld <;> rw [hshed] at hheld <;> cases hheld
    · rw [takeFrameLoss_entries]
      refine if_neg fun hno => ?_
      simp only [Bool.or_eq_true, decide_eq_true_eq] at hno
      rcases hheld with hheld | hheld <;> rw [hheld] at hno <;> simp at hno
  · refine congrArg _ (if_neg fun hboth => ?_)
    simp only [Bool.and_eq_true, decide_eq_true_eq] at hboth
    rcases h with h | h
    · rw [h] at hboth; exact absurd hboth.1 (by decide)
    · rw [h] at hboth; exact absurd hboth.2 (by decide)

end Sys2Proof.Machine
end

section
/-! Fields taken: an invalid one, the loss of signalling (R110, R112 to R115). -/
namespace Sys2Proof.Machine

/-! ### The loss of signalling, item by item -/

theorem enterSigLost_rau (d : Carrier) (s : State) :
    (enterSigLost d s).rau = s.rau.set d (rxSigLoss (s.rau.get d)) := by
  rw [enterSigLost_eq, applyLossPolicy_rau, State.setLane_rau, settleHolds_rau]
  rfl

theorem powerHeld_sigLostUnsettled (d : Carrier) (s : State) (c : Carrier) :
    powerHeld (sigLostUnsettled d s) c = if c = d then true else powerHeld s c := by
  have e : (sigLostUnsettled d s).sig = s.sig.set d { s.sig.get d with lost := true, invalidRun := 0, validRun := 0 } := rfl
  have hw : (sigLostUnsettled d s).enabled c = s.enabled c := State.enabled_congr rfl c
  unfold powerHeld
  rw [e, hw, Four.get_set]
  split
  · simp
  · rfl

theorem enterSigLost_pcu (d : Carrier) (s : State) (c : Carrier) : (enterSigLost d s).pcu.get c =
    if c = d ∧ powerHeld s d = false then { s.pcu.get c with atpc := 0 } else s.pcu.get c := by
  have e : (enterSigLost d s).pcu.get c =
      settleHold (s.params c) (powerHeld s c) (powerHeld (sigLostUnsettled d s) c) (s.pcu.get c) := by
    rw [enterSigLost_eq, (applyLossPolicy_same ..).1, State.setLane_pcu, settleHolds_pcu]
    rfl
  rw [e, powerHeld_sigLostUnsettled]
  by_cases hc : c = d
  · subst hc
    cases h : powerHeld s c <;> simp [settleHold]
  · cases h : powerHeld s c <;> simp [settleHold, hc]

/-- A carrier's lane items after its loss of signalling (R112, R113, R114). -/
def sigLostItems (drops : Bool) (x : LaneCarrier) : LaneCarrier :=
  if drops then intakeOwn .sigloss .urgent 0 x else refuseFarUp x

/-- The loss policy enters a downgrade to P0 (R113). -/
def dropsToBase (s : State) (c : Carrier) : Bool := (s.params c).lossPolicy = .dropToBase && 0 < s.lane.txBound c

theorem intakeOwn_refuseFarUp (maker : Internal) (kind : ChangeKind) (target : Nat) (x : LaneCarrier) :
    intakeOwn maker kind target (refuseFarUp x) = intakeOwn maker kind target x := by
  obtain ⟨entry, active, lastAnswered, answer, hold⟩ := x
  rcases entry with _ | ⟨seq, k, t, arrival, restored⟩ | ⟨m, k, t, ab⟩
  · rfl
  · cases k <;> rfl
  · rfl

theorem refuseFarUp_active (x : LaneCarrier) : (refuseFarUp x).active = x.active := by
  unfold refuseFarUp
  split <;> simp

theorem enterSigLost_lane (d : Carrier) (s : State) :
    (enterSigLost d s).lane = s.lane.update d (sigLostItems (dropsToBase s d)) := by
  have hl : (settleHolds s (sigLostUnsettled d s)).lane = s.lane := rfl
  have hbound : (s.lane.update d refuseFarUp).txBound d = s.lane.txBound d := txBound_update refuseFarUp_active
  have htwice : (s.lane.update d refuseFarUp).update d (intakeOwn .sigloss .urgent 0) =
      s.lane.update d (intakeOwn .sigloss .urgent 0) := by
    unfold Lane.update
    dsimp only
    rw [Four.get_set_same, intakeOwn_refuseFarUp]
    congr 1
    refine Four.ext_get fun c => ?_
    simp only [Four.get_set]
    split <;> rfl
  rw [enterSigLost_eq, hl]
  unfold applyLossPolicy dropToBase dropsToBase sigLostItems
  have hp : ((settleHolds s (sigLostUnsettled d s)).setLane (s.lane.update d refuseFarUp)).params d = s.params d := rfl
  rw [hp]
  cases (s.params d).lossPolicy
  · rw [State.setLane_lane, hbound]
    by_cases hb : 0 < s.lane.txBound d
    · simpa [hb] using htwice
    · simp [hb]
  · simp

theorem enterSigLost_events (d : Carrier) (s : State) : (enterSigLost d s).events =
    latchAll s.port.current s.events [{ kind := .sigLost, index := d.toNat, edge := some .enter }] := by
  rw [enterSigLost_eq, applyLossPolicy_events]
  rfl

/-! ### A field that is not taken, an invalid one -/

/-- The state in which the carrier's field has been taken in this frame (R13). -/
def fieldNoted (c : Carrier) (s : State) : State :=
  s.setPortCarriers (s.port.carriers.set c { s.port.carriers.get c with fieldTaken := true })

section
variable {c : Carrier} {s : State}

theorem takeFieldIn_discarded (h : s.port.link = .frameLost ∨ s.port.current = none ∨ s.enabled c = false ∨
    (s.port.carriers.get c).fieldTaken = true) (field : Option RawField) : takeFieldIn c field s = s := by
  refine if_pos ?_
  rcases h with h | h | h | h <;> simp [State.frameRunning, h]

theorem takeFieldIn_taken (hlink : s.port.link = .running) (hcur : s.port.current.isSome = true) (hc : s.enabled c = true)
    (hnew : (s.port.carriers.get c).fieldTaken = false) (field : Option RawField) :
    takeFieldIn c field s = handField c field (fieldNoted c s) :=
  if_neg (by simp [State.frameRunning, hlink, hcur, hc, hnew])

theorem exec_fieldIn_taken (hlink : s.port.link = .running) (hcur : s.port.current.isSome = true) (hc : s.enabled c = true)
    (hnew : (s.port.carriers.get c).fieldTaken = false) (field : Option RawField) :
    exec (.fieldIn c field) s = .next (handField c field (fieldNoted c s)) :=
  congrArg Host.Outcome.next (takeFieldIn_taken hlink hcur hc hnew field)

theorem handField_invalid {field : Option RawField} (h : ∀ f ∈ field, fieldValid s.working.length f = false) :
    handField c field s = takeInvalid c s := by
  unfold handField
  split
  · rfl
  · next f => rw [if_neg (by rw [show s.working.table.length = s.working.length from rfl, h f rfl]; decide)]

theorem takeInvalid_lost (h : (s.sig.get c).lost = true) :
    takeInvalid c s = s.setSig (s.sig.set c { s.sig.get c with validRun := 0 }) := if_pos h

theorem takeInvalid_counts (h : (s.sig.get c).lost = false) (hrun : (s.sig.get c).invalidRun + 1 < s.working.link.sigLoss) :
    takeInvalid c s = s.setSig (s.sig.set c { s.sig.get c with invalidRun := (s.sig.get c).invalidRun + 1 }) :=
  (if_neg (by rw [h]; decide)).trans (if_neg (by omega))

theorem takeInvalid_loses (h : (s.sig.get c).lost = false) (hrun : s.working.link.sigLoss ≤ (s.sig.get c).invalidRun + 1) :
    takeInvalid c s = enterSigLost c s := (if_neg (by rw [h]; decide)).trans (if_pos hrun)
end

/-! ### The loss at sig_loss -/

theorem rxSigLoss_items {x : RxContext} (h : x.phase = .acquire ∨ x.phase = .working) :
    (rxSigLoss x).phase = .siglost ∧ (rxSigLoss x).request.kind = .none ∧ (rxSigLoss x).armed = x.armed ∧
    (rxSigLoss x).active = x.active ∧ (rxSigLoss x).hold = x.hold ∧ (rxSigLoss x).m = x.m ∧
    (rxSigLoss x).refused = x.refused := by
  have e : rxSigLoss x = { cancelRequest x with phase := .siglost } := by
    rcases h with h | h <;> simp [rxSigLoss, h]
  rw [e]
  simp

/-- An internal URGENT entry to P0, taken by the intake. -/
theorem intakeOwn_base_entry (maker : Internal) (x : LaneCarrier) :
    ∃ m ab, (intakeOwn maker .urgent 0 x).entry = some (.own m .urgent 0 ab) := by
  obtain ⟨hnone, hup, hdown, hown⟩ := intakeOwn_internalIntake maker .urgent 0 x
  rcases h : x.entry with _ | ⟨seq, k, t, arrival, restored⟩ | ⟨m, k, t, ab⟩
  · exact ⟨maker, none, by rw [hnone h]⟩
  · by_cases hk : k = .up
    · subst hk
      exact ⟨maker, none, by rw [hup _ _ _ _ h]; rfl⟩
    · exact ⟨maker, some seq, by rw [hdown _ _ _ _ _ h hk]; simp⟩
  · exact ⟨_, ab, by rw [hown _ _ _ _ h]; simp; rfl⟩

theorem intakeOwn_answer {maker : Internal} {kind : ChangeKind} {target : Nat} {x : LaneCarrier}
    (h : ∀ seq t arrival restored, x.entry ≠ some (.far seq .up t arrival restored)) :
    (intakeOwn maker kind target x).answer = x.answer ∧ (intakeOwn maker kind target x).lastAnswered = x.lastAnswered := by
  obtain ⟨hnone, -, hdown, hown⟩ := intakeOwn_internalIntake maker kind target x
  rcases he : x.entry with _ | ⟨seq, k, t, arrival, restored⟩ | ⟨m, k, t, ab⟩
  · rw [hnone he]; exact ⟨rfl, rfl⟩
  · have hk : k ≠ .up := fun hk => h seq t arrival restored (by rw [he, hk])
    rw [hdown _ _ _ _ _ he hk]; exact ⟨rfl, rfl⟩
  · rw [hown _ _ _ _ he]; exact ⟨rfl, rfl⟩

theorem refuseFarUp_filter (x : LaneCarrier) :
    (refuseFarUp x).entry = x.entry.filter fun e => e.isOwn || e.kind ≠ .up := by
  obtain ⟨entry, active, lastAnswered, answer, hold⟩ := x
  rcases entry with _ | ⟨seq, k, t, arrival, restored⟩ | ⟨m, k, t, ab⟩
  · rfl
  · cases k <;> rfl
  · rfl

/-- A far UP is answered REFUSED at the loss, whatever the policy. -/
theorem sigLostItems_far_up {x : LaneCarrier} {seq : Seq} {t : Nat} {arrival : Option FrameNo} {restored : Bool}
    (h : x.entry = some (.far seq .up t arrival restored)) (drops : Bool) :
    (sigLostItems drops x).answer = { kind := .refused, seq := seq } ∧ (sigLostItems drops x).lastAnswered = seq := by
  obtain ⟨entry, active, lastAnswered, answer, hold⟩ := x
  cases h
  cases drops <;> exact ⟨rfl, rfl⟩

theorem sigLostItems_other {x : LaneCarrier}
    (h : ∀ seq t arrival restored, x.entry ≠ some (.far seq .up t arrival restored)) (drops : Bool) :
    (sigLostItems drops x).answer = x.answer ∧ (sigLostItems drops x).lastAnswered = x.lastAnswered := by
  cases drops
  · have e : sigLostItems false x = x := refuseFarUp_of_no_far_up h
    rw [e]
    exact ⟨rfl, rfl⟩
  · exact intakeOwn_answer h

theorem sigLostItems_active (drops : Bool) (x : LaneCarrier) : (sigLostItems drops x).active = x.active := by
  cases drops
  · exact refuseFarUp_active x
  · exact intakeOwn_active ..

/-- Settles O35, by the items of `enterSigLost`. -/
theorem signallingIsLostAtSigLoss : Obligations.SignallingIsLostAtSigLoss := by
  intro c field s hlink hcur hc hnew hinvalid hlost hrun
  have hexec : exec (.fieldIn c field) s = .next (enterSigLost c (fieldNoted c s)) := by
    rw [exec_fieldIn_taken hlink hcur hc hnew, handField_invalid (s := fieldNoted c s) hinvalid,
      takeInvalid_loses (s := fieldNoted c s) hlost hrun]
  have hrau : (enterSigLost c (fieldNoted c s)).rau = s.rau.set c (rxSigLoss (s.rau.get c)) := enterSigLost_rau ..
  have hpcu (d : Carrier) : (enterSigLost c (fieldNoted c s)).pcu.get d =
      if d = c ∧ powerHeld s c = false then { s.pcu.get d with atpc := 0 } else s.pcu.get d := enterSigLost_pcu ..
  have hlane : (enterSigLost c (fieldNoted c s)).lane = s.lane.update c (sigLostItems (dropsToBase s c)) :=
    enterSigLost_lane ..
  have hitems : (enterSigLost c (fieldNoted c s)).lane.carriers.get c =
      sigLostItems (dropsToBase s c) (s.lane.carriers.get c) := by
    rw [hlane, Lane.update_get, if_pos rfl]
  refine ⟨enterSigLost c (fieldNoted c s), hexec, ?_, enterSigLost_port .., enterSigLost_sig .., ?_, fun d hd => ⟨?_, ?_, ?_⟩,
    fun hphase => ?_, fun hheld => ?_, fun hheld => ?_, ?_, ?_, fun seq target arrival restored he => ?_, fun hp => ?_,
    fun hp hb => ⟨?_, ?_⟩, fun hno => ?_, fun hp hb => ?_⟩
  · apply State.ext_items <;> simp [fieldNoted]
  · rw [enterSigLost_events]
    exact latchedAfter_of_mem _ _ _ { kind := .sigLost, index := c.toNat, edge := some .enter } (by simp)
  · rw [hrau, Four.get_set_of_ne _ _ hd]
  · rw [hpcu, if_neg fun h => hd h.1]
  · rw [hlane, Lane.update_get, if_neg hd]
  · rw [hrau, Four.get_set_same]
    exact rxSigLoss_items hphase
  · rw [hpcu, if_pos ⟨rfl, hheld⟩]
  · rw [hpcu, if_neg (by rw [hheld]; simp)]
  · rw [hlane, Lane.update_announcement]
  · unfold State.txActive
    rw [hitems, sigLostItems_active]
  · rw [hitems]
    exact sigLostItems_far_up he _
  · have hdrops : dropsToBase s c = false := by simp [dropsToBase, hp]
    rw [hitems, hdrops]
    exact refuseFarUp_filter _
  · have hdrops : dropsToBase s c = true := by simp [dropsToBase, hp, hb]
    rw [hitems, hdrops]
    exact intakeOwn_base_entry ..
  · have hdrops : dropsToBase s c = true := by simp [dropsToBase, hp, hb]
    rw [hitems, hdrops]
    exact intakeOwn_internalIntake ..
  · rw [hitems]
    exact sigLostItems_other hno _
  · have hdrops : dropsToBase s c = false := by simp [dropsToBase, hb]
    rw [hitems, hdrops]
    intro e he
    have he' : (s.lane.carriers.get c).entry.filter (fun e => e.isOwn || e.kind ≠ .up) = some e :=
      (refuseFarUp_filter _).symm.trans he
    exact (Option.filter_eq_some_iff.1 he').1

end Sys2Proof.Machine
end

section
/-! The receive unit's switches and its taking of a valid field, clause by clause (R85 to R94). -/
namespace Sys2Proof.Machine

/-! ### Rebasing a request (R91) -/

theorem rebaseRequest_stands {x : RxContext} (h : KeepsStepRules x.active x.request) : rebaseRequest x = x := by
  unfold rebaseRequest
  split
  · next t hk ht =>
    have := h.1 hk
    rw [ht] at this
    exact if_pos (Option.some.inj this)
  · next t hk ht =>
    obtain ⟨v, hv, hlt⟩ := h.2 (.inl hk)
    rw [ht] at hv
    rw [Option.some.inj hv, if_pos hlt]
  · next t hk ht =>
    obtain ⟨v, hv, hlt⟩ := h.2 (.inr hk)
    rw [ht] at hv
    rw [Option.some.inj hv, if_pos hlt]
  · rfl

theorem cancelRequest_open {x : RxContext} (h : x.request.kind ≠ .none) : cancelRequest x = replaceByNone x :=
  if_pos (by simpa [isOpen] using h)

theorem cancelRequest_none {x : RxContext} (h : x.request.kind = .none) : cancelRequest x = x :=
  if_neg (by simp [isOpen, h])

theorem rebaseRequest_cancels {x : RxContext} (h : ¬ KeepsStepRules x.active x.request)
    (ht : x.request.target.isSome = true) : rebaseRequest x = replaceByNone x := by
  obtain ⟨t, ht⟩ := Option.isSome_iff_exists.1 ht
  unfold KeepsStepRules at h
  rw [ht] at h
  have hopen : x.request.kind ≠ .none := fun hk => h (by simp [hk])
  unfold rebaseRequest
  rw [ht]
  cases hk : x.request.kind with
  | none => exact absurd hk hopen
  | up => exact (if_neg fun e => h (by simp [hk, e])).trans (cancelRequest_open hopen)
  | down => exact (if_neg fun e => h (by simp [hk, e])).trans (cancelRequest_open hopen)
  | urgent => exact (if_neg fun e => h (by simp [hk, e])).trans (cancelRequest_open hopen)

/-- Rebasing moves the request and its timer alone. -/
theorem rebaseRequest_same (x : RxContext) : rebaseRequest x =
    { x with request := (rebaseRequest x).request, timer := (rebaseRequest x).timer } := by
  have hcancel : cancelRequest x = { x with request := (cancelRequest x).request, timer := (cancelRequest x).timer } := by
    unfold cancelRequest
    split <;> rfl
  unfold rebaseRequest
  (repeat' split) <;> first | rfl | exact hcancel

theorem rebaseRequest_closed {x : RxContext} (h : x.request.kind = .none) : rebaseRequest x = x :=
  rebaseRequest_stands ⟨by simp [h], by simp [h]⟩

/-- The request of y is that of x rebased, when y took it from a context z that rebased it. -/
theorem requestRebased_of {a : Nat} {x y z : RxContext} (ha : z.active = a) (hr : z.request = x.request)
    (ht : z.timer = x.timer) (hyr : y.request = (rebaseRequest z).request) (hyt : y.timer = (rebaseRequest z).timer)
    (hc : y.consumed = z.consumed) : RequestRebased a x y := by
  unfold RequestRebased
  rw [hyr, hyt, hc, ← hr, ← ht, ← ha]
  refine ⟨fun h => by rw [rebaseRequest_stands h]; exact ⟨rfl, rfl⟩, fun h htarget => ?_⟩
  rw [rebaseRequest_cancels h htarget]
  exact ⟨rfl, rfl⟩

/-! ### A switch (R90, R94) -/

/-- A context switched to another profile, before its request is rebased. -/
def switched (env : RxEnv) (next : Nat) (x : RxContext) : RxContext :=
  reloadHold env (guardSwitch x.active next { x with armed := none, active := next })

section
variable {env : RxEnv} {next : Nat} {x : RxContext}

theorem switchTo_same (h : next = x.active) : switchTo env next x = ({ x with armed := none }, []) := if_pos h

theorem switchTo_changes (h : next ≠ x.active) : switchTo env next x =
    (rebaseRequest (switched env next x), [occurrence .profileChangeRx env.carrier.toNat]) := if_neg h

theorem switched_eq (env : RxEnv) (next : Nat) (x : RxContext) : switched env next x =
    { x with armed := none, active := next, hold := (switched env next x).hold, m := (switched env next x).m,
             upCounter := (switched env next x).upCounter, guardOpen := (switched env next x).guardOpen } := by
  have h := guardSwitch_eq x.active next { x with armed := none, active := next }
  unfold switched
  rw [h]
  rfl

theorem switchTo_active (env : RxEnv) (next : Nat) (x : RxContext) : (switchTo env next x).1.active = next := by
  by_cases h : next = x.active
  · rw [switchTo_same h, h]
  · rw [switchTo_changes h, rebaseRequest_same, switched_eq]

theorem switched_hold (env : RxEnv) (next : Nat) (x : RxContext) :
    (switched env next x).hold = env.link.holdFrames * (switched env next x).m := rfl

theorem switched_up (h : x.active < next) : (switched env next x).upCounter = 0 ∧
    (switched env next x).guardOpen = true ∧ (switched env next x).m = x.m := by
  simp [switched, guardSwitch, h, reloadHold]

theorem switched_down (h : next < x.active) : (switched env next x).upCounter = x.upCounter ∧
    (switched env next x).guardOpen = false ∧
    (switched env next x).m = if x.guardOpen = true then min 8 (2 * x.m) else x.m := by
  have hnot : ¬ x.active < next := by omega
  cases hg : x.guardOpen <;> simp [switched, guardSwitch, h, hnot, reloadHold, hg]
end

/-! ### The steps of R85 -/

section
variable {env : RxEnv} {seeded : Bool} {p : FieldParts} {ans : AnsKind} {seq : Seq} {x : RxContext}

theorem noteAnswer_eq (ans : AnsKind) (seq : Seq) (x : RxContext) : noteAnswer ans seq x =
    { x with lastAnswer := some { kind := ans, seq := seq }
             consumed := if ans = .granted ∨ ans = .refused ∨ ans = .cancelled then seq else x.consumed } := by
  cases ans <;> rfl

theorem noteLinked_eq (env : RxEnv) (seeded : Bool) (x : RxContext) : noteLinked env seeded x =
    { x with linked := true
             phase := if x.phase = .acquire ∧ seeded = true then .working else x.phase
             hold := if x.phase = .acquire ∧ seeded = true then env.link.holdFrames * x.m else x.hold } := by
  unfold noteLinked
  by_cases h : x.phase = .acquire ∧ seeded = true
  · rw [if_pos (by simpa using h), if_pos h, if_pos h]
    rfl
  · rw [if_neg (by simpa using h), if_neg h, if_neg h]

/-- The field answers the open request (R86). -/
def AnswersRequest (p : FieldParts) (x : RxContext) : Prop := x.request.kind ≠ .none ∧ p.ansSeq = x.request.seq

theorem takeAnswer_other (h : ¬ AnswersRequest p x) : takeAnswer env ans p.ansSeq x = x :=
  if_neg (by simpa [isOpen, AnswersRequest] using h)

theorem takeAnswer_if (h : AnswersRequest p x) : (isOpen x && decide (p.ansSeq = x.request.seq)) = true := by
  simpa [isOpen, AnswersRequest] using h

theorem takeAnswer_deferred (h : AnswersRequest p x) : takeAnswer env .deferred p.ansSeq x = { x with timer := some 0 } :=
  if_pos (takeAnswer_if h)

theorem takeAnswer_silent (h : ans = .none ∨ ans = .cancelled) : takeAnswer env ans p.ansSeq x = x := by
  rcases h with rfl | rfl <;> exact ite_self _

theorem takeAnswer_granted_unarmed (h : x.armed = none) : takeAnswer env .granted p.ansSeq x = x := by
  unfold takeAnswer
  split
  · simp only [h]
  · rfl

theorem takeAnswer_granted {armed : Armed} {target : Nat} (h : AnswersRequest p x) (ha : x.armed = some armed)
    (ht : x.request.target = some target) : takeAnswer env .granted p.ansSeq x =
      { x with
        armed := some { armed with grant := some { seq := x.request.seq, kind := x.request.kind, target := target } }
        request := { seq := x.request.seq, kind := .none, target := none }
        timer := none } := by
  refine (if_pos (takeAnswer_if h)).trans ?_
  simp only [ha, ht]
  rfl

/-- The refused-target memory after a refusal (R86). -/
def rememberedTarget (env : RxEnv) (x : RxContext) : Option Refused :=
  match x.request.target, env.frame with
  | some t, some n => some { target := t, frame := n }
  | _, _ => x.refused

theorem takeAnswer_refused (h : AnswersRequest p x) : takeAnswer env .refused p.ansSeq x =
    { x with
      request := { seq := x.request.seq, kind := .none, target := none }
      timer := none
      refused := rememberedTarget env x
      hold := if x.request.kind = .up ∧ x.hostPause = false ∧ env.scan = false then env.link.holdFrames * x.m
        else x.hold } := by
  refine (if_pos (takeAnswer_if h)).trans ?_
  unfold rememberedTarget
  by_cases hup : x.request.kind = .up
  · cases hp : x.hostPause <;> cases hs : env.scan <;> cases ht : x.request.target <;> cases hn : env.frame <;>
      simp [hup, reloadUnlessPaused, isPaused, closeRequest, reloadHold, hp, hs]
  · cases ht : x.request.target <;> cases hn : env.frame <;> simp [hup, closeRequest]

/-- The answer part moves the request, its timer, the memory, the hold count and a grant, and nothing else. -/
theorem takeAnswer_same (env : RxEnv) (ans : AnsKind) (p : FieldParts) (x : RxContext) : takeAnswer env ans p.ansSeq x =
    { x with request := (takeAnswer env ans p.ansSeq x).request, timer := (takeAnswer env ans p.ansSeq x).timer,
             refused := (takeAnswer env ans p.ansSeq x).refused, hold := (takeAnswer env ans p.ansSeq x).hold,
             armed := (takeAnswer env ans p.ansSeq x).armed } := by
  by_cases h : AnswersRequest p x
  · cases ans with
    | none => rw [takeAnswer_silent (.inl rfl)]
    | cancelled => rw [takeAnswer_silent (.inr rfl)]
    | deferred => rw [takeAnswer_deferred h]
    | refused => rw [takeAnswer_refused h]
    | granted =>
      cases ha : x.armed with
      | none => rw [takeAnswer_granted_unarmed ha]
      | some armed =>
        cases ht : x.request.target with
        | none =>
          have e : takeAnswer env .granted p.ansSeq x = x := (if_pos (takeAnswer_if h)).trans (by simp only [ha, ht])
          rw [e]
        | some target => rw [takeAnswer_granted h ha ht]
  · rw [takeAnswer_other h]

theorem takeAnswer_unarmed (h : x.armed = none) : (takeAnswer env ans p.ansSeq x).armed = none := by
  by_cases ha : AnswersRequest p x
  · cases ans with
    | none => rwa [takeAnswer_silent (.inl rfl)]
    | cancelled => rwa [takeAnswer_silent (.inr rfl)]
    | deferred => rwa [takeAnswer_deferred ha]
    | refused => rwa [takeAnswer_refused ha]
    | granted => rwa [takeAnswer_granted_unarmed h]
  · rwa [takeAnswer_other ha]

theorem takeAnswer_armed (h : x.armed.isSome = true) : (takeAnswer env ans p.ansSeq x).armed.isSome = true := by
  obtain ⟨armed, ha⟩ := Option.isSome_iff_exists.1 h
  by_cases hr : AnswersRequest p x
  · cases ans with
    | none => rwa [takeAnswer_silent (.inl rfl)]
    | cancelled => rwa [takeAnswer_silent (.inr rfl)]
    | deferred => rwa [takeAnswer_deferred hr]
    | refused => rwa [takeAnswer_refused hr]
    | granted =>
      cases ht : x.request.target with
      | none =>
        have e : takeAnswer env .granted p.ansSeq x = x := (if_pos (takeAnswer_if hr)).trans (by simp only [ha, ht])
        rwa [e]
      | some target => rw [takeAnswer_granted hr ha ht]; rfl
  · rwa [takeAnswer_other hr]

theorem slipTest_armed {a : Nat} (h : x.armed.isSome = true) : slipTest env a x = (x, []) := by
  obtain ⟨ar, h⟩ := Option.isSome_iff_exists.1 h
  simp [slipTest, h]

theorem slipTest_same {a : Nat} (h : a = x.active) : slipTest env a x = (x, []) := by simp [slipTest, h]

theorem slipTest_idle {a : Nat} (h : ¬ (x.phase = .acquire ∨ x.phase = .working)) : slipTest env a x = (x, []) := by
  refine if_neg fun hc => ?_
  simp only [Bool.and_eq_true, Bool.or_eq_true, decide_eq_true_eq] at hc
  exact h hc.1.1

/-- A context slipped to a profile, before its request is rebased (R93). -/
def slipped (env : RxEnv) (profile : Nat) (x : RxContext) : RxContext := reloadHold env { x with active := profile }

theorem slipTest_slips {a : Nat} (hp : x.phase = .acquire ∨ x.phase = .working) (ha : x.armed = none) (h : a ≠ x.active) :
    slipTest env a x = (rebaseRequest (slipped env a x), [occurrence .profileSlip env.carrier.toNat]) := by
  refine if_pos ?_
  rcases hp with hp | hp <;> simp [hp, ha, h]


/-! ### The announcement part (R88, R92) -/

theorem armSwitch_eq (next count : Nat) (x : RxContext) : armSwitch next count x =
    { x with armed := some { next := next, remaining := count,
                             grant := x.armed.bind fun ar => if ar.next = next then ar.grant else none } } := by
  unfold armSwitch
  cases x.armed <;> rfl

/-- The context once the field announces no switch and completes none: an armed switch is withdrawn (R92). -/
def withdrawn (env : RxEnv) (x : RxContext) : RxContext :=
  match x.armed with
  | some ar => withdrawSwitch env ar.grant x
  | none => x

theorem withdrawn_unarmed (h : x.armed = none) : withdrawn env x = x := by
  unfold withdrawn
  rw [h]

theorem withdrawn_armed {ar : Armed} (h : x.armed = some ar) : withdrawn env x = withdrawSwitch env ar.grant x := by
  unfold withdrawn
  rw [h]

/-- A granted UP whose switch is withdrawn opens again (R92). -/
def Reopens (env : RxEnv) (g : Grant) (x : RxContext) : Prop :=
  x.phase = .working ∧ env.running = true ∧ g.target = x.active + 1 ∧ g.target ≤ env.ceiling

theorem withdrawSwitch_granted {g : Grant} (hk : g.kind = .up) (hs : g.seq = x.request.seq) (h : Reopens env g x) :
    withdrawSwitch env (some g) x =
      { x with armed := none, request := { seq := g.seq, kind := .up, target := some g.target }, timer := some 0 } := by
  obtain ⟨hp, hr, ht, hc⟩ := h
  unfold withdrawSwitch
  dsimp only
  rw [if_pos (by simp [hk, hs]), if_pos (by simp only [hp, hr, hc, ← ht, decide_true, Bool.and_self])]

theorem withdrawSwitch_dropped {g : Grant} (hk : g.kind = .up) (hs : g.seq = x.request.seq) (h : ¬ Reopens env g x) :
    withdrawSwitch env (some g) x = replaceByNone { x with armed := none } := by
  unfold withdrawSwitch
  dsimp only
  rw [if_pos (by simp [hk, hs])]
  refine if_neg fun hc => h ?_
  simpa [Reopens, and_assoc] using hc

theorem withdrawSwitch_plain {grant : Option Grant} (h : ∀ g ∈ grant, ¬ (g.kind = .up ∧ g.seq = x.request.seq)) :
    withdrawSwitch env grant x = { x with armed := none } := by
  cases grant with
  | none => rfl
  | some g => exact if_neg (by simpa using h g rfl)

theorem withdrawn_plain (h : ∀ armed ∈ x.armed, ∀ g ∈ armed.grant, ¬ (g.kind = .up ∧ g.seq = x.request.seq)) :
    withdrawn env x = { x with armed := none } := by
  cases ha : x.armed with
  | none => rw [withdrawn_unarmed ha, ← ha]
  | some ar => rw [withdrawn_armed ha, withdrawSwitch_plain (h ar ha)]

theorem withdrawn_same (env : RxEnv) (x : RxContext) : withdrawn env x =
    { x with armed := none, request := (withdrawn env x).request, timer := (withdrawn env x).timer } := by
  by_cases h : ∀ armed ∈ x.armed, ∀ g ∈ armed.grant, ¬ (g.kind = .up ∧ g.seq = x.request.seq)
  · rw [withdrawn_plain h]
  · push Not at h
    obtain ⟨ar, ha, g, hg, hk, hs⟩ := h
    have e : withdrawn env x = withdrawSwitch env (some g) x := by
      rw [withdrawn_armed ha, show ar.grant = some g from hg]
    rw [e]
    by_cases hr : Reopens env g x
    · rw [withdrawSwitch_granted hk hs hr]
    · rw [withdrawSwitch_dropped hk hs hr]
      rfl

theorem takeAnnouncement_arms (h : p.next ≠ 15) : takeAnnouncement env p x = (armSwitch p.next p.count x, []) := if_neg h

theorem takeAnnouncement_completes {ar : Armed} (h : p.next = 15) (ha : x.armed = some ar) (hc : p.active = ar.next) :
    takeAnnouncement env p x = switchTo env ar.next x := by
  simp [takeAnnouncement, h, ha, hc]

theorem takeAnnouncement_withdraws (h : p.next = 15) (hc : ∀ ar ∈ x.armed, p.active ≠ ar.next) :
    takeAnnouncement env p x = (withdrawn env x, []) := by
  unfold takeAnnouncement withdrawn
  rw [if_pos h]
  cases ha : x.armed with
  | none => rfl
  | some ar => exact if_neg (hc ar ha)

/-! ### The field in one -/

theorem takeField_eq (hphase : x.phase ≠ .standby) : takeField env seeded p ans x =
    let announced := takeAnnouncement env p (noteAnswer ans p.ansSeq x)
    let slip := slipTest env p.active (takeAnswer env ans p.ansSeq announced.1)
    (noteLinked env seeded slip.1, announced.2 ++ slip.2) := if_neg hphase

theorem takeField_arms (hphase : x.phase ≠ .standby) (h : p.next ≠ 15) : takeField env seeded p ans x =
    (noteLinked env seeded (takeAnswer env ans p.ansSeq (armSwitch p.next p.count (noteAnswer ans p.ansSeq x))), []) := by
  rw [takeField_eq hphase, takeAnnouncement_arms h]
  dsimp only
  rw [slipTest_armed (takeAnswer_armed (by rw [armSwitch_eq]; rfl))]
  rfl

theorem takeField_completes (hphase : x.phase ≠ .standby) {ar : Armed} (h : p.next = 15) (ha : x.armed = some ar)
    (hc : p.active = ar.next) : takeField env seeded p ans x =
      (noteLinked env seeded (takeAnswer env ans p.ansSeq (switchTo env ar.next (noteAnswer ans p.ansSeq x)).1),
        (switchTo env ar.next (noteAnswer ans p.ansSeq x)).2) := by
  have ha' : (noteAnswer ans p.ansSeq x).armed = some ar := by rw [noteAnswer_eq]; exact ha
  rw [takeField_eq hphase, takeAnnouncement_completes h ha' hc]
  dsimp only
  rw [slipTest_same, List.append_nil]
  rw [takeAnswer_same, hc]
  exact (switchTo_active ..).symm

theorem takeField_withdraws (hphase : x.phase ≠ .standby) (h : p.next = 15) (hc : ∀ ar ∈ x.armed, p.active ≠ ar.next) :
    takeField env seeded p ans x =
      let slip := slipTest env p.active (takeAnswer env ans p.ansSeq (withdrawn env (noteAnswer ans p.ansSeq x)))
      (noteLinked env seeded slip.1, slip.2) := by
  rw [takeField_eq hphase, takeAnnouncement_withdraws h (by rw [noteAnswer_eq]; exact hc)]
  rfl

end

end Sys2Proof.Machine
end

section
/-! What the receive unit makes of a valid field, clause by clause (R85 to R94). -/
namespace Sys2Proof.Machine

/-- Steps 2 to 4 of R85: the announcement part, the answer part, the slip test. -/
def actOnField (env : RxEnv) (p : FieldParts) (ans : AnsKind) (x : RxContext) : RxContext × List Report :=
  let announced := takeAnnouncement env p x
  let slip := slipTest env p.active (takeAnswer env ans p.ansSeq announced.1)
  (slip.1, announced.2 ++ slip.2)

/-- The items that steps 2 to 4 of R85 leave alone. -/
def SameNotes (x y : RxContext) : Prop :=
  y.phase = x.phase ∧ y.hostPause = x.hostPause ∧ y.lastAnswer = x.lastAnswer ∧ y.consumed = x.consumed

section
variable {env : RxEnv} {seeded : Bool} {p : FieldParts} {ans : AnsKind} {x : RxContext}

theorem takeField_eq_act (hphase : x.phase ≠ .standby) : takeField env seeded p ans x =
    (noteLinked env seeded (actOnField env p ans (noteAnswer ans p.ansSeq x)).1,
      (actOnField env p ans (noteAnswer ans p.ansSeq x)).2) := if_neg hphase

theorem SameNotes.trans {x y z : RxContext} (h1 : SameNotes x y) (h2 : SameNotes y z) : SameNotes x z := by
  obtain ⟨a1, b1, c1, d1⟩ := h1
  obtain ⟨a2, b2, c2, d2⟩ := h2
  exact ⟨a2.trans a1, b2.trans b1, c2.trans c1, d2.trans d1⟩

theorem rebaseRequest_sameNotes (x : RxContext) : SameNotes x (rebaseRequest x) := by
  rw [rebaseRequest_same]
  exact ⟨rfl, rfl, rfl, rfl⟩

theorem switchTo_sameNotes (env : RxEnv) (next : Nat) (x : RxContext) : SameNotes x (switchTo env next x).1 := by
  by_cases h : next = x.active
  · rw [switchTo_same h]
    exact ⟨rfl, rfl, rfl, rfl⟩
  · rw [switchTo_changes h]
    refine SameNotes.trans ?_ (rebaseRequest_sameNotes _)
    rw [switched_eq]
    exact ⟨rfl, rfl, rfl, rfl⟩

theorem takeAnnouncement_sameNotes (env : RxEnv) (p : FieldParts) (x : RxContext) :
    SameNotes x (takeAnnouncement env p x).1 := by
  by_cases hn : p.next = 15
  · by_cases hc : ∀ ar ∈ x.armed, p.active ≠ ar.next
    · rw [takeAnnouncement_withdraws hn hc, withdrawn_same]
      exact ⟨rfl, rfl, rfl, rfl⟩
    · push Not at hc
      obtain ⟨ar, ha, hc⟩ := hc
      rw [takeAnnouncement_completes hn ha hc]
      exact switchTo_sameNotes ..
  · rw [takeAnnouncement_arms hn, armSwitch_eq]
    exact ⟨rfl, rfl, rfl, rfl⟩

theorem takeAnswer_sameNotes (env : RxEnv) (p : FieldParts) (ans : AnsKind) (x : RxContext) :
    SameNotes x (takeAnswer env ans p.ansSeq x) := by
  rw [takeAnswer_same]
  exact ⟨rfl, rfl, rfl, rfl⟩

theorem slipTest_sameNotes (env : RxEnv) (a : Nat) (x : RxContext) : SameNotes x (slipTest env a x).1 := by
  unfold slipTest
  split
  · exact SameNotes.trans (y := slipped env a x) ⟨rfl, rfl, rfl, rfl⟩ (rebaseRequest_sameNotes _)
  · exact ⟨rfl, rfl, rfl, rfl⟩

theorem actOnField_sameNotes (env : RxEnv) (p : FieldParts) (ans : AnsKind) (x : RxContext) :
    SameNotes x (actOnField env p ans x).1 :=
  ((takeAnnouncement_sameNotes env p x).trans (takeAnswer_sameNotes ..)).trans (slipTest_sameNotes ..)

/-! ### The answer part with no armed switch (R86) -/

/-- What the answer part leaves of the request, the timer, the memory and the hold count, with no switch armed. -/
theorem takeAnswer_unarmed_cases (h : x.armed = none) :
    (¬ AnswersRequest p x ∨ ans = .none ∨ ans = .granted ∨ ans = .cancelled → takeAnswer env ans p.ansSeq x = x) := by
  rintro (hno | rfl | rfl | rfl)
  · exact takeAnswer_other hno
  · exact takeAnswer_silent (.inl rfl)
  · exact takeAnswer_granted_unarmed h
  · exact takeAnswer_silent (.inr rfl)

theorem takeAnswer_keeps_armed (h : ¬ (AnswersRequest p x ∧ ans = .granted ∧ x.request.target.isSome = true)) :
    (takeAnswer env ans p.ansSeq x).armed = x.armed := by
  by_cases ha : AnswersRequest p x
  · cases ans with
    | none => rw [takeAnswer_silent (.inl rfl)]
    | cancelled => rw [takeAnswer_silent (.inr rfl)]
    | deferred => rw [takeAnswer_deferred ha]
    | refused => rw [takeAnswer_refused ha]
    | granted =>
      have ht : x.request.target = none := Option.not_isSome_iff_eq_none.1 fun ht => h ⟨ha, rfl, ht⟩
      exact congrArg RxContext.armed ((if_pos (takeAnswer_if ha)).trans
        (by simp only [ht]; cases x.armed <;> rfl))
  · rw [takeAnswer_other ha]

/-- Rebasing leaves the request or closes it. -/
theorem rebaseRequest_cases (x : RxContext) : rebaseRequest x = x ∨ (rebaseRequest x).request.kind = .none := by
  unfold rebaseRequest
  (repeat' split) <;> first | exact .inl rfl | exact .inr (cancelRequest_kind x)

theorem answer_silent_of {ans : AnsKind} (h : ans ≠ .refused ∧ ans ≠ .deferred) :
    ans = .none ∨ ans = .granted ∨ ans = .cancelled := by
  cases ans with
  | none => exact .inl rfl
  | granted => exact .inr (.inl rfl)
  | cancelled => exact .inr (.inr rfl)
  | refused => exact absurd rfl h.1
  | deferred => exact absurd rfl h.2

/-! ### Arming (R88) -/

/-- A field that announces a switch arms it, and a granted request gives it its grant. -/
theorem act_arms (hn : p.next ≠ 15) :
    let z := (actOnField env p ans x).1
    z.active = x.active ∧ z.m = x.m ∧ z.guardOpen = x.guardOpen ∧ z.upCounter = x.upCounter ∧
    ∃ grant, z.armed = some { next := p.next, remaining := p.count, grant := grant } ∧
      (∀ target, AnswersRequest p x → ans = .granted → x.request.target = some target →
        grant = some { seq := x.request.seq, kind := x.request.kind, target := target } ∧
        z.request = { seq := x.request.seq, kind := .none, target := none } ∧ z.timer = none) ∧
      (¬ AnswersRequest p x ∨ ans ≠ .granted →
        (∀ armed, x.armed = some armed → armed.next = p.next → grant = armed.grant) ∧
        ((∀ armed ∈ x.armed, armed.next ≠ p.next) → grant = none)) := by
  have e : (actOnField env p ans x).1 = takeAnswer env ans p.ansSeq (armSwitch p.next p.count x) := by
    unfold actOnField
    rw [takeAnnouncement_arms hn]
    dsimp only
    rw [slipTest_armed (takeAnswer_armed (by rw [armSwitch_eq]; rfl))]
  dsimp only
  rw [e, armSwitch_eq]
  have hkept : (∀ armed, x.armed = some armed → armed.next = p.next →
        (x.armed.bind fun ar => if ar.next = p.next then ar.grant else none) = armed.grant) ∧
      ((∀ armed ∈ x.armed, armed.next ≠ p.next) →
        (x.armed.bind fun ar => if ar.next = p.next then ar.grant else none) = none) := by
    refine ⟨fun armed ha h => by simp [ha, h], fun h => ?_⟩
    cases ha : x.armed with
    | none => rfl
    | some ar => exact if_neg (h ar ha)
  generalize (x.armed.bind fun ar => if ar.next = p.next then ar.grant else none) = held at hkept
  by_cases hg : AnswersRequest p x ∧ ans = .granted ∧ x.request.target.isSome = true
  · obtain ⟨ha, rfl, ht⟩ := hg
    obtain ⟨target, ht⟩ := Option.isSome_iff_exists.1 ht
    rw [takeAnswer_granted (x := { x with armed := some { next := p.next, remaining := p.count, grant := held } }) ha rfl ht]
    refine ⟨rfl, rfl, rfl, rfl, _, rfl, fun t _ _ ht' => ?_, fun hno => absurd ha (hno.resolve_right fun h => h rfl)⟩
    rw [ht] at ht'
    obtain rfl := Option.some.inj ht'
    exact ⟨rfl, rfl, rfl⟩
  · have hsame := takeAnswer_same env ans p { x with armed := some { next := p.next, remaining := p.count, grant := held } }
    have harmed := takeAnswer_keeps_armed (env := env)
      (x := { x with armed := some { next := p.next, remaining := p.count, grant := held } }) hg
    refine ⟨by rw [hsame], by rw [hsame], by rw [hsame], by rw [hsame], held, harmed,
      fun target ha hgr ht => absurd ⟨ha, hgr, by rw [ht]; rfl⟩ hg, fun _ => hkept⟩

/-! ### Completion (R90, R92) -/

theorem act_completes {armed : Armed} (hn : p.next = 15) (ha : x.armed = some armed) (hc : p.active = armed.next) :
    actOnField env p ans x = (takeAnswer env ans p.ansSeq (switchTo env armed.next x).1, (switchTo env armed.next x).2) := by
  unfold actOnField
  rw [takeAnnouncement_completes hn ha hc]
  dsimp only
  rw [slipTest_same, List.append_nil]
  rw [takeAnswer_same, hc]
  exact (switchTo_active ..).symm

/-- R92, where the armed switch names the profile in force. -/
theorem act_completes_same {armed : Armed} (hn : p.next = 15) (ha : x.armed = some armed) (hc : p.active = armed.next)
    (hsame : armed.next = x.active) :
    let z := (actOnField env p ans x).1
    z.active = x.active ∧ z.armed = none ∧ z.m = x.m ∧ z.guardOpen = x.guardOpen ∧ z.upCounter = x.upCounter := by
  dsimp only
  rw [act_completes hn ha hc, switchTo_same hsame]
  have harmed := takeAnswer_unarmed (env := env) (ans := ans) (p := p) (x := { x with armed := none }) rfl
  have hrest := takeAnswer_same env ans p { x with armed := none }
  exact ⟨by rw [hrest], harmed, by rw [hrest], by rw [hrest], by rw [hrest]⟩

/-- R90, R91, R94: a completion that changes the profile. -/
theorem act_completes_changed {armed : Armed} (hn : p.next = 15) (ha : x.armed = some armed) (hc : p.active = armed.next)
    (hne : armed.next ≠ x.active) :
    let z := (actOnField env p ans x).1
    z.active = armed.next ∧ z.armed = none ∧
    occurrence .profileChangeRx env.carrier.toNat ∈ (actOnField env p ans x).2 ∧
    z.hold = env.link.holdFrames * z.m ∧
    (x.active < armed.next → z.upCounter = 0 ∧ z.guardOpen = true ∧ z.m = x.m) ∧
    (armed.next < x.active → z.upCounter = x.upCounter ∧ z.guardOpen = false ∧
      z.m = if x.guardOpen = true then min 8 (2 * x.m) else x.m) ∧
    (AnswersRequest p x → ans = .refused → KeepsStepRules armed.next x.request →
      z.request = { seq := x.request.seq, kind := .none, target := none } ∧ z.timer = none) ∧
    (AnswersRequest p x → ans = .refused → ¬ KeepsStepRules armed.next x.request → RequestRebased armed.next x z) ∧
    (AnswersRequest p x → ans = .deferred → RequestRebased armed.next { x with timer := some 0 } z) ∧
    (¬ AnswersRequest p x ∨ (ans ≠ .refused ∧ ans ≠ .deferred) → RequestRebased armed.next x z) := by
  dsimp only
  rw [act_completes hn ha hc, switchTo_changes hne]
  dsimp only
  have hup := switched_up (env := env) (next := armed.next) (x := x)
  have hdown := switched_down (env := env) (next := armed.next) (x := x)
  have hhold := switched_hold env armed.next x
  have hsw := switched_eq env armed.next x
  generalize switched env armed.next x = w at hup hdown hhold hsw
  have hactive : w.active = armed.next := by rw [hsw]
  have harmed : w.armed = none := by rw [hsw]
  have hreq : w.request = x.request := by rw [hsw]
  have htimer : w.timer = x.timer := by rw [hsw]
  have hreb := rebaseRequest_same w
  have hstands : KeepsStepRules armed.next x.request → rebaseRequest w = w := fun h =>
    rebaseRequest_stands (by rw [hactive, hreq]; exact h)
  have hcancels : ¬ KeepsStepRules armed.next x.request → x.request.target.isSome = true →
      rebaseRequest w = replaceByNone w := fun h ht => rebaseRequest_cancels (by rw [hactive, hreq]; exact h) (by rw [hreq]; exact ht)
  have hcases := rebaseRequest_cases w
  generalize rebaseRequest w = v at hreb hstands hcancels hcases
  have hva : v.armed = none := by rw [hreb]; exact harmed
  have hvm : v.m = w.m ∧ v.active = w.active ∧ v.upCounter = w.upCounter ∧ v.guardOpen = w.guardOpen ∧ v.hold = w.hold ∧
      v.consumed = w.consumed := by
    rw [hreb]; exact ⟨rfl, rfl, rfl, rfl, rfl, rfl⟩
  obtain ⟨hvm, hvactive, hvup, hvguard, hvhold, hvcons⟩ := hvm
  have hz := takeAnswer_same env ans p v
  have hzm : (takeAnswer env ans p.ansSeq v).m = v.m := by rw [hz]
  refine ⟨by rw [hz]; exact hvactive.trans hactive, takeAnswer_unarmed hva, List.mem_singleton.2 rfl, ?_, fun h => ?_,
    fun h => ?_, fun hans hr hk => ?_, fun hans hr hk => ?_, fun hans hr => ?_, fun hr => ?_⟩
  · rw [hzm, hvm, ← hhold, ← hvhold]
    by_cases hans : AnswersRequest p v
    · cases ans with
      | none => rw [takeAnswer_silent (.inl rfl)]
      | cancelled => rw [takeAnswer_silent (.inr rfl)]
      | deferred => rw [takeAnswer_deferred hans]
      | granted => rw [takeAnswer_granted_unarmed hva]
      | refused =>
        rw [takeAnswer_refused hans]
        dsimp only
        split
        · rw [hvm, ← hhold, ← hvhold]
        · rfl
    · rw [takeAnswer_other hans]
  · obtain ⟨h1, h2, h3⟩ := hup h
    rw [hz]
    exact ⟨hvup.trans h1, hvguard.trans h2, hvm.trans h3⟩
  · obtain ⟨h1, h2, h3⟩ := hdown h
    rw [hz]
    exact ⟨hvup.trans h1, hvguard.trans h2, hvm.trans h3⟩
  · subst hr
    rw [hstands hk, takeAnswer_refused (x := w) (by unfold AnswersRequest; rw [hreq]; exact hans)]
    exact ⟨by rw [hreq], rfl⟩
  · subst hr
    refine ⟨fun h => absurd h hk, fun _ ht => ?_⟩
    rw [hcancels hk ht, takeAnswer_other (x := replaceByNone w) fun h => h.1 rfl]
    exact ⟨by rw [← hreq]; rfl, rfl⟩
  · subst hr
    refine ⟨fun h => ?_, fun h ht => ?_⟩
    · rw [hstands h, takeAnswer_deferred (x := w) (by unfold AnswersRequest; rw [hreq]; exact hans)]
      exact ⟨hreq, rfl⟩
    · rw [hcancels h ht, takeAnswer_other (x := replaceByNone w) fun h => h.1 rfl]
      exact ⟨by rw [← show w.request = ({ x with timer := some 0 } : RxContext).request from hreq]; rfl, rfl⟩
  · have e : takeAnswer env ans p.ansSeq v = v := by
      refine takeAnswer_unarmed_cases hva ?_
      by_cases hv : AnswersRequest p v
      · refine .inr ?_
        rcases hr with hno | hr
        · refine absurd ?_ hno
          rcases hcases with h | h
          · rw [h] at hv
            unfold AnswersRequest at hv ⊢
            rwa [hreq] at hv
          · exact absurd h hv.1
        · exact answer_silent_of hr
      · exact .inl hv
    rw [e]
    refine ⟨fun h => ?_, fun h ht => ?_⟩
    · rw [hstands h]
      exact ⟨hreq, htimer⟩
    · rw [hcancels h ht]
      exact ⟨by rw [← hreq]; rfl, rfl⟩

/-! ### No switch armed, or one withdrawn (R92, R93) -/

section
variable (hn : p.next = 15) (hc : ∀ armed ∈ x.armed, p.active ≠ armed.next)
include hn hc

theorem act_withdraws : actOnField env p ans x =
    slipTest env p.active (takeAnswer env ans p.ansSeq (withdrawn env x)) := by
  unfold actOnField
  rw [takeAnnouncement_withdraws hn hc]
  rfl

theorem act_stays (h : p.active = x.active) :
    (actOnField env p ans x).1 = takeAnswer env ans p.ansSeq (withdrawn env x) := by
  rw [act_withdraws hn hc, slipTest_same]
  rw [takeAnswer_same, withdrawn_same]
  exact h

theorem act_idle (h : ¬ (x.phase = .acquire ∨ x.phase = .working)) :
    (actOnField env p ans x).1 = takeAnswer env ans p.ansSeq (withdrawn env x) := by
  rw [act_withdraws hn hc, slipTest_idle]
  rw [takeAnswer_same, withdrawn_same]
  exact h

theorem act_slips (hp : x.phase = .acquire ∨ x.phase = .working) (h : p.active ≠ x.active) : actOnField env p ans x =
    (rebaseRequest (slipped env p.active (takeAnswer env ans p.ansSeq (withdrawn env x))),
      [occurrence .profileSlip env.carrier.toNat]) := by
  have hw : (withdrawn env x).armed = none := by rw [withdrawn_same]
  rw [act_withdraws hn hc]
  refine slipTest_slips ?_ (takeAnswer_unarmed hw) ?_
  · rw [takeAnswer_same, withdrawn_same]
    exact hp
  · rw [takeAnswer_same, withdrawn_same]
    exact h

theorem act_withdraws_rest :
    let z := (actOnField env p ans x).1
    z.armed = none ∧ z.m = x.m ∧ z.guardOpen = x.guardOpen ∧ z.upCounter = x.upCounter ∧
    (¬ ((x.phase = .acquire ∨ x.phase = .working) ∧ p.active ≠ x.active) → z.active = x.active) := by
  have hw : (withdrawn env x).armed = none := by rw [withdrawn_same]
  have ha := takeAnswer_unarmed (env := env) (p := p) (ans := ans) hw
  have hsame := takeAnswer_same env ans p (withdrawn env x)
  have hwsame := withdrawn_same env x
  generalize hA : takeAnswer env ans p.ansSeq (withdrawn env x) = A at ha hsame
  have hA' : A.m = x.m ∧ A.guardOpen = x.guardOpen ∧ A.upCounter = x.upCounter ∧ A.active = x.active := by
    rw [hsame, hwsame]; exact ⟨rfl, rfl, rfl, rfl⟩
  obtain ⟨hm, hg, hu, hact⟩ := hA'
  dsimp only
  by_cases hs : (x.phase = .acquire ∨ x.phase = .working) ∧ p.active ≠ x.active
  · rw [act_slips hn hc hs.1 hs.2, hA, rebaseRequest_same]
    exact ⟨ha, hm, hg, hu, fun h => absurd hs h⟩
  · have e : (actOnField env p ans x).1 = A := by
      rw [not_and_or, not_ne_iff] at hs
      rcases hs with hs | hs
      · rw [act_idle hn hc hs, hA]
      · rw [act_stays hn hc hs, hA]
    rw [e]
    exact ⟨ha, hm, hg, hu, fun _ => hact⟩

/-- R92: the withdrawal of a granted UP. -/
theorem act_reopens {armed : Armed} {g : Grant} (ha : x.armed = some armed) (hgrant : armed.grant = some g)
    (hk : g.kind = .up) (hs : g.seq = x.request.seq) (hactive : p.active = x.active) :
    let z := (actOnField env p ans x).1
    (Reopens env g x → (p.ansSeq = x.request.seq → ans ≠ .refused) →
      z.request = { seq := x.request.seq, kind := .up, target := some g.target } ∧ z.timer = some 0) ∧
    (¬ Reopens env g x → z.timer = none ∧
      z.request = { seq := nextSeq x.request.seq x.consumed, kind := .none, target := none }) := by
  dsimp only
  rw [act_stays hn hc hactive, withdrawn_armed ha, hgrant]
  refine ⟨fun hr hno => ?_, fun hr => ?_⟩
  · rw [withdrawSwitch_granted hk hs hr, hs]
    generalize hw : ({ x with armed := none, request := { seq := x.request.seq, kind := .up, target := some g.target }, timer := some 0 } : RxContext) = w
    have hreq : w.request = { seq := x.request.seq, kind := .up, target := some g.target } := by rw [← hw]
    have htimer : w.timer = some 0 := by rw [← hw]
    by_cases hans : AnswersRequest p w
    · cases ans with
      | none => rw [takeAnswer_silent (.inl rfl)]; exact ⟨hreq, htimer⟩
      | cancelled => rw [takeAnswer_silent (.inr rfl)]; exact ⟨hreq, htimer⟩
      | granted => rw [takeAnswer_granted_unarmed (by rw [← hw])]; exact ⟨hreq, htimer⟩
      | deferred => rw [takeAnswer_deferred hans]; exact ⟨hreq, rfl⟩
      | refused => exact absurd rfl (hno (by rw [hans.2, hreq]))
    · rw [takeAnswer_other hans]
      exact ⟨hreq, htimer⟩
  · rw [withdrawSwitch_dropped hk hs hr, takeAnswer_other fun h => h.1 rfl]
    exact ⟨rfl, rfl⟩

/-- R93: a slip. -/
theorem act_slips_rest (hp : x.phase = .acquire ∨ x.phase = .working) (h : p.active ≠ x.active) :
    let z := (actOnField env p ans x).1
    z.active = p.active ∧ z.hold = env.link.holdFrames * x.m ∧
    occurrence .profileSlip env.carrier.toNat ∈ (actOnField env p ans x).2 := by
  dsimp only
  rw [act_slips hn hc hp h, rebaseRequest_same]
  refine ⟨rfl, ?_, List.mem_singleton.2 rfl⟩
  change env.link.holdFrames * (takeAnswer env ans p.ansSeq (withdrawn env x)).m = _
  rw [takeAnswer_same, withdrawn_same]

/-- R91: at a slip the answer acts first, and what it leaves open is rebased. -/
theorem act_slips_rebased (hp : x.phase = .acquire ∨ x.phase = .working) (h : p.active ≠ x.active)
    (hplain : ∀ armed ∈ x.armed, ∀ g ∈ armed.grant, ¬ (g.kind = .up ∧ g.seq = x.request.seq)) :
    let z := (actOnField env p ans x).1
    (AnswersRequest p x → ans = .refused → z.request = { seq := x.request.seq, kind := .none, target := none } ∧
      z.timer = none) ∧
    (AnswersRequest p x → ans = .deferred → RequestRebased p.active { x with timer := some 0 } z) ∧
    (¬ AnswersRequest p x ∨ (ans ≠ .refused ∧ ans ≠ .deferred) → RequestRebased p.active x z) := by
  dsimp only
  rw [act_slips hn hc hp h, withdrawn_plain hplain]
  dsimp only
  refine ⟨fun ha hr => ?_, fun ha hr => ?_, fun hr => ?_⟩
  · subst hr
    rw [takeAnswer_refused (x := { x with armed := none }) ha]
    rw [rebaseRequest_closed (by rfl)]
    exact ⟨rfl, rfl⟩
  · subst hr
    rw [takeAnswer_deferred (x := { x with armed := none }) ha]
    refine requestRebased_of (z := slipped env p.active { x with armed := none, timer := some 0 }) rfl rfl rfl rfl rfl ?_
    rw [rebaseRequest_same]
  · have e : takeAnswer env ans p.ansSeq { x with armed := none } = { x with armed := none } :=
      takeAnswer_unarmed_cases rfl (hr.imp id answer_silent_of)
    rw [e]
    refine requestRebased_of (z := slipped env p.active { x with armed := none }) rfl rfl rfl rfl rfl ?_
    rw [rebaseRequest_same]

/-- R92, R93: a slip that withdraws a granted UP. -/
theorem act_slips_granted (hp : x.phase = .acquire ∨ x.phase = .working) (h : p.active ≠ x.active) {armed : Armed}
    {g : Grant} (ha : x.armed = some armed) (hgrant : armed.grant = some g) (hk : g.kind = .up)
    (hs : g.seq = x.request.seq) :
    let z := (actOnField env p ans x).1
    z.timer = none ∧ z.request.kind = .none ∧ z.request.target = none ∧
    (Reopens env g x ∧ p.ansSeq = x.request.seq ∧ ans = .refused → z.request.seq = x.request.seq) ∧
    (¬ (Reopens env g x ∧ p.ansSeq = x.request.seq ∧ ans = .refused) →
      z.request.seq = nextSeq x.request.seq x.consumed) := by
  dsimp only
  rw [act_slips hn hc hp h, withdrawn_armed ha, hgrant]
  dsimp only
  by_cases hr : Reopens env g x
  · rw [withdrawSwitch_granted hk hs hr, hs]
    generalize hw : ({ x with armed := none, request := { seq := x.request.seq, kind := .up, target := some g.target }, timer := some 0 } : RxContext) = w
    have hreq : w.request = { seq := x.request.seq, kind := .up, target := some g.target } := by rw [← hw]
    have hcons : w.consumed = x.consumed := by rw [← hw]
    have hans : AnswersRequest p w ↔ p.ansSeq = x.request.seq := by
      unfold AnswersRequest
      rw [hreq]
      exact and_iff_right nofun
    -- the request opened again is one step above the profile left, so it breaks the step rules against p.active
    have hcancel (v : RxContext) (hv : v.request = w.request) (hvc : v.consumed = w.consumed) :
        rebaseRequest (slipped env p.active v) = replaceByNone (slipped env p.active v) := by
      have hvr : (slipped env p.active v).request = w.request := hv
      refine rebaseRequest_cancels (fun hkeep => ?_) (by rw [hvr, hreq]; rfl)
      rw [hvr, hreq] at hkeep
      have ht : some g.target = some (p.active + 1) := hkeep.1 rfl
      have := Option.some.inj ht
      have := hr.2.2.1
      omega
    have hseq (v : RxContext) (hv : v.request = w.request) (hvc : v.consumed = w.consumed) :
        (replaceByNone (slipped env p.active v)).request.seq = nextSeq x.request.seq x.consumed := by
      change nextSeq v.request.seq v.consumed = _
      rw [hv, hvc, hreq, hcons]
    by_cases hrefused : p.ansSeq = x.request.seq ∧ ans = .refused
    · obtain ⟨hq, rfl⟩ := hrefused
      rw [takeAnswer_refused (hans.2 hq), rebaseRequest_closed (by rfl)]
      refine ⟨rfl, rfl, rfl, fun _ => ?_, fun hno => absurd ⟨hr, hq, rfl⟩ hno⟩
      change w.request.seq = _
      rw [hreq]
    · have hA : (takeAnswer env ans p.ansSeq w).request = w.request ∧ (takeAnswer env ans p.ansSeq w).consumed = w.consumed := by
        refine ⟨?_, (takeAnswer_sameNotes env p ans w).2.2.2⟩
        by_cases haw : AnswersRequest p w
        · cases ans with
          | none => rw [takeAnswer_silent (.inl rfl)]
          | cancelled => rw [takeAnswer_silent (.inr rfl)]
          | granted => rw [takeAnswer_granted_unarmed (by rw [← hw])]
          | deferred => rw [takeAnswer_deferred haw]
          | refused => exact absurd ⟨hans.1 haw, rfl⟩ hrefused
        · rw [takeAnswer_other haw]
      rw [hcancel _ hA.1 hA.2]
      exact ⟨rfl, rfl, rfl, fun h => absurd h.2 hrefused, fun _ => hseq _ hA.1 hA.2⟩
  · rw [withdrawSwitch_dropped hk hs hr, takeAnswer_other fun h => h.1 rfl, rebaseRequest_closed (by rfl)]
    exact ⟨rfl, rfl, rfl, fun h => absurd h.1 hr, fun _ => rfl⟩

/-- At a slip an open UP that no longer names the profile above is closed or cancelled. -/
theorem act_slips_up (hp : x.phase = .acquire ∨ x.phase = .working) (h : p.active ≠ x.active) {target : Nat}
    (ha : x.armed = none) (hk : x.request.kind = .up) (ht : x.request.target = some target) (hne : target ≠ p.active + 1) :
    ((actOnField env p ans x).1).request.kind = .none := by
  have hplain : ∀ armed ∈ x.armed, ∀ g ∈ armed.grant, ¬ (g.kind = .up ∧ g.seq = x.request.seq) := by simp [ha]
  obtain ⟨hrefused, hdeferred, hother⟩ := act_slips_rebased (env := env) (ans := ans) hn hc hp h hplain
  have hkeep : ¬ KeepsStepRules p.active x.request := fun hkeep => hne (Option.some.inj (ht.symm.trans (hkeep.1 hk)))
  have hisSome : x.request.target.isSome = true := by rw [ht]; rfl
  by_cases hr : AnswersRequest p x ∧ ans = .refused
  · rw [(hrefused hr.1 hr.2).1]
  · by_cases hd : AnswersRequest p x ∧ ans = .deferred
    · rw [((hdeferred hd.1 hd.2).2 hkeep hisSome).1]
    · rw [((hother ?_).2 hkeep hisSome).1]
      by_cases hans : AnswersRequest p x
      · exact .inr ⟨fun e => hr ⟨hans, e⟩, fun e => hd ⟨hans, e⟩⟩
      · exact .inl hans

/-- R86: the answer to an open request, where no switch is armed and none is announced. -/
theorem act_answers (ha : x.armed = none) (hactive : p.active = x.active) :
    let z := (actOnField env p ans x).1
    (¬ AnswersRequest p x ∨ ans = .none ∨ ans = .granted ∨ ans = .cancelled →
      z.request = x.request ∧ z.timer = x.timer ∧ z.refused = x.refused ∧ z.hold = x.hold) ∧
    (AnswersRequest p x → ans = .deferred →
      z.request = x.request ∧ z.timer = some 0 ∧ z.refused = x.refused ∧ z.hold = x.hold) ∧
    (∀ target n, AnswersRequest p x → ans = .refused → x.request.target = some target → env.frame = some n →
      z.request = { seq := x.request.seq, kind := .none, target := none } ∧ z.timer = none ∧
      z.refused = some { target := target, frame := n } ∧
      z.hold = if x.request.kind = .up ∧ x.hostPause = false ∧ env.scan = false
        then env.link.holdFrames * x.m else x.hold) := by
  dsimp only
  rw [act_stays hn hc hactive, withdrawn_unarmed ha]
  refine ⟨fun h => ?_, fun hans hd => ?_, fun target n hans hr ht hf => ?_⟩
  · rw [takeAnswer_unarmed_cases ha h]
    exact ⟨rfl, rfl, rfl, rfl⟩
  · subst hd
    rw [takeAnswer_deferred hans]
    exact ⟨rfl, rfl, rfl, rfl⟩
  · subst hr
    rw [takeAnswer_refused hans]
    exact ⟨rfl, rfl, by simp [rememberedTarget, ht, hf], rfl⟩

end

end

end Sys2Proof.Machine
end

section
/-! A valid field routed: the supervisor, the receive unit, the lane's intake and the power control (R110, R111, R115,
R116, R170). -/
namespace Sys2Proof.Machine

/-! ### The receive unit's part in one statement -/

theorem noteLinked_hold {env : RxEnv} {seeded : Bool} {z : RxContext} {v : Nat} (hz : z.hold = v)
    (hm : env.link.holdFrames * z.m = v) : (noteLinked env seeded z).hold = v := by
  rw [noteLinked_eq]
  dsimp only
  split
  · exact hm
  · exact hz

/-- The context after the first step of R85, which moves the last received answer and the consumed seq alone. -/
def notedField (p : FieldParts) (ans : AnsKind) (x : RxContext) : RxContext :=
  { x with lastAnswer := some { kind := ans, seq := p.ansSeq }
           consumed := if ans = .granted ∨ ans = .refused ∨ ans = .cancelled then p.ansSeq else x.consumed }

theorem takeField_eq_noted {env : RxEnv} {seeded : Bool} {p : FieldParts} {ans : AnsKind} {x : RxContext}
    (hphase : x.phase ≠ .standby) : takeField env seeded p ans x =
      (noteLinked env seeded (actOnField env p ans (notedField p ans x)).1, (actOnField env p ans (notedField p ans x)).2) := by
  rw [takeField_eq_act hphase, noteAnswer_eq]
  rfl

/-- R85: the last received answer, the consumed seq, the linked flag, the pass of R75. -/
theorem takeField_notes {env : RxEnv} {seeded : Bool} {p : FieldParts} {ans : AnsKind} {x : RxContext}
    (hphase : x.phase ≠ .standby) :
    let y := (takeField env seeded p ans x).1
    y.lastAnswer = some { kind := ans, seq := p.ansSeq } ∧
    y.consumed = (if ans = .granted ∨ ans = .refused ∨ ans = .cancelled then p.ansSeq else x.consumed) ∧
    y.linked = true ∧ y.hostPause = x.hostPause ∧
    y.phase = (if x.phase = .acquire ∧ seeded = true then .working else x.phase) ∧
    (x.phase = .acquire → seeded = true → y.hold = env.link.holdFrames * y.m) := by
  dsimp only
  rw [takeField_eq_noted hphase, noteLinked_eq]
  obtain ⟨hp, hpause, hlast, hcons⟩ := actOnField_sameNotes env p ans (notedField p ans x)
  refine ⟨hlast, hcons, rfl, hpause, ?_, fun ha hs => if_pos ⟨hp.trans ha, hs⟩⟩
  dsimp only
  rw [hp]
  rfl

/-- The receive unit's part of a valid field, clause by clause (R85, R86, R88, R90 to R94). -/
theorem takeField_clauses (env : RxEnv) (seeded : Bool) (p : FieldParts) (ans : AnsKind) (x : RxContext)
    (hphase : x.phase ≠ .standby) :
    let y := (takeField env seeded p ans x).1
    let reports := (takeField env seeded p ans x).2
    let slips := (x.phase = .acquire ∨ x.phase = .working) ∧ p.next = 15 ∧ p.active ≠ x.active ∧
      ∀ armed ∈ x.armed, p.active ≠ armed.next
    let answers := x.request.kind ≠ .none ∧ p.ansSeq = x.request.seq
    y.lastAnswer = some { kind := ans, seq := p.ansSeq } ∧
    y.consumed = (if ans = .granted ∨ ans = .refused ∨ ans = .cancelled then p.ansSeq else x.consumed) ∧
    y.linked = true ∧ y.hostPause = x.hostPause ∧
    y.phase = (if x.phase = .acquire ∧ seeded = true then .working else x.phase) ∧
    (x.phase = .acquire → seeded = true → y.hold = env.link.holdFrames * y.m) ∧
    (p.next ≠ 15 → y.active = x.active ∧ ∃ grant, y.armed = some { next := p.next, remaining := p.count, grant := grant } ∧
      (∀ target, answers → ans = .granted → x.request.target = some target →
        grant = some { seq := x.request.seq, kind := x.request.kind, target := target } ∧
        y.request = { seq := x.request.seq, kind := .none, target := none } ∧ y.timer = none) ∧
      (¬ answers ∨ ans ≠ .granted →
        (∀ armed, x.armed = some armed → armed.next = p.next → grant = armed.grant) ∧
        ((∀ armed ∈ x.armed, armed.next ≠ p.next) → grant = none))) ∧
    (p.next = 15 → y.armed = none) ∧
    (∀ armed, p.next = 15 → x.armed = some armed → p.active = armed.next →
      y.active = armed.next ∧
      (armed.next ≠ x.active → ∃ r ∈ reports, r = { kind := .profileChangeRx, index := env.carrier.toNat, edge := none })) ∧
    (∀ armed g, p.next = 15 → x.armed = some armed → p.active ≠ armed.next → armed.grant = some g → g.kind = .up →
      g.seq = x.request.seq → x.request.kind = .none → p.active = x.active →
      (let reopens := x.phase = .working ∧ env.running = true ∧ g.target = x.active + 1 ∧ g.target ≤ env.ceiling
       (reopens → (p.ansSeq = x.request.seq → ans ≠ .refused) →
         y.request = { seq := x.request.seq, kind := .up, target := some g.target } ∧ y.timer = some 0) ∧
       (¬ reopens → y.timer = none ∧
         y.request = { seq := nextSeq x.request.seq y.consumed, kind := .none, target := none }))) ∧
    (p.next = 15 → x.armed = none → p.active = x.active → x.phase ≠ .acquire →
      (¬ answers ∨ ans = .none ∨ ans = .granted ∨ ans = .cancelled →
        y.request = x.request ∧ y.timer = x.timer ∧ y.refused = x.refused ∧ y.hold = x.hold) ∧
      (answers → ans = .deferred →
        y.request = x.request ∧ y.timer = some 0 ∧ y.refused = x.refused ∧ y.hold = x.hold) ∧
      (∀ target n, answers → ans = .refused → x.request.target = some target → env.frame = some n →
        y.request = { seq := x.request.seq, kind := .none, target := none } ∧ y.timer = none ∧
        y.refused = some { target := target, frame := n } ∧
        y.hold = if x.request.kind = .up ∧ x.hostPause = false ∧ env.scan = false
          then env.link.holdFrames * x.m else x.hold)) ∧
    (slips → y.active = p.active ∧ y.hold = env.link.holdFrames * x.m ∧ y.m = x.m ∧ y.guardOpen = x.guardOpen ∧
      y.upCounter = x.upCounter ∧
      (∃ r ∈ reports, r = { kind := .profileSlip, index := env.carrier.toNat, edge := none }) ∧
      (∀ target, x.armed = none → x.request.kind = .up → x.request.target = some target →
        target ≠ p.active + 1 → y.request.kind = .none) ∧
      ((∀ armed ∈ x.armed, ∀ g ∈ armed.grant, ¬ (g.kind = .up ∧ g.seq = x.request.seq)) →
        (answers → ans = .refused → y.request = { seq := x.request.seq, kind := .none, target := none } ∧
          y.timer = none) ∧
        (answers → ans = .deferred → RequestRebased p.active { x with timer := some 0 } y) ∧
        (¬ answers ∨ (ans ≠ .refused ∧ ans ≠ .deferred) → RequestRebased p.active x y)) ∧
      (∀ armed g, x.armed = some armed → armed.grant = some g → g.kind = .up → g.seq = x.request.seq →
        x.request.kind = .none →
        (let reopens := x.phase = .working ∧ env.running = true ∧ g.target = x.active + 1 ∧ g.target ≤ env.ceiling
         y.timer = none ∧ y.request.kind = .none ∧ y.request.target = none ∧
         y.request.seq = if reopens ∧ p.ansSeq = x.request.seq ∧ ans = .refused then x.request.seq
           else nextSeq x.request.seq y.consumed))) ∧
    (∀ armed, p.next = 15 → x.armed = some armed → p.active = armed.next → armed.next ≠ x.active →
      y.hold = env.link.holdFrames * y.m ∧
      (x.active < armed.next → y.upCounter = 0 ∧ y.guardOpen = true ∧ y.m = x.m) ∧
      (armed.next < x.active → y.upCounter = x.upCounter ∧ y.guardOpen = false ∧
        y.m = if x.guardOpen = true then min 8 (2 * x.m) else x.m) ∧
      (answers → ans = .refused → KeepsStepRules armed.next x.request →
        y.request = { seq := x.request.seq, kind := .none, target := none } ∧ y.timer = none) ∧
      (answers → ans = .refused → ¬ KeepsStepRules armed.next x.request → RequestRebased armed.next x y) ∧
      (answers → ans = .deferred → RequestRebased armed.next { x with timer := some 0 } y) ∧
      (¬ answers ∨ (ans ≠ .refused ∧ ans ≠ .deferred) → RequestRebased armed.next x y)) ∧
    ((∀ armed ∈ x.armed, ¬ (p.next = 15 ∧ p.active = armed.next ∧ armed.next ≠ x.active)) →
      y.m = x.m ∧ y.guardOpen = x.guardOpen ∧ y.upCounter = x.upCounter) ∧
    (¬ slips → (∀ armed ∈ x.armed, p.next ≠ 15 ∨ p.active ≠ armed.next) → y.active = x.active) := by
  obtain ⟨hlast, hcons, hlinked, hpause, hph, hhold⟩ := takeField_notes (env := env) (seeded := seeded) (p := p) (ans := ans) hphase
  refine ⟨hlast, hcons, hlinked, hpause, hph, hhold, ?_⟩
  clear hlast hlinked hpause hph hhold
  rw [takeField_eq_noted hphase] at hcons ⊢
  obtain ⟨hzphase, -, -, hzcons⟩ := actOnField_sameNotes env p ans (notedField p ans x)
  -- steps 2 to 4, stated of the context that step 1 leaves
  have harms := act_arms (env := env) (p := p) (ans := ans) (x := notedField p ans x)
  have hsame (armed : Armed) := act_completes_same (env := env) (p := p) (ans := ans) (x := notedField p ans x) (armed := armed)
  have hchanged (armed : Armed) :=
    act_completes_changed (env := env) (p := p) (ans := ans) (x := notedField p ans x) (armed := armed)
  have hrest := act_withdraws_rest (env := env) (p := p) (ans := ans) (x := notedField p ans x)
  have hreopens (armed : Armed) (g : Grant) :=
    act_reopens (env := env) (p := p) (ans := ans) (x := notedField p ans x) (armed := armed) (g := g)
  have hslip := act_slips_rest (env := env) (p := p) (ans := ans) (x := notedField p ans x)
  have hrebased := act_slips_rebased (env := env) (p := p) (ans := ans) (x := notedField p ans x)
  have hgranted (armed : Armed) (g : Grant) :=
    act_slips_granted (env := env) (p := p) (ans := ans) (x := notedField p ans x) (armed := armed) (g := g)
  have hup (target : Nat) := act_slips_up (env := env) (p := p) (ans := ans) (x := notedField p ans x) (target := target)
  have hanswers := act_answers (env := env) (p := p) (ans := ans) (x := notedField p ans x)
  generalize actOnField env p ans (notedField p ans x) = act at *
  have hlinkedHold (v : Nat) (hz : act.1.hold = v) (hm : env.link.holdFrames * act.1.m = v) :
      (noteLinked env seeded act.1).hold = v := noteLinked_hold hz hm
  have hz := noteLinked_eq env seeded act.1
  have hcompletes (armed : Armed) (ha : x.armed = some armed) (h : p.active ≠ armed.next) :
      ∀ ar ∈ (notedField p ans x).armed, p.active ≠ ar.next := fun ar har => by
    rw [← Option.some.inj (ha.symm.trans har)]; exact h
  have hunarmed (ha : x.armed = none) : ∀ ar ∈ (notedField p ans x).armed, p.active ≠ ar.next := fun ar har => by
    rw [show x.armed = some ar from har] at ha; cases ha
  refine ⟨fun hn => ?_, fun hn => ?_, fun armed hn ha hc => ?_, fun armed g hn ha hc hgrant hk hs _ hactive => ?_,
    fun hn ha hactive hp => ?_, fun ⟨hp, hn, hactive, hc⟩ => ?_, fun armed hn ha hc hne => ?_, fun hno => ?_,
    fun hns hno => ?_⟩
  · obtain ⟨h1, -, -, -, grant, h2, h3, h4⟩ := harms hn
    rw [hz]
    exact ⟨h1, grant, h2, h3, h4⟩
  · rw [hz]
    by_cases hc : ∀ ar ∈ (notedField p ans x).armed, p.active ≠ ar.next
    · exact (hrest hn hc).1
    · push Not at hc
      obtain ⟨ar, har, hc⟩ := hc
      by_cases he : ar.next = x.active
      · exact (hsame ar hn har hc he).2.1
      · exact (hchanged ar hn har hc he).2.1
  · rw [hz]
    by_cases he : armed.next = x.active
    · exact ⟨((hsame armed hn ha hc he).1).trans he.symm, fun hne => absurd he hne⟩
    · obtain ⟨h1, -, h2, -⟩ := hchanged armed hn ha hc he
      exact ⟨h1, fun _ => ⟨_, h2, rfl⟩⟩
  · obtain ⟨h1, h2⟩ := hreopens armed g hn (hcompletes armed ha hc) ha hgrant hk hs hactive
    rw [hcons, hz]
    exact ⟨h1, h2⟩
  · obtain ⟨h1, h2, h3⟩ := hanswers hn (hunarmed ha) ha hactive
    have hhold : (noteLinked env seeded act.1).hold = act.1.hold := by
      rw [hz]
      exact if_neg fun h => hp ((hzphase.symm.trans h.1))
    rw [hhold, hz]
    exact ⟨h1, h2, h3⟩
  · obtain ⟨h1, h2, h3⟩ := hslip hn hc hp hactive
    obtain ⟨-, hm, hg, hu, -⟩ := hrest hn hc
    refine ⟨by rw [hz]; exact h1, hlinkedHold _ h2 (by rw [hm]; rfl), by rw [hz]; exact hm, by rw [hz]; exact hg,
      by rw [hz]; exact hu, ⟨_, h3, rfl⟩, fun target ha hk ht hne => ?_, fun hplain => ?_,
      fun armed g ha hgrant hk hs _ => ?_⟩
    · rw [hz]
      exact hup target hn hc hp hactive ha hk ht hne
    · rw [hz]
      exact hrebased hn hc hp hactive hplain
    · obtain ⟨ht, hkind, htarget, hstays, hnew⟩ := hgranted armed g hn hc hp hactive ha hgrant hk hs
      rw [hcons, hz]
      refine ⟨ht, hkind, htarget, ?_⟩
      dsimp only
      split
      · next h => exact hstays ⟨h.1, h.2⟩
      · next h => exact hnew fun h' => h ⟨h'.1, h'.2⟩
  · obtain ⟨-, -, -, hhold, hu, hd, h1, h2, h3, h4⟩ := hchanged armed hn ha hc hne
    have hm : (noteLinked env seeded act.1).m = act.1.m := by rw [hz]
    refine ⟨by rw [hm]; exact hlinkedHold _ hhold rfl, ?_⟩
    rw [hz]
    exact ⟨hu, hd, h1, h2, h3, h4⟩
  · rw [hz]
    by_cases hn : p.next = 15
    · by_cases hc : ∀ ar ∈ (notedField p ans x).armed, p.active ≠ ar.next
      · obtain ⟨-, hm, hg, hu, -⟩ := hrest hn hc
        exact ⟨hm, hg, hu⟩
      · push Not at hc
        obtain ⟨ar, har, hc⟩ := hc
        by_cases he : ar.next = x.active
        · obtain ⟨-, -, hm, hg, hu⟩ := hsame ar hn har hc he
          exact ⟨hm, hg, hu⟩
        · exact absurd ⟨hn, hc, he⟩ (hno ar har)
    · obtain ⟨-, hm, hg, hu, -⟩ := harms hn
      exact ⟨hm, hg, hu⟩
  · rw [hz]
    by_cases hn : p.next = 15
    · have hc : ∀ ar ∈ (notedField p ans x).armed, p.active ≠ ar.next := fun ar har =>
        (hno ar har).resolve_left fun h => h hn
      exact (hrest hn hc).2.2.2.2 fun h => hns ⟨h.1, hn, h.2, hc⟩
    · exact (harms hn).1

end Sys2Proof.Machine
end

section
/-! A valid field routed: the supervisor, the receive unit, the lane's intake and the power control (R110, R111, R115,
R116, R170). -/
namespace Sys2Proof.Machine

/-! ### The supervisor's part (R170, R171) -/

/-- A rise of the far-end fault state, reported, before the demand is derived again. -/
def farFaultRisen (c : Carrier) (s : State) : State := (storeFarFault c true s).report [occurrence .farFault c.toNat]

theorem takeEquipFault_rises {c : Carrier} {s : State} (h : s.fault.farFault.get c = false) :
    takeEquipFault c true s = rederiveDemand (abortDemand s) (.far c) (farFaultRisen c s) := by
  simp [takeEquipFault, h, farFaultRisen]

theorem takeEquipFault_plain {c : Carrier} {v : Bool} {s : State} (h : ¬ (v = true ∧ s.fault.farFault.get c = false)) :
    takeEquipFault c v s = storeFarFault c v s := if_neg (by simpa using h)

theorem farStands_farFaultRisen (c d : Carrier) (s : State) : farStands (farFaultRisen c s) d =
    (s.working.link.abortOnFar && s.enabled d && (if d = c then true else s.fault.farFault.get d)) := by
  have e : (farFaultRisen c s).fault.farFault = s.fault.farFault.set c true := rfl
  unfold farStands
  rw [e, Four.get_set]
  rfl

/-- A rise raises the demand exactly where FAR is a source on an enabled carrier. -/
theorem abortDemand_farFaultRisen (c : Carrier) (s : State) : abortDemand (farFaultRisen c s) =
    (abortDemand s || (s.working.link.abortOnFar && s.enabled c)) := by
  have hlocal : localStands (farFaultRisen c s) = localStands s := rfl
  unfold abortDemand
  rw [hlocal, Bool.or_assoc]
  congr 1
  rw [Bool.eq_iff_iff]
  simp only [Bool.or_eq_true, List.any_eq_true, farStands_farFaultRisen, Bool.and_eq_true, Carrier.mem_all, true_and]
  constructor
  · rintro ⟨d, ⟨hon, hd⟩, hf⟩
    split at hf
    · next h => exact .inr ⟨hon, h ▸ hd⟩
    · exact .inl ⟨d, by simp [farStands, hon, hd, hf]⟩
  · rintro (⟨d, h⟩ | ⟨hon, hc⟩)
    · simp only [farStands, Bool.and_eq_true] at h
      exact ⟨d, h.1, by split <;> [rfl; exact h.2]⟩
    · exact ⟨c, ⟨hon, hc⟩, if_pos rfl⟩

theorem takeEquipFault_taken (c : Carrier) (v : Bool) (s : State) : FarFaultTaken c v s (takeEquipFault c v s) := by
  refine ⟨fun h => takeEquipFault_plain h, fun ⟨hv, hf⟩ => ?_⟩
  subst hv
  rw [takeEquipFault_rises hf]
  have hlatched : LatchedAfter s.events (farFaultRisen c s).events .farFault c.toNat none :=
    latchedAfter_of_mem _ _ _ (occurrence .farFault c.toNat) (by simp)
  have hst : (farFaultRisen c s).fault.state = s.fault.state := rfl
  by_cases ha : s.working.link.abortOnFar = true ∧ s.enabled c = true ∧ s.fault.state = .running ∧ abortDemand s = false
  · obtain ⟨hon, hc, hrun, hd⟩ := ha
    have e : rederiveDemand (abortDemand s) (.far c) (farFaultRisen c s) = linkAbort (.far c) (farFaultRisen c s) :=
      if_pos (by rw [abortDemand_farFaultRisen, hst, hd, hon, hc, hrun]; rfl)
    rw [e]
    refine ⟨?_, fun _ => AbortEffect.of_report (linkAbort_effect _ (farFaultRisen c s)),
      fun hno => absurd ⟨hon, hc, hrun, hd⟩ hno⟩
    rw [linkAbort_events]
    exact LatchedAfter.latchAll hlatched _ _
  · have e : rederiveDemand (abortDemand s) (.far c) (farFaultRisen c s) = farFaultRisen c s := by
      refine if_neg fun h => ha ?_
      rw [abortDemand_farFaultRisen, hst] at h
      simp only [Bool.and_eq_true, Bool.not_eq_true', decide_eq_true_eq, Bool.or_eq_true] at h
      obtain ⟨⟨hd, hor⟩, hrun⟩ := h
      rw [hd] at hor
      obtain ⟨hon, hc⟩ := hor.resolve_left (by decide)
      exact ⟨hon, hc, hrun, hd⟩
    rw [e]
    exact ⟨hlatched, fun h => absurd h ha, fun _ => rfl⟩

/-! ### The routes -/

theorem routeToReceive_rau (c : Carrier) (p : FieldParts) (ans : AnsKind) (s : State) : (routeToReceive c p ans s).rau =
    s.rau.set c (takeField (rxEnv s c) (s.est.get c).seeded p ans (s.rau.get c)).1 := rfl

theorem routeToReceive_events (c : Carrier) (p : FieldParts) (ans : AnsKind) (s : State) : (routeToReceive c p ans s).events =
    latchAll s.port.current s.events (takeField (rxEnv s c) (s.est.get c).seeded p ans (s.rau.get c)).2 := rfl

/-- What the receive unit reports is latched, whatever was reported before it. -/
theorem routeToReceive_latched {c : Carrier} {p : FieldParts} {ans : AnsKind} {a : EventTable} {s : State}
    (h : Grows a s.events) :
    ∀ r ∈ (takeField (rxEnv s c) (s.est.get c).seeded p ans (s.rau.get c)).2,
      LatchedAfter a (routeToReceive c p ans s).events r.kind r.index r.edge := fun r hr =>
  h.before (latchedAfter_of_mem _ _ _ r hr)

theorem routeFull_lane (c : Carrier) (p : FieldParts) (ans : AnsKind) (s : State) : (routeFull c p ans s).lane =
    (takeEquipFault c p.equipFault s).lane.update c (intakeRequest (s.params c).txCeiling s.working.length
      ((takeEquipFault c p.equipFault s).fault.state = .aborted) s.port.current p.reqKind p.reqSeq p.reqTarget) := by
  have e : (routeFull c p ans s).lane =
      (routeToLane c p (routeToReceive c p ans (takeEquipFault c p.equipFault s))).lane := takeMargin_lane ..
  have hparams : (takeEquipFault c p.equipFault s).params c = s.params c := by
    rw [State.params_eq, State.params_eq, takeEquipFault_working]
  rw [e]
  change (takeEquipFault c p.equipFault s).lane.update c (intakeRequest
    ((takeEquipFault c p.equipFault s).params c).txCeiling (takeEquipFault c p.equipFault s).working.table.length _
    (takeEquipFault c p.equipFault s).port.current _ _ _) = _
  rw [hparams, takeEquipFault_working, takeEquipFault_port]
  rfl

theorem routeFull_pcu (c : Carrier) (p : FieldParts) (ans : AnsKind) (s : State) : (routeFull c p ans s).pcu =
    if powerHeld (takeEquipFault c p.equipFault s) c then (takeEquipFault c p.equipFault s).pcu
    else (takeEquipFault c p.equipFault s).pcu.set c
      (powerStep (s.params c) p.margin p.fade ((takeEquipFault c p.equipFault s).pcu.get c)) := by
  have hparams : (takeEquipFault c p.equipFault s).params c = s.params c := by
    rw [State.params_eq, State.params_eq, takeEquipFault_working]
  have hheld : powerHeld (routeToLane c p (routeToReceive c p ans (takeEquipFault c p.equipFault s))) c =
      powerHeld (takeEquipFault c p.equipFault s) c := powerHeld_congr rfl rfl rfl rfl c
  have hlast : (routeToLane c p (routeToReceive c p ans (takeEquipFault c p.equipFault s))).params c = s.params c := hparams
  unfold routeFull takeMargin
  rw [hheld, hlast]
  split <;> rfl

theorem routeFull_rau (c : Carrier) (p : FieldParts) (ans : AnsKind) (s : State) : (routeFull c p ans s).rau =
    (routePart c p ans s).rau := takeMargin_rau ..

theorem routeFull_events (c : Carrier) (p : FieldParts) (ans : AnsKind) (s : State) : (routeFull c p ans s).events =
    (routePart c p ans s).events := takeMargin_events ..

theorem routeFull_rest (c : Carrier) (p : FieldParts) (ans : AnsKind) (s : State) : routeFull c p ans s =
    { takeEquipFault c p.equipFault s with
      rau := (routeFull c p ans s).rau, lane := (routeFull c p ans s).lane, pcu := (routeFull c p ans s).pcu,
      events := (routeFull c p ans s).events } := by
  apply State.ext_items <;> simp [routeFull, routeToLane, routeToReceive, storeRau]

/-- The receive unit's part of a route, from the state that the supervisor leaves. -/
theorem routePart_followed (c : Carrier) (p : FieldParts) (ans : AnsKind) {a : EventTable} {s : State}
    (h : Grows a s.events) :
    let u := takeEquipFault c p.equipFault s
    let followed := takeField (rxEnv u c) (s.est.get c).seeded p ans (u.rau.get c)
    (routePart c p ans s).rau = u.rau.set c followed.1 ∧
    ∀ r ∈ followed.2, LatchedAfter a (routePart c p ans s).events r.kind r.index r.edge := by
  have hest : (takeEquipFault c p.equipFault s).est = s.est := takeEquipFault_est ..
  dsimp only
  rw [← hest]
  exact ⟨rfl, routeToReceive_latched (h.trans (reported_takeEquipFault allowsBlocks_true c _ s))⟩

theorem routePart_grows (c : Carrier) (p : FieldParts) (ans : AnsKind) (s : State) (kind : EventKind) (i : Nat)
    (h : (takeEquipFault c p.equipFault s).events.latched kind i = true) : (routePart c p ans s).events.latched kind i = true :=
  (reported_routeToReceive allowsBlocks_true c p ans (takeEquipFault c p.equipFault s)).latched h

/-! ### A valid field of a LINKED carrier -/

section
variable {c : Carrier} {f : RawField} {ans : AnsKind} {s : State}

theorem handField_valid (hv : fieldValid s.working.length f = true) (hk : (fieldParts f).ansKind = some ans) :
    handField c (some f) s = takeValid c f ans s := by
  have hv' : fieldValid s.working.table.length f = true := hv
  simp only [handField, hv', hk, if_true]

theorem takeValid_linked (h : (s.sig.get c).lost = false) : takeValid c f ans s = routeFull c (fieldParts f) ans
    (storeSig c { s.sig.get c with invalidRun := 0, lastValid := some { bytes := f, frame := s.port.current } } s) :=
  if_neg (by rw [h]; decide)

theorem takeValid_recovers (h : (s.sig.get c).lost = true) (hrun : s.working.link.sigRecover ≤ (s.sig.get c).validRun + 1) :
    takeValid c f ans s = routeFull c (fieldParts f) ans (recoverSig c (storeSig c { s.sig.get c with
      lastValid := some { bytes := f, frame := s.port.current }, validRun := (s.sig.get c).validRun + 1 } s)) :=
  (if_pos h).trans (if_pos hrun)

theorem takeValid_counts (h : (s.sig.get c).lost = true) (hrun : (s.sig.get c).validRun + 1 < s.working.link.sigRecover) :
    takeValid c f ans s = routePart c (fieldParts f) ans (storeSig c { s.sig.get c with
      lastValid := some { bytes := f, frame := s.port.current }, validRun := (s.sig.get c).validRun + 1 } s) :=
  (if_pos h).trans (if_neg (by dsimp only; omega))
end

/-- Settles O36, by the routes of `routeFull` and the clauses of the receive unit's part. -/
theorem validFieldIsRoutedInFull : Obligations.ValidFieldIsRoutedInFull := by
  refine ⟨fun c f ans s hlink hcur hc hnew hv hk hlost => ?_, takeField_clauses⟩
  dsimp only
  generalize htaken : (s.setPortCarriers (s.port.carriers.set c { s.port.carriers.get c with fieldTaken := true })).setSig
      (s.sig.set c { s.sig.get c with invalidRun := 0, lastValid := some { bytes := f, frame := s.port.current } }) = taken
  have hexec : exec (.fieldIn c (some f)) s = .next (routeFull c (fieldParts f) ans taken) := by
    rw [exec_fieldIn_taken hlink hcur hc hnew, handField_valid (s := fieldNoted c s) hv hk,
      takeValid_linked (s := fieldNoted c s) hlost, ← htaken]
    rfl
  have hest : taken.est = s.est := by rw [← htaken]; rfl
  have hparams : taken.params c = s.params c := by rw [← htaken]; rfl
  have hlength : taken.working.length = s.working.length := by rw [← htaken]; rfl
  have hcurrent : taken.port.current = s.port.current := by rw [← htaken]; rfl
  have hevents : taken.events = s.events := by rw [← htaken]; rfl
  refine ⟨takeEquipFault c (fieldParts f).equipFault taken, routeFull c (fieldParts f) ans taken, takeEquipFault_taken ..,
    hexec, routeFull_rest .., fun kind i h => ?_, ?_, ?_, ?_⟩
  · rw [routeFull_events]
    exact routePart_grows c _ ans taken kind i h
  · rw [routeFull_rau, routeFull_events, ← hest, ← hevents]
    exact routePart_followed c (fieldParts f) ans (.refl _)
  · rw [routeFull_lane, hparams, hlength, hcurrent]
  · rw [routeFull_pcu, hparams]

end Sys2Proof.Machine
end

section
/-! The recovery of signalling (R115, R116). -/
namespace Sys2Proof.Machine

/-- The state of a recovery before its holds are settled. -/
def recoverUnsettled (c : Carrier) (s : State) : State :=
  let s1 := (storeSig c { s.sig.get c with lost := false, invalidRun := 0, validRun := 0 } s).report
    [{ kind := .sigLost, index := c.toNat, edge := some .leave }]
  s1.setRau (s1.rau.set c (rxSigRecovery (s1.rau.get c)))

theorem recoverSig_eq (c : Carrier) (s : State) : recoverSig c s = settleHolds s (recoverUnsettled c s) := rfl

theorem powerHeld_recoverUnsettled (c d : Carrier) (s : State) : powerHeld (recoverUnsettled c s) d =
    if d = c then (!s.enabled d || !(s.params d).atpcEnable || decide (s.fault.state = .aborted) ||
      decide (s.port.link = .frameLost)) else powerHeld s d := by
  have e : (recoverUnsettled c s).sig = s.sig.set c { s.sig.get c with lost := false, invalidRun := 0, validRun := 0 } := rfl
  have hw : (recoverUnsettled c s).enabled d = s.enabled d := State.enabled_congr rfl d
  unfold powerHeld
  rw [e, hw, Four.get_set]
  split
  · simp only [Bool.or_false]
    rfl
  · rfl

/-- A recovery reloads the period counter of its carrier where no other hold stands (R116). -/
theorem recoverSig_pcu {c : Carrier} {s : State} (hlink : s.port.link = .running) (hc : s.enabled c = true)
    (hlost : (s.sig.get c).lost = true) : (recoverSig c s).pcu =
      if (s.params c).atpcEnable = true ∧ s.fault.state = .running
      then s.pcu.set c { s.pcu.get c with period := (s.params c).period } else s.pcu := by
  have hheld : powerHeld s c = true := by simp [powerHeld, hlost]
  refine Four.ext_get fun d => ?_
  have e : (recoverSig c s).pcu.get d =
      settleHold (s.params d) (powerHeld s d) (powerHeld (recoverUnsettled c s) d) (s.pcu.get d) := Four.get_ofFn ..
  rw [e, powerHeld_recoverUnsettled]
  by_cases hd : d = c
  · subst hd
    rw [if_pos rfl, hheld, hc, hlink]
    cases ha : (s.params d).atpcEnable <;> cases hs : s.fault.state <;> simp [settleHold, reloadPeriod]
  · rw [if_neg hd]
    have hsame : settleHold (s.params d) (powerHeld s d) (powerHeld s d) (s.pcu.get d) = s.pcu.get d := by
      cases powerHeld s d <;> rfl
    rw [hsame]
    split
    · rw [Four.get_set_of_ne _ _ hd]
    · rfl

theorem recoverSig_rau (c : Carrier) (s : State) :
    (recoverSig c s).rau = s.rau.set c (rxSigRecovery (s.rau.get c)) := rfl

theorem recoverSig_events (c : Carrier) (s : State) : (recoverSig c s).events =
    latchAll s.port.current s.events [{ kind := .sigLost, index := c.toNat, edge := some .leave }] := rfl

theorem rxSigRecovery_eq (x : RxContext) :
    rxSigRecovery x = if x.phase = .siglost then { x with phase := .acquire, linked := false } else x := by
  unfold rxSigRecovery
  cases h : x.phase <;> simp

theorem takeEquipFault_phase (d : Carrier) (v : Bool) (s : State) (c : Carrier) :
    ((takeEquipFault d v s).rau.get c).phase = (s.rau.get c).phase := by
  unfold takeEquipFault
  split
  · unfold rederiveDemand
    split
    · rw [linkAbort_rau_get]
      split
      · exact cancelRequest_phase _
      · rfl
    · rfl
  · rfl

/-- A carrier in service with no switch armed after a valid field is on the field's ACTIVE (R92, R93). -/
theorem takeField_follows {env : RxEnv} {seeded : Bool} {p : FieldParts} {ans : AnsKind} {x : RxContext}
    (hp : x.phase = .acquire ∨ x.phase = .working) (h : (takeField env seeded p ans x).1.armed = none) :
    (takeField env seeded p ans x).1.active = p.active := by
  have hphase : x.phase ≠ .standby := by rcases hp with hp | hp <;> rw [hp] <;> decide
  obtain ⟨-, -, -, -, -, -, harms, -, hcompletes, -, -, hslips, -, -, hstays⟩ := takeField_clauses env seeded p ans x hphase
  by_cases hn : p.next = 15
  · by_cases hc : ∀ ar ∈ x.armed, p.active ≠ ar.next
    · by_cases ha : p.active = x.active
      · rw [ha]
        exact hstays (fun hs => hs.2.2.1 ha) fun ar har => .inr (hc ar har)
      · exact (hslips ⟨hp, hn, ha, hc⟩).1
    · push Not at hc
      obtain ⟨ar, har, hc⟩ := hc
      rw [hc]
      exact (hcompletes ar hn har hc).1
  · obtain ⟨-, grant, he, -⟩ := harms hn
    rw [he] at h
    cases h

theorem routePart_rest (c : Carrier) (p : FieldParts) (ans : AnsKind) (s : State) : routePart c p ans s =
    { takeEquipFault c p.equipFault s with
      rau := (routePart c p ans s).rau, events := (routePart c p ans s).events } := rfl

/-- Settles O37, by the recovery, then the routes of `routeFull` or of `routePart`. -/
theorem signallingRecoversAtSigRecover : Obligations.SignallingRecoversAtSigRecover := by
  intro c f ans s hlink hcur hc hnew hv hk hlost
  dsimp only
  rcases Nat.lt_or_ge ((s.sig.get c).validRun + 1) s.working.link.sigRecover with hrun | hrun
  · generalize hr : storeSig c { s.sig.get c with
        lastValid := some { bytes := f, frame := s.port.current }, validRun := (s.sig.get c).validRun + 1 } (fieldNoted c s) = r
    have hexec : exec (.fieldIn c (some f)) s = .next (routePart c (fieldParts f) ans r) := by
      rw [exec_fieldIn_taken hlink hcur hc hnew, handField_valid (s := fieldNoted c s) hv hk,
        takeValid_counts (s := fieldNoted c s) hlost hrun, ← hr]
      rfl
    have hest : r.est = s.est := by rw [← hr]; rfl
    have hevents : r.events = s.events := by rw [← hr]; rfl
    have hfollowed := routePart_followed c (fieldParts f) ans (a := s.events) (s := r) (.of_eq hevents)
    rw [hest] at hfollowed
    refine ⟨r, takeEquipFault c (fieldParts f).equipFault r, routePart c (fieldParts f) ans r, hexec,
      takeEquipFault_taken .., routePart_grows c _ ans r, hfollowed, fun h => absurd h (by omega), fun _ => ⟨?_, rfl, fun hp => ?_⟩⟩
    · rw [← hr]
      rfl
    · rw [hfollowed.1, Four.get_set_same]
      have hphase : ((takeEquipFault c (fieldParts f).equipFault r).rau.get c).phase = .siglost := by
        rw [takeEquipFault_phase, ← hr]
        exact hp
      have hnotes := takeField_notes (env := rxEnv (takeEquipFault c (fieldParts f).equipFault r) c)
        (seeded := (s.est.get c).seeded) (p := fieldParts f) (ans := ans)
        (x := (takeEquipFault c (fieldParts f).equipFault r).rau.get c) (by rw [hphase]; decide)
      rw [hnotes.2.2.2.2.1, hphase]
      exact if_neg fun h => by cases h.1
  · let w := storeSig c { s.sig.get c with
        lastValid := some { bytes := f, frame := s.port.current }, validRun := (s.sig.get c).validRun + 1 } (fieldNoted c s)
    have hwsig : w.sig.get c = { s.sig.get c with
        lastValid := some { bytes := f, frame := s.port.current }, validRun := (s.sig.get c).validRun + 1 } :=
      Four.get_set_same ..
    have hwlost : (w.sig.get c).lost = true := by rw [hwsig]; exact hlost
    generalize hr : recoverSig c w = r
    have hexec : exec (.fieldIn c (some f)) s = .next (routeFull c (fieldParts f) ans r) := by
      rw [exec_fieldIn_taken hlink hcur hc hnew, handField_valid (s := fieldNoted c s) hv hk,
        takeValid_recovers (s := fieldNoted c s) hlost hrun, ← hr]
      rfl
    have hest : r.est = s.est := by rw [← hr]; rfl
    have hparams : r.params c = s.params c := by rw [← hr]; rfl
    have hlength : r.working.length = s.working.length := by rw [← hr]; rfl
    have hcurrent : r.port.current = s.port.current := by rw [← hr]; rfl
    have hrevents : r.events =
        latchAll s.port.current s.events [{ kind := .sigLost, index := c.toNat, edge := some .leave }] := by
      rw [← hr]; rfl
    have hrrau : r.rau = s.rau.set c (rxSigRecovery (s.rau.get c)) := by rw [← hr]; rfl
    have hgrows : Grows s.events r.events := .of_latchAll hrevents fun _ _ => trivial
    have hfollowed := routePart_followed c (fieldParts f) ans (a := s.events) (s := r) hgrows
    rw [hest, ← routeFull_rau, ← routeFull_events] at hfollowed
    refine ⟨r, takeEquipFault c (fieldParts f).equipFault r, routeFull c (fieldParts f) ans r, hexec,
      takeEquipFault_taken .., fun kind i h => ?_, hfollowed, fun _ => ⟨?_, ?_, ?_, ?_, ?_, routeFull_rest .., ?_, ?_,
        fun hp => ?_⟩, fun h => absurd h (by omega)⟩
    · rw [routeFull_events]
      exact routePart_grows c _ ans r kind i h
    · rw [← hr]
      rfl
    · rw [← hr, recoverSig_sig, hwsig]
      refine Four.ext_get fun d => ?_
      change ((s.sig.set c _).set c _).get d = _
      simp only [Four.get_set]
      split <;> rfl
    · rw [hrevents]
      exact latchedAfter_of_mem _ _ _ { kind := .sigLost, index := c.toNat, edge := some .leave } (by simp)
    · rw [hrrau, rxSigRecovery_eq]
    · rw [← hr]
      exact recoverSig_pcu (s := w) hlink hc hwlost
    · rw [routeFull_lane, hparams, hlength, hcurrent]
    · rw [routeFull_pcu, hparams]
    · rw [hfollowed.1, Four.get_set_same]
      have hphase : ((takeEquipFault c (fieldParts f).equipFault r).rau.get c).phase = .acquire := by
        rw [takeEquipFault_phase, hrrau, Four.get_set_same, rxSigRecovery_eq, if_pos hp]
      have hnotes := takeField_notes (env := rxEnv (takeEquipFault c (fieldParts f).equipFault r) c)
        (seeded := (s.est.get c).seeded) (p := fieldParts f) (ans := ans)
        (x := (takeEquipFault c (fieldParts f).equipFault r).rau.get c) (by rw [hphase]; decide)
      refine ⟨hnotes.2.2.1, ?_, takeField_follows (.inl hphase)⟩
      rw [hnotes.2.2.2.2.1, hphase]
      cases hs : (s.est.get c).est <;> simp [EstRecord.seeded, hs]

end Sys2Proof.Machine
end

section
/-! The hand-overs of a frame start, carrier by carrier: a blind report and a missing notice move one carrier's items by
what those items say, so a round of them does at each carrier what that carrier's own hand-over does. -/
namespace Sys2Proof.Machine

/-! ### What a hand-over leaves alone, and what it reads -/

/-- What no hand-over of a frame start moves. -/
structure HandKeeps (s t : State) : Prop where
  port : t.port = s.port
  intake : t.intake = s.intake
  monitor : t.monitor = s.monitor
  staged : t.staged = s.staged
  working : t.working = s.working
  applyPending : t.applyPending = s.applyPending
  mapper : t.mapper = s.mapper
  fault : t.fault = s.fault
  hml : t.hml = s.hml
  announcement : t.lane.announcement = s.lane.announcement
  txActive : ∀ c, t.txActive c = s.txActive c

/-- What a hand-over reads besides the carrier's own items. -/
structure SameView (s t : State) : Prop where
  working : t.working = s.working
  grace : t.monitor.grace = s.monitor.grace
  branches : t.monitor.branches = s.monitor.branches
  fault : t.fault.state = s.fault.state
  link : t.port.link = s.port.link
  current : t.port.current = s.port.current
  carriers : t.port.carriers = s.port.carriers
  announcement : t.lane.announcement = s.lane.announcement

/-- The items that a hand-over for a carrier may move are the same. -/
structure SameAt (c : Carrier) (s t : State) : Prop where
  est : t.est.get c = s.est.get c
  rau : t.rau.get c = s.rau.get c
  sig : t.sig.get c = s.sig.get c
  pcu : t.pcu.get c = s.pcu.get c
  lane : t.lane.carriers.get c = s.lane.carriers.get c

theorem HandKeeps.refl (s : State) : HandKeeps s s := ⟨rfl, rfl, rfl, rfl, rfl, rfl, rfl, rfl, rfl, rfl, fun _ => rfl⟩

theorem HandKeeps.trans {s t u : State} (h : HandKeeps s t) (k : HandKeeps t u) : HandKeeps s u :=
  ⟨k.port.trans h.port, k.intake.trans h.intake, k.monitor.trans h.monitor, k.staged.trans h.staged,
   k.working.trans h.working, k.applyPending.trans h.applyPending, k.mapper.trans h.mapper, k.fault.trans h.fault,
   k.hml.trans h.hml, k.announcement.trans h.announcement, fun c => (k.txActive c).trans (h.txActive c)⟩

theorem HandKeeps.view {s t : State} (h : HandKeeps s t) : SameView s t :=
  ⟨h.working, congrArg Monitor.grace h.monitor, congrArg Monitor.branches h.monitor, congrArg Supervisor.state h.fault,
   congrArg Port.link h.port, congrArg Port.current h.port, congrArg Port.carriers h.port, h.announcement⟩

theorem SameView.refl (s : State) : SameView s s := (HandKeeps.refl s).view

theorem SameView.trans {s t u : State} (h : SameView s t) (k : SameView t u) : SameView s u :=
  ⟨k.working.trans h.working, k.grace.trans h.grace, k.branches.trans h.branches, k.fault.trans h.fault,
   k.link.trans h.link, k.current.trans h.current, k.carriers.trans h.carriers, k.announcement.trans h.announcement⟩

theorem SameView.symm {s t : State} (h : SameView s t) : SameView t s :=
  ⟨h.working.symm, h.grace.symm, h.branches.symm, h.fault.symm, h.link.symm, h.current.symm, h.carriers.symm,
   h.announcement.symm⟩

theorem SameAt.refl (c : Carrier) (s : State) : SameAt c s s := ⟨rfl, rfl, rfl, rfl, rfl⟩

theorem SameAt.trans {c : Carrier} {s t u : State} (h : SameAt c s t) (k : SameAt c t u) : SameAt c s u :=
  ⟨k.est.trans h.est, k.rau.trans h.rau, k.sig.trans h.sig, k.pcu.trans h.pcu, k.lane.trans h.lane⟩

theorem SameView.enabled {s t : State} (h : SameView s t) (c : Carrier) : t.enabled c = s.enabled c :=
  State.enabled_congr h.working c

theorem SameView.params {s t : State} (h : SameView s t) (c : Carrier) : t.params c = s.params c := by
  rw [State.params_eq, State.params_eq, h.working]

theorem SameView.rxEnv {s t : State} (h : SameView s t) (c : Carrier) : rxEnv t c = rxEnv s c := by
  unfold Machine.rxEnv
  rw [h.params, h.working, h.fault, h.grace, h.current]

theorem SameView.blindDue {s t : State} (h : SameView s t) (c : Carrier) : blindDue t c = blindDue s c := by
  unfold Machine.blindDue
  rw [h.working, h.carriers]

theorem SameView.powerHeld {s t : State} (h : SameView s t) {c : Carrier} (hc : SameAt c s t) :
    powerHeld t c = powerHeld s c := by
  unfold Machine.powerHeld
  rw [h.enabled, h.params, hc.sig, h.fault, h.link]

theorem SameView.dropsToBase {s t : State} (h : SameView s t) {c : Carrier} (hc : SameAt c s t) :
    dropsToBase t c = dropsToBase s c := by
  unfold Machine.dropsToBase Lane.txBound Lane.memberOf
  rw [h.params, h.announcement, hc.lane]

/-- An operation that moves one carrier's items alone, by what they and the view say. -/
structure ActsAt (c : Carrier) (g : State → State) : Prop where
  keeps : ∀ s, HandKeeps s (g s)
  others : ∀ s d, d ≠ c → SameAt d s (g s)
  own : ∀ s t, SameView s t → SameAt c s t → SameAt c (g s) (g t)

theorem ActsAt.comp {c : Carrier} {f g : State → State} (hf : ActsAt c f) (hg : ActsAt c g) :
    ActsAt c fun s => g (f s) where
  keeps s := (hf.keeps s).trans (hg.keeps _)
  others s d hd := (hf.others s d hd).trans (hg.others _ d hd)
  own s t hv hc := hg.own _ _ (((hf.keeps s).view.symm.trans hv).trans (hf.keeps t).view) (hf.own s t hv hc)

/-- An operation carried out on an occasion that the view settles. -/
theorem ActsAt.ite {c : Carrier} {g : State → State} (hg : ActsAt c g) (due : State → Bool)
    (hdue : ∀ s t, SameView s t → due t = due s) : ActsAt c fun s => if due s then g s else s where
  keeps s := by
    split
    · exact hg.keeps s
    · exact HandKeeps.refl s
  others s d hd := by
    split
    · exact hg.others s d hd
    · exact SameAt.refl d s
  own s t hv hc := by
    rw [hdue s t hv]
    split
    · exact hg.own s t hv hc
    · exact hc

/-! ### Rounds over the carriers -/

theorem foldl_handKeeps {g : Carrier → State → State} (hg : ∀ c, ActsAt c (g c)) (l : List Carrier) (s : State) :
    HandKeeps s (l.foldl (fun t c => g c t) s) := by
  induction l generalizing s with
  | nil => exact HandKeeps.refl s
  | cons c l ih => exact ((hg c).keeps s).trans (ih _)

theorem foldl_others {g : Carrier → State → State} (hg : ∀ c, ActsAt c (g c)) {l : List Carrier} {c : Carrier}
    (hc : c ∉ l) (s : State) : SameAt c s (l.foldl (fun t c => g c t) s) := by
  induction l generalizing s with
  | nil => exact SameAt.refl c s
  | cons d l ih =>
    rw [List.mem_cons, not_or] at hc
    exact ((hg d).others s c hc.1).trans (ih hc.2 _)

theorem foldl_own {g : Carrier → State → State} (hg : ∀ c, ActsAt c (g c)) {l : List Carrier} (hl : l.Nodup)
    {c : Carrier} (hc : c ∈ l) (s : State) : SameAt c (g c s) (l.foldl (fun t c => g c t) s) := by
  induction l generalizing s with
  | nil => cases hc
  | cons d l ih =>
    rw [List.nodup_cons] at hl
    by_cases h : c = d
    · subst h
      exact foldl_others hg hl.1 _
    · have hcl : c ∈ l := (List.mem_cons.1 hc).resolve_left h
      exact ((hg c).own _ _ ((hg d).keeps s).view ((hg d).others s c h)).trans (ih hl.2 hcl _)

/-- What a round of a rule does at one carrier: what the rule does there. -/
theorem round_own {g : Carrier → State → State} (hg : ∀ c, ActsAt c (g c)) (c : Carrier) (s : State) :
    SameAt c (g c s) (Carrier.all.foldl (fun t c => g c t) s) :=
  foldl_own hg (by decide) (Carrier.mem_all c) s

/-! ### Blind reports and missing notices -/

/-- A blind report has no combined value (R9). -/
theorem combinedOf_blind (c : Carrier) (s : State) : combinedOf c none none s = none := by
  unfold combinedOf
  cases (s.params c).mode <;> simp [combineBranches, eligibleSnr]

theorem takeBlind_est (c : Carrier) (s : State) :
    (takeBlind c s).est = s.est.set c (estimateReport s.working c none (s.est.get c)).1 := by
  have h := takeReport_est c none none 0 s
  rw [combinedOf_blind] at h
  exact h

theorem takeBlind_rau (c : Carrier) (s : State) : (takeBlind c s).rau = s.rau.set c (takeHandover (rxEnv s c)
    { pr := (nextEstimate s.working.link (s.est.get c).est (sampleOf none)).pr, blind := true, errors := 0 }
    (s.rau.get c)) := by
  have h := takeReport_rau (c := c) (a := none) (b := none) (errors := 0) (s := s)
  rw [combinedOf_blind] at h
  exact h

theorem takeBlind_keeps (c : Carrier) (s : State) : HandKeeps s (takeBlind c s) := by
  constructor <;> simp [takeBlind, State.txActive_eq]

theorem takeBlind_actsAt (c : Carrier) : ActsAt c (takeBlind c) where
  keeps := takeBlind_keeps c
  others s d hd := by
    constructor
    · rw [takeBlind_est, Four.get_set_of_ne _ _ hd]
    · rw [takeBlind_rau, Four.get_set_of_ne _ _ hd]
    · simp [takeBlind]
    · simp [takeBlind]
    · simp [takeBlind]
  own s t hv hc := by
    constructor
    · rw [takeBlind_est, takeBlind_est, Four.get_set_same, Four.get_set_same, hv.working, hc.est]
    · rw [takeBlind_rau, takeBlind_rau, Four.get_set_same, Four.get_set_same, hv.rxEnv, hv.working, hc.est, hc.rau]
    · simpa [takeBlind] using hc.sig
    · simpa [takeBlind] using hc.pcu
    · simpa [takeBlind] using hc.lane

theorem storeSig_actsAt (c : Carrier) (f : SigCarrier → SigCarrier) :
    ActsAt c fun s => storeSig c (f (s.sig.get c)) s where
  keeps _ := ⟨rfl, rfl, rfl, rfl, rfl, rfl, rfl, rfl, rfl, rfl, fun _ => rfl⟩
  others s d hd := ⟨rfl, rfl, Four.get_set_of_ne _ _ hd, rfl, rfl⟩
  own s t hv hc := by
    refine ⟨hc.est, hc.rau, ?_, hc.pcu, hc.lane⟩
    simp only [storeSig, State.setSig_sig, Four.get_set_same, hc.sig]

theorem enterSigLost_keeps (c : Carrier) (s : State) : HandKeeps s (enterSigLost c s) := by
  have hlane (d : Carrier) : (enterSigLost c s).txActive d = s.txActive d := by
    rw [State.txActive_eq, enterSigLost_lane, Lane.update_get]
    split
    · next h => rw [h, sigLostItems_active, State.txActive_eq]
    · rfl
  have hann : (enterSigLost c s).lane.announcement = s.lane.announcement := by rw [enterSigLost_lane]; rfl
  constructor <;> simp [hlane, hann]

theorem enterSigLost_actsAt (c : Carrier) : ActsAt c (enterSigLost c) where
  keeps := enterSigLost_keeps c
  others s d hd := by
    constructor
    · simp
    · rw [enterSigLost_rau, Four.get_set_of_ne _ _ hd]
    · rw [enterSigLost_sig, Four.get_set_of_ne _ _ hd]
    · rw [enterSigLost_pcu, if_neg fun h => hd h.1]
    · rw [enterSigLost_lane, Lane.update_get, if_neg hd]
  own s t hv hc := by
    constructor
    · simpa using hc.est
    · rw [enterSigLost_rau, enterSigLost_rau, Four.get_set_same, Four.get_set_same, hc.rau]
    · rw [enterSigLost_sig, enterSigLost_sig, Four.get_set_same, Four.get_set_same, hc.sig]
    · rw [enterSigLost_pcu, enterSigLost_pcu, hv.powerHeld hc, hc.pcu]
    · rw [enterSigLost_lane, enterSigLost_lane, Lane.update_get, Lane.update_get, if_pos rfl, if_pos rfl,
        hv.dropsToBase hc, hc.lane]

/-- The missing notice makes the carrier enter SIG_LOST (R110, R112). -/
def losesSig (s : State) (c : Carrier) : Bool :=
  !(s.sig.get c).lost && decide (s.working.link.sigLoss ≤ (s.sig.get c).invalidRun + 1)

/-- The signalling items after an invalid field that does not bring the run to sig_loss (R110, R115). -/
def invalidCounted (x : SigCarrier) : SigCarrier :=
  if x.lost then { x with validRun := 0 } else { x with invalidRun := x.invalidRun + 1 }

theorem takeInvalid_eq (c : Carrier) (s : State) : takeInvalid c s =
    if losesSig s c then enterSigLost c s else storeSig c (invalidCounted (s.sig.get c)) s := by
  unfold takeInvalid losesSig invalidCounted
  dsimp only
  cases h : (s.sig.get c).lost with
  | true => rfl
  | false =>
    by_cases hr : s.working.link.sigLoss ≤ (s.sig.get c).invalidRun + 1
    · simp [hr]
    · simp [hr]

theorem takeInvalid_actsAt (c : Carrier) : ActsAt c (takeInvalid c) where
  keeps s := by
    rw [takeInvalid_eq]
    split
    · exact (enterSigLost_actsAt c).keeps s
    · exact (storeSig_actsAt c invalidCounted).keeps s
  others s d hd := by
    rw [takeInvalid_eq]
    split
    · exact (enterSigLost_actsAt c).others s d hd
    · exact (storeSig_actsAt c invalidCounted).others s d hd
  own s t hv hc := by
    have h : losesSig t c = losesSig s c := by
      unfold losesSig
      rw [hc.sig, hv.working]
    rw [takeInvalid_eq, takeInvalid_eq, h]
    split
    · exact (enterSigLost_actsAt c).own s t hv hc
    · exact (storeSig_actsAt c invalidCounted).own s t hv hc

/-! ### The hand-overs that the order puts at one time -/

/-- The blind report of one carrier, where it is counted and due. -/
def blindOne (counted : Four Bool) (c : Carrier) (s : State) : State :=
  if counted.get c && blindDue s c then takeBlind c s else s

/-- The missing notice of one carrier, where its field is missing. -/
def noticeOne (missing : Four Bool) (c : Carrier) (s : State) : State :=
  if missing.get c then takeInvalid c s else s

/-- One carrier's hand-overs at one time. -/
def handOne (order : FrameOrder) (counted missing : Four Bool) (time : HandoverTime) (c : Carrier) (s : State) : State :=
  let t := if order.reports = time then blindOne counted c s else s
  if order.notices = time then noticeOne missing c t else t

theorem blindOne_actsAt (counted : Four Bool) (c : Carrier) : ActsAt c (blindOne counted c) :=
  (takeBlind_actsAt c).ite _ fun s t hv => by rw [hv.blindDue]

theorem noticeOne_actsAt (missing : Four Bool) (c : Carrier) : ActsAt c (noticeOne missing c) :=
  (takeInvalid_actsAt c).ite (fun _ => missing.get c) fun _ _ _ => rfl

section
variable (order : FrameOrder) (counted missing : Four Bool) (time : HandoverTime)

theorem handOne_actsAt (c : Carrier) : ActsAt c (handOne order counted missing time c) := by
  have hfirst : ActsAt c fun s => if order.reports = time then blindOne counted c s else s := by
    simpa using (blindOne_actsAt counted c).ite (fun _ => decide (order.reports = time)) fun _ _ _ => rfl
  have hsecond : ActsAt c fun s => if order.notices = time then noticeOne missing c s else s := by
    simpa using (noticeOne_actsAt missing c).ite (fun _ => decide (order.notices = time)) fun _ _ _ => rfl
  exact hfirst.comp hsecond

theorem takeBlinds_round (s : State) : takeBlinds counted s = Carrier.all.foldl (fun t c => blindOne counted c t) s := rfl

theorem takeNotices_round (s : State) : takeNotices missing s = Carrier.all.foldl (fun t c => noticeOne missing c t) s :=
  rfl

theorem handovers_handKeeps (s : State) : HandKeeps s (handovers order counted missing time s) :=
  handovers_keeps (P := HandKeeps s) (fun c _ hu => hu.trans (takeBlind_keeps c _))
    (fun c u hu => hu.trans ((takeInvalid_actsAt c).keeps u)) order counted missing time (HandKeeps.refl s)

/-- At each carrier the hand-overs do what that carrier's own do. -/
theorem handovers_own (c : Carrier) (s : State) :
    SameAt c (handOne order counted missing time c s) (handovers order counted missing time s) := by
  have hblinds : SameAt c (if order.reports = time then blindOne counted c s else s)
      (if order.reports = time then takeBlinds counted s else s) := by
    split
    · exact round_own (blindOne_actsAt counted) c s
    · exact SameAt.refl c s
  have hview : SameView (if order.reports = time then blindOne counted c s else s)
      (if order.reports = time then takeBlinds counted s else s) := by
    split
    · exact ((blindOne_actsAt counted c).keeps s).view.symm.trans
        (foldl_handKeeps (blindOne_actsAt counted) Carrier.all s).view
    · exact SameView.refl s
  unfold handOne handovers
  dsimp only
  split
  · exact ((noticeOne_actsAt missing c).own _ _ hview hblinds).trans (round_own (noticeOne_actsAt missing) c _)
  · exact hblinds
end

theorem handOne_none {order : FrameOrder} {counted missing : Four Bool} {time : HandoverTime} {c : Carrier} {s : State}
    (hblind : counted.get c = true → blindDue s c = false) (hnotice : missing.get c = false) :
    handOne order counted missing time c s = s := by
  have h1 : blindOne counted c s = s := by
    unfold blindOne
    cases h : counted.get c
    · rfl
    · rw [hblind h]; rfl
  unfold handOne noticeOne
  rw [h1, hnotice]
  dsimp only
  simp

theorem handovers_fill_false (order : FrameOrder) (time : HandoverTime) (s : State) :
    handovers order (.fill false) (.fill false) time s = s := by
  have h1 : takeBlinds (.fill false) s = s := by simp [takeBlinds, Carrier.all]
  have h2 : takeNotices (.fill false) s = s := by simp [takeNotices, Carrier.all]
  unfold handovers
  rw [h1]
  dsimp only
  split <;> split <;> simp [h2]

end Sys2Proof.Machine
end

section
/-! FRAME_START in parts: the number taken, the work of the blocks, and the tail of deliveries and hand-overs. -/
namespace Sys2Proof.Machine

/-! ### The tail: the watch, the deliveries and the later hand-overs -/

/-- What follows the blocks' work at a frame start. -/
def frameTail (order : FrameOrder) (counted missing : Four Bool) (n : FrameNo) (w : State) : State :=
  handovers order counted missing .last (deliver n (handovers order counted missing .beforeFields (startWatch w)))

/-- What the tail of a frame start leaves as the blocks' work left it. -/
structure TailKeeps (w t : State) : Prop where
  current : t.port.current = w.port.current
  previous : t.port.previous = w.port.previous
  link : t.port.link = w.port.link
  carriers : t.port.carriers = w.port.carriers
  intake : t.intake = w.intake
  monitor : t.monitor = w.monitor
  staged : t.staged = w.staged
  working : t.working = w.working
  applyPending : t.applyPending = w.applyPending
  mapper : t.mapper = w.mapper
  fault : t.fault = w.fault
  hml : t.hml = w.hml
  announcement : t.lane.announcement = w.lane.announcement
  txActive : ∀ c, t.txActive c = w.txActive c

theorem TailKeeps.view {w t : State} (h : TailKeeps w t) : SameView w t :=
  ⟨h.working, congrArg Monitor.grace h.monitor, congrArg Monitor.branches h.monitor, congrArg Supervisor.state h.fault,
   h.link, h.current, h.carriers, h.announcement⟩

theorem TailKeeps.enabled {w t : State} (h : TailKeeps w t) (c : Carrier) : t.enabled c = w.enabled c :=
  State.enabled_congr h.working c

section
variable (order : FrameOrder) (counted missing : Four Bool) (n : FrameNo) (w : State)

theorem frameTail_handed : HandKeeps (deliver n (handovers order counted missing .beforeFields (startWatch w)))
    (frameTail order counted missing n w) := handovers_handKeeps ..

theorem frameTail_keeps : TailKeeps w (frameTail order counted missing n w) := by
  have h1 := handovers_handKeeps order counted missing .beforeFields (startWatch w)
  have h2 := frameTail_handed order counted missing n w
  have hport : (frameTail order counted missing n w).port = _ := h2.port
  have hport1 := h1.port
  have hread {α : Type} (f : Port → α) (hf : ∀ u, f (deliver n u).port = f u.port)
      (hw : f (startWatch w).port = f w.port) : f (frameTail order counted missing n w).port = f w.port :=
    (congrArg f hport).trans ((hf _).trans ((congrArg f hport1).trans hw))
  exact
    { current := hread Port.current (fun _ => rfl) rfl
      previous := hread Port.previous (fun _ => rfl) rfl
      link := hread Port.link (fun _ => rfl) rfl
      carriers := hread Port.carriers (fun _ => rfl) rfl
      intake := h2.intake.trans h1.intake
      monitor := h2.monitor.trans h1.monitor
      staged := h2.staged.trans h1.staged
      working := h2.working.trans h1.working
      applyPending := h2.applyPending.trans h1.applyPending
      mapper := h2.mapper.trans h1.mapper
      fault := h2.fault.trans h1.fault
      hml := h2.hml.trans h1.hml
      announcement := h2.announcement.trans h1.announcement
      txActive := fun c => (h2.txActive c).trans (h1.txActive c) }

theorem frameTail_watch : (frameTail order counted missing n w).port.watch = some w.working.link.frameWatch := by
  have h1 := handovers_handKeeps order counted missing .beforeFields (startWatch w)
  have h2 := frameTail_handed order counted missing n w
  exact (congrArg Port.watch h2.port).trans (congrArg Port.watch h1.port)

theorem frameTail_own (c : Carrier) : SameAt c
    (handOne order counted missing .last c (handOne order counted missing .beforeFields c w))
    (frameTail order counted missing n w) := by
  let x := handovers order counted missing .beforeFields (startWatch w)
  have hstart : SameView w (startWatch w) := ⟨rfl, rfl, rfl, rfl, rfl, rfl, rfl, rfl⟩
  have hone := handOne_actsAt order counted missing .beforeFields c
  have h1 : SameAt c (handOne order counted missing .beforeFields c w) x :=
    (hone.own w (startWatch w) hstart ⟨rfl, rfl, rfl, rfl, rfl⟩).trans (handovers_own ..)
  have hview : SameView (handOne order counted missing .beforeFields c w) (deliver n x) :=
    (((hone.keeps w).view.symm.trans hstart).trans (handovers_handKeeps ..).view).trans
      ⟨rfl, rfl, rfl, rfl, rfl, rfl, rfl, rfl⟩
  have h2 : SameAt c (handOne order counted missing .beforeFields c w) (deliver n x) :=
    h1.trans ⟨rfl, rfl, rfl, rfl, rfl⟩
  exact ((handOne_actsAt order counted missing .last c).own _ _ hview h2).trans (handovers_own ..)
end

/-- A frame start without hand-overs only delivers. -/
theorem frameTail_fill_false (order : FrameOrder) (n : FrameNo) (w : State) :
    frameTail order (.fill false) (.fill false) n w = deliver n (startWatch w) := by
  unfold frameTail
  rw [handovers_fill_false, handovers_fill_false]

/-! ### The number taken -/

/-- The carriers counted at the frame start; none at the first and at the restoring one (R4, R7, R8). -/
def countedAt (s : State) : Four Bool := if s.frameRunning then countedCarriers s else .fill false

/-- The carriers with a missing notice at the frame start (R13). -/
def missingAt (s : State) : Four Bool := if s.frameRunning then missingCarriers s else .fill false

/-- The state after the number has been taken, in RUNNING. -/
def adopted (n : FrameNo) (s : State) : State :=
  match s.port.current with
  | none => s.setPort (uncountedPort n s.port)
  | some cur => adoptFrame n cur s

/-- The state in which the blocks' work finds the part. -/
def found (n : FrameNo) (order : FrameOrder) (s : State) : State :=
  match s.port.link with
  | .frameLost => restoredPort n s
  | .running => handovers order (countedAt s) (missingAt s) .beforeBlocks (adopted n s)

/-- The counts, and the restoration, before the receive units' work. -/
def readied (n : FrameNo) (order : FrameOrder) (s : State) : State :=
  match s.port.link with
  | .frameLost => restored n s
  | .running => powerWork (mapperWork (graceWork (found n order s)))

/-- The lane's work after its countdown and switch (R130 steps 2 to 4). -/
def afterSwitch (n : FrameNo) (s : State) : State :=
  if s.lane.isIdle then
    if s.applyPending then commitWork n s else laneStep3 n s
  else if withdrawable s.lane && hasUrgent s.lane then laneStep4 n s
  else s

/-- The work of a frame start up to the lane's countdown and switch. -/
def worked (n : FrameNo) (order : FrameOrder) (s : State) : State := laneStep1 (rauWork (readied n order s))

/-- The state after the lane's work. -/
def laned (n : FrameNo) (order : FrameOrder) (s : State) : State := afterSwitch n (worked n order s)

/-- The carriers that the scan passes over (R42). -/
def passedOver (n : FrameNo) (order : FrameOrder) (s : State) (c : Carrier) : Bool :=
  !s.frameRunning || enableChanges s.working (laned n order s).working c

/-- The state after the blocks' work. -/
def blocked (n : FrameNo) (order : FrameOrder) (s : State) : State :=
  computeAtten (loadedProfiles (found n order s)) (scanWork n (passedOver n order s) (laned n order s))

theorem frameRunning_of {s : State} {cur : FrameNo} (hl : s.port.link = .running) (hc : s.port.current = some cur) :
    s.frameRunning = true := by simp [State.frameRunning, hl, hc]

theorem frameRunning_of_none {s : State} (hc : s.port.current = none) : s.frameRunning = false := by
  simp [State.frameRunning, hc]

theorem frameRunning_of_lost {s : State} (hl : s.port.link = .frameLost) : s.frameRunning = false := by
  simp [State.frameRunning, hl]

theorem adopted_working (n : FrameNo) (s : State) : (adopted n s).working = s.working := by
  unfold adopted
  split
  · rfl
  · exact adoptFrame_working ..

theorem found_working (n : FrameNo) (order : FrameOrder) (s : State) : (found n order s).working = s.working := by
  unfold found
  split
  · rfl
  · rw [(handovers_handKeeps ..).working, adopted_working]

/-- Every FRAME_START is the blocks' work with its tail. -/
theorem takeFrameStart_eq (n : FrameNo) (order : FrameOrder) (s : State) :
    takeFrameStart n order s = frameTail order (countedAt s) (missingAt s) n (blocked n order s) := by
  have hblocked (hl : s.port.link = .running) (pass : Carrier → Bool) (hpass : ∀ c, pass c = !s.frameRunning) :
      blockWork n pass id (found n order s) = blocked n order s := by
    have hp : (fun c => pass c || enableChanges (found n order s).working (laned n order s).working c) =
        passedOver n order s := by
      funext c
      rw [hpass, found_working]
      rfl
    have hr : readied n order s = powerWork (mapperWork (graceWork (found n order s))) := by
      unfold readied
      rw [hl]
    have e : blockWork n pass id (found n order s) = computeAtten (loadedProfiles (found n order s))
        (scanWork n (fun c => pass c || enableChanges (found n order s).working
          (afterSwitch n (laneStep1 (rauWork (powerWork (mapperWork (graceWork (found n order s))))))).working c)
          (afterSwitch n (laneStep1 (rauWork (powerWork (mapperWork (graceWork (found n order s)))))))) := rfl
    rw [e, ← hr]
    exact congrArg (fun p => computeAtten (loadedProfiles (found n order s)) (scanWork n p (laned n order s))) hp
  unfold takeFrameStart
  split
  · next hl =>
    have hr : s.frameRunning = false := frameRunning_of_lost hl
    have hf : found n order s = restoredPort n s := by unfold found; rw [hl]
    have hw : readied n order s = restored n s := by unfold readied; rw [hl]
    have hp : passedOver n order s = fun _ => true := by
      funext c
      unfold passedOver
      rw [hr]
      rfl
    unfold countedAt missingAt
    rw [hr]
    refine Eq.trans ?_ (frameTail_fill_false order n _).symm
    unfold blocked laned worked
    rw [hp, hf, hw]
    rfl
  · next hl hc =>
    have hr : s.frameRunning = false := frameRunning_of_none hc
    have hf : found n order s = s.setPort (uncountedPort n s.port) := by
      unfold found adopted countedAt missingAt
      rw [hl, hc, hr]
      exact handovers_fill_false ..
    rw [← hblocked hl (fun _ => true) fun _ => by rw [hr]; rfl, hf]
    unfold countedAt missingAt
    rw [hr]
    exact (frameTail_fill_false order n _).symm
  · next cur hl hc =>
    have hr : s.frameRunning = true := frameRunning_of hl hc
    rw [← hblocked hl (fun _ => false) fun _ => by rw [hr]; rfl]
    have hf : found n order s =
        handovers order (countedCarriers s) (missingCarriers s) .beforeBlocks (adoptFrame n cur s) := by
      unfold found adopted countedAt missingAt
      rw [hl, hc, hr]
      rfl
    rw [hf, ordinaryFrame_eq]
    unfold countedAt missingAt
    rw [hr]
    rfl

end Sys2Proof.Machine
end

section
/-! What each part of a FRAME_START leaves of the state: the number taken, the hand-overs before the blocks' work, the
counts, the lane's work, the scan and the attenuation. -/
namespace Sys2Proof.Machine

section
variable (n : FrameNo) (order : FrameOrder) (s : State)

/-! ### The number taken -/

/-- Taking the number moves the port and the events alone. -/
theorem adopted_same : adopted n s = (s.setPort (adopted n s).port).setEvents (adopted n s).events := by
  unfold adopted
  split
  · rfl
  · unfold adoptFrame
    dsimp only
    split <;> rfl

theorem adopted_intake : (adopted n s).intake = s.intake := by rw [adopted_same]; rfl
theorem adopted_est : (adopted n s).est = s.est := by rw [adopted_same]; rfl
theorem adopted_monitor : (adopted n s).monitor = s.monitor := by rw [adopted_same]; rfl
theorem adopted_staged : (adopted n s).staged = s.staged := by rw [adopted_same]; rfl
theorem adopted_applyPending : (adopted n s).applyPending = s.applyPending := by rw [adopted_same]; rfl
theorem adopted_rau : (adopted n s).rau = s.rau := by rw [adopted_same]; rfl
theorem adopted_sig : (adopted n s).sig = s.sig := by rw [adopted_same]; rfl
theorem adopted_lane : (adopted n s).lane = s.lane := by rw [adopted_same]; rfl
theorem adopted_pcu : (adopted n s).pcu = s.pcu := by rw [adopted_same]; rfl
theorem adopted_mapper : (adopted n s).mapper = s.mapper := by rw [adopted_same]; rfl
theorem adopted_fault : (adopted n s).fault = s.fault := by rw [adopted_same]; rfl
theorem adopted_hml : (adopted n s).hml = s.hml := by rw [adopted_same]; rfl

theorem adopted_current : (adopted n s).port.current = some n := by
  unfold adopted
  split
  · rfl
  · unfold adoptFrame
    dsimp only
    split <;> rfl

theorem adopted_previous : (adopted n s).port.previous = s.port.current := by
  unfold adopted
  split
  · next h => exact h.symm
  · next h =>
    unfold adoptFrame
    dsimp only
    split <;> exact h.symm

theorem adopted_link (hl : s.port.link = .running) : (adopted n s).port.link = .running := by
  unfold adopted
  split
  · rfl
  · unfold adoptFrame
    dsimp only
    split <;> exact hl

theorem countedAt_get (hl : s.port.link = .running) (c : Carrier) :
    (countedAt s).get c = (s.port.current.isSome && s.enabled c && enabledAfter s c) := by
  unfold countedAt State.frameRunning
  rw [hl]
  cases s.port.current <;> simp [countedCarriers]

theorem missingAt_get (c : Carrier) :
    (missingAt s).get c = ((countedAt s).get c && !(s.port.carriers.get c).fieldTaken) := by
  unfold missingAt countedAt
  split <;> simp [missingCarriers]

/-- The count of R8: of the counted carriers, and 0 for the others. -/
theorem adopted_carriers (hl : s.port.link = .running) (c : Carrier) : (adopted n s).port.carriers.get c =
    { missed := if (countedAt s).get c = true then nextMissed s c else 0, arrival := false, fieldTaken := false } := by
  rw [countedAt_get s hl]
  unfold adopted
  split
  · next h => simp [uncountedPort, h]
  · next cur h =>
    have e : (adoptFrame n cur s).port.carriers.get c =
        { missed := missedAfter ((countedCarriers s).get c) (s.port.carriers.get c), arrival := false,
          fieldTaken := false } := by
      unfold adoptFrame
      dsimp only
      exact Four.get_ofFn ..
    rw [e, h]
    simp only [countedCarriers, Four.get_ofFn, missedAfter, nextMissed, Option.isSome_some, Bool.true_and]

/-! ### The hand-overs before the blocks' work -/

theorem found_running (hl : s.port.link = .running) :
    found n order s = handovers order (countedAt s) (missingAt s) .beforeBlocks (adopted n s) := by
  unfold found
  rw [hl]

theorem found_lost (hl : s.port.link = .frameLost) : found n order s = restoredPort n s := by
  unfold found
  rw [hl]

theorem found_keeps (hl : s.port.link = .running) : HandKeeps (adopted n s) (found n order s) := by
  rw [found_running n order s hl]
  exact handovers_handKeeps ..

theorem found_own (hl : s.port.link = .running) (c : Carrier) :
    SameAt c (handOne order (countedAt s) (missingAt s) .beforeBlocks c (adopted n s)) (found n order s) := by
  rw [found_running n order s hl]
  exact handovers_own ..

/-! ### The counts and the receive units' work -/

theorem readied_running (hl : s.port.link = .running) :
    readied n order s = powerWork (mapperWork (graceWork (found n order s))) := by
  unfold readied
  rw [hl]

theorem readied_lost (hl : s.port.link = .frameLost) : readied n order s = restored n s := by
  unfold readied
  rw [hl]

section
variable (hl : s.port.link = .running)
include hl

theorem readied_port : (readied n order s).port = (adopted n s).port := by
  rw [readied_running n order s hl]
  exact (found_keeps n order s hl).port

theorem readied_intake : (readied n order s).intake = s.intake := by
  rw [readied_running n order s hl]
  exact (found_keeps n order s hl).intake.trans (adopted_intake n s)

theorem readied_monitor : (readied n order s).monitor = graceTick s.monitor := by
  rw [readied_running n order s hl]
  exact congrArg graceTick ((found_keeps n order s hl).monitor.trans (adopted_monitor n s))

theorem readied_mapper : (readied n order s).mapper = (mapperTick s.mapper).1 := by
  rw [readied_running n order s hl]
  exact congrArg (fun x => (mapperTick x).1) ((found_keeps n order s hl).mapper.trans (adopted_mapper n s))

theorem readied_fault : (readied n order s).fault = s.fault := by
  rw [readied_running n order s hl]
  exact (found_keeps n order s hl).fault.trans (adopted_fault n s)

theorem readied_announcement : (readied n order s).lane.announcement = s.lane.announcement := by
  rw [readied_running n order s hl]
  exact (found_keeps n order s hl).announcement.trans (congrArg Lane.announcement (adopted_lane n s))

theorem readied_txActive (c : Carrier) : (readied n order s).txActive c = s.txActive c := by
  rw [readied_running n order s hl]
  refine ((found_keeps n order s hl).txActive c).trans ?_
  rw [State.txActive_eq, State.txActive_eq, adopted_lane]

theorem readied_pcu (c : Carrier) :
    (readied n order s).pcu.get c = (powerShadowTick (periodTick ((found n order s).pcu.get c))).1 := by
  rw [readied_running n order s hl, powerWork_pcu]
  rfl
end

theorem readied_working : (readied n order s).working = s.working := by
  cases hl : s.port.link with
  | running =>
    rw [readied_running n order s hl]
    exact found_working n order s
  | frameLost => rw [readied_lost n order s hl, restored_working]

theorem readied_staged : (readied n order s).staged = s.staged := by
  cases hl : s.port.link with
  | running =>
    rw [readied_running n order s hl]
    exact (found_keeps n order s hl).staged.trans (adopted_staged n s)
  | frameLost =>
    rw [readied_lost n order s hl]
    simp [restored, restoredPort]

theorem readied_applyPending : (readied n order s).applyPending = s.applyPending := by
  cases hl : s.port.link with
  | running =>
    rw [readied_running n order s hl]
    exact (found_keeps n order s hl).applyPending.trans (adopted_applyPending n s)
  | frameLost =>
    rw [readied_lost n order s hl]
    simp [restored, restoredPort]

theorem readied_lane_announcement : (readied n order s).lane.announcement = s.lane.announcement := by
  cases hl : s.port.link with
  | running => exact readied_announcement n order s hl
  | frameLost =>
    rw [readied_lost n order s hl, restored_lane]
    rfl

theorem rauWork_get (c : Carrier) : (rauWork s).rau.get c = (rxFrameWork (rxEnv s c) (s.rau.get c)).1 := by
  simp [rauWork, perCarrier]

/-- The frame number plays no part in the frame-start work. -/
theorem rxFrameWork_frame (env : RxEnv) (f : Option FrameNo) (x : RxContext) :
    rxFrameWork { env with frame := f } x = rxFrameWork env x := rfl

theorem graceTick_get (x : Monitor) (c : Carrier) : (graceTick x).grace.get c = x.grace.get c - 1 := by
  simp [graceTick]

/-- The receive units read SCAN after this frame start's count of the grace. -/
theorem readied_rxEnv (hl : s.port.link = .running) (c : Carrier) : rxEnv (readied n order s) c =
    { rxEnv s c with scan := decide (1 < s.monitor.grace.get c), frame := some n } := by
  have hscan : decide (0 < s.monitor.grace.get c - 1) = decide (1 < s.monitor.grace.get c) := by
    rw [decide_eq_decide]
    omega
  unfold rxEnv
  rw [State.params_eq, readied_working, readied_fault n order s hl, readied_monitor n order s hl, readied_port n order s hl,
    adopted_current, graceTick_get, hscan, ← State.params_eq]

/-! ### The lane's countdown and switch -/

theorem worked_working : (worked n order s).working = s.working := readied_working n order s

theorem worked_staged : (worked n order s).staged = s.staged := readied_staged n order s

theorem worked_applyPending : (worked n order s).applyPending = s.applyPending := readied_applyPending n order s

theorem worked_lane : (worked n order s).lane = (laneCountdown s.working (readied n order s).lane).1 := by
  have e : (worked n order s).lane = (laneCountdown (readied n order s).working (readied n order s).lane).1 := rfl
  rw [e, readied_working]

theorem laneCountdown_isIdle (w : WorkingSet) (l : Lane) :
    (laneCountdown w l).1.isIdle = (l.isIdle || announcementDue l) := by
  unfold laneCountdown announcementDue Lane.isIdle
  cases h : l.announcement with
  | none => simp [h]
  | some a =>
    by_cases hd : a.count ≤ 1
    · simp [hd, laneSwitch]
    · simp [hd]

theorem worked_isIdle : (worked n order s).lane.isIdle = (s.lane.isIdle || announcementDue s.lane) := by
  rw [worked_lane, laneCountdown_isIdle]
  unfold Lane.isIdle announcementDue
  rw [readied_lane_announcement]

/-! ### The lane's work -/

/-- Where a commit is due the lane's work is the commit (R131, R183). -/
theorem laned_commit (h : commitDue s = true) : laned n order s = commitWork n (worked n order s) := by
  unfold commitDue at h
  rw [Bool.and_eq_true] at h
  unfold laned afterSwitch
  rw [worked_isIdle, worked_applyPending, h.1, h.2]
  rfl

/-- What the lane's selection and withdrawal leave alone. -/
structure LaneActed (u v : State) : Prop where
  port : v.port = u.port
  intake : v.intake = u.intake
  est : v.est = u.est
  monitor : v.monitor = u.monitor
  staged : v.staged = u.staged
  working : v.working = u.working
  applyPending : v.applyPending = u.applyPending
  rau : v.rau = u.rau
  sig : v.sig = u.sig
  fault : v.fault = u.fault
  events : v.events = u.events
  hml : v.hml = u.hml
  txActive : ∀ c, v.txActive c = u.txActive c
  placement : v.mapper.active = u.mapper.active
  pcu : ∀ c, (v.pcu.get c).atpc = (u.pcu.get c).atpc ∧ (v.pcu.get c).period = (u.pcu.get c).period ∧
    (v.pcu.get c).eff = (u.pcu.get c).eff

theorem handAnnouncement_placement : (handAnnouncement s).mapper.active = s.mapper.active := by
  rw [handAnnouncement_mapper]
  split <;> rfl

theorem laneActed_laneStep3 : LaneActed s (laneStep3 n s) where
  port := by simp
  intake := by simp
  est := by simp
  monitor := by simp
  staged := by simp
  working := by simp
  applyPending := by simp
  rau := by simp
  sig := by simp
  fault := by simp
  events := by simp
  hml := by simp
  txActive c := by rw [State.txActive_eq, laneStep3_lane, laneSelect_active]; rfl
  placement := handAnnouncement_placement _
  pcu := laneStep3_pcu n s

theorem laneActed_laneStep4 : LaneActed s (laneStep4 n s) where
  port := by simp
  intake := by simp
  est := by simp
  monitor := by simp
  staged := by simp
  working := by simp
  applyPending := by simp
  rau := by simp
  sig := by simp
  fault := by simp
  events := by simp
  hml := by simp
  txActive c := by
    rw [State.txActive_eq, laneStep4_lane, laneSelect_active, laneWithdraw_active restoreMember_active]
    rfl
  placement := by
    unfold laneStep4
    exact handAnnouncement_placement _
  pcu := laneStep4_pcu n s

/-- Where no commit is due the lane selects, withdraws or counts on (R130). -/
theorem laned_acted (h : commitDue s = false) : LaneActed (worked n order s) (laned n order s) := by
  unfold commitDue at h
  unfold laned afterSwitch
  rw [worked_isIdle, worked_applyPending]
  split
  · next hidle =>
    rw [hidle, Bool.and_true] at h
    rw [h]
    exact laneActed_laneStep3 n _
  · split
    · exact laneActed_laneStep4 n _
    · exact ⟨rfl, rfl, rfl, rfl, rfl, rfl, rfl, rfl, rfl, rfl, rfl, rfl, fun _ => rfl, rfl, fun _ => ⟨rfl, rfl, rfl⟩⟩

theorem laned_working : (laned n order s).working = if commitDue s then stagedAsWorking s.staged else s.working := by
  cases h : commitDue s with
  | true => rw [laned_commit n order s h, commitWork_working, worked_staged]; rfl
  | false => rw [(laned_acted n order s h).working, worked_working]; rfl

/-! ### The scan and the attenuation -/

theorem blocked_monitor : (blocked n order s).monitor =
    (scanBranch (laned n order s).working n (passedOver n order s) (laned n order s).intake (laned n order s).monitor).1 :=
  rfl

theorem blocked_pcu (c : Carrier) : (blocked n order s).pcu.get c = { (laned n order s).pcu.get c with
    eff := if (laned n order s).enabled c = true
      then effectiveAtten (laned n order s).working.table
        (((loadedProfiles (found n order s)).get c).getD ((laned n order s).txActive c)) ((laned n order s).pcu.get c)
      else 0 } := computeAtten_pcu ..

/-! ### The whole frame start -/

theorem takeFrameStart_keeps : TailKeeps (blocked n order s) (takeFrameStart n order s) := by
  rw [takeFrameStart_eq]
  exact frameTail_keeps ..

theorem takeFrameStart_own (c : Carrier) : SameAt c
    (handOne order (countedAt s) (missingAt s) .last c
      (handOne order (countedAt s) (missingAt s) .beforeFields c (blocked n order s)))
    (takeFrameStart n order s) := by
  rw [takeFrameStart_eq]
  exact frameTail_own ..

/-- The working set after a frame start: the staged one, where it makes a commit. -/
theorem takeFrameStart_working :
    (takeFrameStart n order s).working = if commitDue s then stagedAsWorking s.staged else s.working :=
  (takeFrameStart_keeps n order s).working.trans (laned_working n order s)

theorem takeFrameStart_enabled (c : Carrier) : (takeFrameStart n order s).enabled c = enabledAfter s c := by
  rw [State.enabled_eq, takeFrameStart_working]
  unfold enabledAfter
  split <;> rfl

theorem countedAt_iff (hl : s.port.link = .running) (c : Carrier) : (countedAt s).get c = true ↔
    s.port.current.isSome = true ∧ s.enabled c = true ∧ (takeFrameStart n order s).enabled c = true := by
  rw [countedAt_get s hl, takeFrameStart_enabled]
  simp [and_assoc]

theorem commitDue_of_noCommit (h : NoCommitDue s) : commitDue s = false := by
  unfold commitDue
  rcases h with h | ⟨a, ha, hcount⟩
  · rw [h]; rfl
  · have hidle : s.lane.isIdle = false := by simp [Lane.isIdle, ha]
    have hdue : announcementDue s.lane = false := by simp [announcementDue, ha]; omega
    rw [hidle, hdue, Bool.or_false, Bool.and_false]

theorem exec_frameStart : exec (.frameStart n order) s = .next (takeFrameStart n order s) := rfl
end

end Sys2Proof.Machine
end

section
/-! One carrier's items after its hand-overs of a frame start, item by item, and what a frame start reports. -/
namespace Sys2Proof.Machine

/-! ### The items after one carrier's hand-overs -/

/-- The carrier's blind report is handed over at this time. -/
def blindAt (order : FrameOrder) (counted : Four Bool) (time : HandoverTime) (c : Carrier) (s : State) : Prop :=
  order.reports = time ∧ counted.get c = true ∧ blindDue s c = true

/-- The carrier's missing notice is handed over at this time. -/
def noticeAt (order : FrameOrder) (missing : Four Bool) (time : HandoverTime) (c : Carrier) : Prop :=
  order.notices = time ∧ missing.get c = true

/-- A carrier's signalling items after an invalid field (R110, R112, R115). -/
def sigAfterInvalid (sigLoss : Nat) (x : SigCarrier) : SigCarrier :=
  if x.lost then { x with validRun := 0 }
  else if sigLoss ≤ x.invalidRun + 1 then { x with lost := true, invalidRun := 0, validRun := 0 }
  else { x with invalidRun := x.invalidRun + 1 }

theorem takeInvalid_sig (c : Carrier) (s : State) :
    (takeInvalid c s).sig.get c = sigAfterInvalid s.working.link.sigLoss (s.sig.get c) := by
  unfold sigAfterInvalid
  by_cases h : (s.sig.get c).lost = true
  · rw [takeInvalid_lost h, State.setSig_sig, Four.get_set_same, if_pos h]
  · have hlinked : (s.sig.get c).lost = false := by simpa using h
    rw [if_neg h]
    by_cases hr : s.working.link.sigLoss ≤ (s.sig.get c).invalidRun + 1
    · rw [takeInvalid_loses hlinked hr, enterSigLost_sig, Four.get_set_same, if_pos hr]
    · rw [takeInvalid_counts hlinked (by omega), State.setSig_sig, Four.get_set_same, if_neg hr]

theorem losesSig_iff (s : State) (c : Carrier) : losesSig s c = true ↔
    (s.sig.get c).lost = false ∧ s.working.link.sigLoss ≤ (s.sig.get c).invalidRun + 1 := by
  simp [losesSig]

theorem takeInvalid_rau (c : Carrier) (s : State) :
    (takeInvalid c s).rau.get c = if losesSig s c then rxSigLoss (s.rau.get c) else s.rau.get c := by
  rw [takeInvalid_eq]
  split
  · rw [enterSigLost_rau, Four.get_set_same]
  · rfl

theorem takeInvalid_pcu (c : Carrier) (s : State) : (takeInvalid c s).pcu.get c =
    if losesSig s c = true ∧ powerHeld s c = false then { s.pcu.get c with atpc := 0 } else s.pcu.get c := by
  rw [takeInvalid_eq]
  by_cases h : losesSig s c = true
  · rw [if_pos h, enterSigLost_pcu]
    simp [h]
  · rw [if_neg h, if_neg fun hc => h hc.1]
    rfl

theorem takeInvalid_lane (c : Carrier) (s : State) : (takeInvalid c s).lane.carriers.get c =
    if losesSig s c then sigLostItems (dropsToBase s c) (s.lane.carriers.get c) else s.lane.carriers.get c := by
  rw [takeInvalid_eq]
  split
  · rw [enterSigLost_lane, Lane.update_get, if_pos rfl]
  · rfl

section
variable (order : FrameOrder) (counted missing : Four Bool) (time : HandoverTime) (c : Carrier) (s : State)

/-- The carrier's blind report at this time, where it is handed over. -/
def blindPart : State := if order.reports = time then blindOne counted c s else s

theorem blindPart_of (h : blindAt order counted time c s) : blindPart order counted time c s = takeBlind c s := by
  obtain ⟨h1, h2, h3⟩ := h
  unfold blindPart blindOne
  rw [if_pos h1, h2, h3]
  rfl

theorem blindPart_of_not (h : ¬ blindAt order counted time c s) : blindPart order counted time c s = s := by
  unfold blindPart blindOne
  split
  · next h1 =>
    refine if_neg fun h2 => h ⟨h1, ?_⟩
    rwa [Bool.and_eq_true] at h2
  · rfl

theorem handOne_eq (h : noticeAt order missing time c) :
    handOne order counted missing time c s = takeInvalid c (blindPart order counted time c s) :=
  (if_pos h.1).trans (if_pos h.2)

theorem handOne_eq_of_not (h : ¬ noticeAt order missing time c) :
    handOne order counted missing time c s = blindPart order counted time c s := by
  unfold handOne noticeOne
  dsimp only
  split
  · next h1 => exact if_neg fun h2 => h ⟨h1, h2⟩
  · rfl

theorem blindPart_keeps : HandKeeps s (blindPart order counted time c s) := by
  by_cases h : blindAt order counted time c s
  · rw [blindPart_of order counted time c s h]
    exact takeBlind_keeps c s
  · rw [blindPart_of_not order counted time c s h]
    exact HandKeeps.refl s

theorem blindPart_sig : (blindPart order counted time c s).sig = s.sig := by
  by_cases h : blindAt order counted time c s
  · rw [blindPart_of order counted time c s h]
    simp [takeBlind]
  · rw [blindPart_of_not order counted time c s h]

theorem blindPart_pcu : (blindPart order counted time c s).pcu = s.pcu := by
  by_cases h : blindAt order counted time c s
  · rw [blindPart_of order counted time c s h]
    simp [takeBlind]
  · rw [blindPart_of_not order counted time c s h]

theorem blindPart_lane : (blindPart order counted time c s).lane = s.lane := by
  by_cases h : blindAt order counted time c s
  · rw [blindPart_of order counted time c s h]
    simp [takeBlind]
  · rw [blindPart_of_not order counted time c s h]

theorem handOne_est_of (h : blindAt order counted time c s) : (handOne order counted missing time c s).est.get c =
    (estimateReport s.working c none (s.est.get c)).1 := by
  have e : (blindPart order counted time c s).est.get c = (estimateReport s.working c none (s.est.get c)).1 := by
    rw [blindPart_of order counted time c s h, takeBlind_est, Four.get_set_same]
  by_cases hn : noticeAt order missing time c
  · rw [handOne_eq order counted missing time c s hn, ← e, takeInvalid_eq]
    split
    · simp
    · rfl
  · rw [handOne_eq_of_not order counted missing time c s hn, e]

theorem handOne_est_of_not (h : ¬ blindAt order counted time c s) :
    (handOne order counted missing time c s).est.get c = s.est.get c := by
  have e : (blindPart order counted time c s).est.get c = s.est.get c := by
    rw [blindPart_of_not order counted time c s h]
  by_cases hn : noticeAt order missing time c
  · rw [handOne_eq order counted missing time c s hn, ← e, takeInvalid_eq]
    split
    · simp
    · rfl
  · rw [handOne_eq_of_not order counted missing time c s hn, e]

theorem handOne_sig_of (h : noticeAt order missing time c) : (handOne order counted missing time c s).sig.get c =
    sigAfterInvalid s.working.link.sigLoss (s.sig.get c) := by
  rw [handOne_eq order counted missing time c s h, takeInvalid_sig, blindPart_sig, (blindPart_keeps ..).working]

theorem handOne_sig_of_not (h : ¬ noticeAt order missing time c) :
    (handOne order counted missing time c s).sig = s.sig := by
  rw [handOne_eq_of_not order counted missing time c s h, blindPart_sig]

theorem handOne_lane_of_not (h : ¬ noticeAt order missing time c) :
    (handOne order counted missing time c s).lane = s.lane := by
  rw [handOne_eq_of_not order counted missing time c s h, blindPart_lane]

theorem handOne_pcu_of_not (h : ¬ noticeAt order missing time c) :
    (handOne order counted missing time c s).pcu = s.pcu := by
  rw [handOne_eq_of_not order counted missing time c s h, blindPart_pcu]

theorem takeInvalid_pcu_rest : ((takeInvalid c s).pcu.get c).period = (s.pcu.get c).period ∧
    ((takeInvalid c s).pcu.get c).shadow = (s.pcu.get c).shadow ∧ ((takeInvalid c s).pcu.get c).eff = (s.pcu.get c).eff := by
  rw [takeInvalid_pcu]
  split <;> exact ⟨rfl, rfl, rfl⟩

/-- The hand-overs move atpc_atten alone of the power record. -/
theorem handOne_pcu_rest : ((handOne order counted missing time c s).pcu.get c).period = (s.pcu.get c).period ∧
    ((handOne order counted missing time c s).pcu.get c).shadow = (s.pcu.get c).shadow ∧
    ((handOne order counted missing time c s).pcu.get c).eff = (s.pcu.get c).eff := by
  by_cases hn : noticeAt order missing time c
  · rw [handOne_eq order counted missing time c s hn, ← blindPart_pcu order counted time c s]
    exact takeInvalid_pcu_rest c _
  · rw [handOne_pcu_of_not order counted missing time c s hn]
    exact ⟨rfl, rfl, rfl⟩
end

/-! ### What no hand-over moves of a receive context -/

/-- The items of a context that no hand-over moves: the profile, the armed switch, the guard and the memory. -/
structure SameSwitching (x y : RxContext) : Prop where
  active : y.active = x.active
  armed : y.armed = x.armed
  upCounter : y.upCounter = x.upCounter
  guardOpen : y.guardOpen = x.guardOpen
  m : y.m = x.m
  refused : y.refused = x.refused
  hostPause : y.hostPause = x.hostPause
  consumed : y.consumed = x.consumed
  standby : y.phase = .standby ↔ x.phase = .standby

theorem SameSwitching.refl (x : RxContext) : SameSwitching x x := ⟨rfl, rfl, rfl, rfl, rfl, rfl, rfl, rfl, Iff.rfl⟩

theorem SameSwitching.trans {x y z : RxContext} (h : SameSwitching x y) (k : SameSwitching y z) : SameSwitching x z :=
  ⟨k.active.trans h.active, k.armed.trans h.armed, k.upCounter.trans h.upCounter, k.guardOpen.trans h.guardOpen,
   k.m.trans h.m, k.refused.trans h.refused, k.hostPause.trans h.hostPause, k.consumed.trans h.consumed,
   k.standby.trans h.standby⟩

/-- A context whose hold count, request and timer alone have moved. -/
theorem SameSwitching.of_request (x : RxContext) (hold : Nat) (r : Request) (t : Option Nat) :
    SameSwitching x { x with hold := hold, request := r, timer := t } :=
  ⟨rfl, rfl, rfl, rfl, rfl, rfl, rfl, rfl, Iff.rfl⟩

theorem cancelRequest_sameSwitching (x : RxContext) : SameSwitching x (cancelRequest x) := by
  unfold cancelRequest
  split
  · exact .of_request x _ _ _
  · exact .refl x

theorem reloadUnlessPaused_sameSwitching (env : RxEnv) (x : RxContext) : SameSwitching x (reloadUnlessPaused env x) := by
  unfold reloadUnlessPaused
  split
  · exact .refl x
  · exact .of_request x _ _ _

theorem applyDecision_sameSwitching (env : RxEnv) (d : Option (ReqKind × Nat)) (x : RxContext) :
    SameSwitching x (applyDecision env d x) := by
  unfold applyDecision
  split
  · split
    · exact .refl x
    · exact .of_request x _ _ _
  · split
    · exact (cancelRequest_sameSwitching x).trans (reloadUnlessPaused_sameSwitching env _)
    · exact .refl x

theorem upgradeTest_sameSwitching (env : RxEnv) (pr : Int) (x : RxContext) :
    SameSwitching x (upgradeTest env pr x).1 := by
  unfold upgradeTest
  split
  · exact .refl x
  · split
    · exact .refl x
    · split
      · exact .refl x
      · split <;> exact .of_request x _ _ _

theorem decide76_sameSwitching (env : RxEnv) (h : Handover) (x : RxContext) : SameSwitching x (decide76 env h x).1 := by
  unfold decide76
  split
  · exact reloadUnlessPaused_sameSwitching env x
  · exact .refl x
  · exact upgradeTest_sameSwitching env _ x
  · exact .refl x

theorem takeHandover_sameSwitching (env : RxEnv) (h : Handover) (x : RxContext) :
    SameSwitching x (takeHandover env h x) := by
  unfold takeHandover
  split
  · next hp =>
    split
    · exact ⟨rfl, rfl, rfl, rfl, rfl, rfl, rfl, rfl, by simp [passToWorking, reloadHold, hp]⟩
    · exact .refl x
  · split
    · exact (decide76_sameSwitching env h x).trans (applyDecision_sameSwitching env _ _)
    · exact .refl x
  · exact .refl x
  · exact .refl x

theorem rxSigLoss_sameSwitching (x : RxContext) : SameSwitching x (rxSigLoss x) := by
  unfold rxSigLoss
  split
  · next hp =>
    exact (cancelRequest_sameSwitching x).trans ⟨rfl, rfl, rfl, rfl, rfl, rfl, rfl, rfl, by simp [hp]⟩
  · next hp =>
    exact (cancelRequest_sameSwitching x).trans ⟨rfl, rfl, rfl, rfl, rfl, rfl, rfl, rfl, by simp [hp]⟩
  · exact .refl x
  · exact .refl x

theorem handOne_sameSwitching (order : FrameOrder) (counted missing : Four Bool) (time : HandoverTime) (c : Carrier)
    (s : State) : SameSwitching (s.rau.get c) ((handOne order counted missing time c s).rau.get c) := by
  have hblind : SameSwitching (s.rau.get c) ((blindPart order counted time c s).rau.get c) := by
    by_cases h : blindAt order counted time c s
    · rw [blindPart_of order counted time c s h, takeBlind_rau, Four.get_set_same]
      exact takeHandover_sameSwitching ..
    · rw [blindPart_of_not order counted time c s h]
      exact .refl _
  by_cases hn : noticeAt order missing time c
  · rw [handOne_eq order counted missing time c s hn, takeInvalid_rau]
    split
    · exact hblind.trans (rxSigLoss_sameSwitching _)
    · exact hblind
  · rw [handOne_eq_of_not order counted missing time c s hn]
    exact hblind

/-- A context in STANDBY takes no hand-over. -/
theorem handOne_standby (order : FrameOrder) (counted missing : Four Bool) (time : HandoverTime) {c : Carrier}
    {s : State} (hp : (s.rau.get c).phase = .standby) :
    (handOne order counted missing time c s).rau.get c = s.rau.get c := by
  have hhand (env : RxEnv) (h : Handover) : takeHandover env h (s.rau.get c) = s.rau.get c := by
    unfold takeHandover
    rw [hp]
  have hloss : rxSigLoss (s.rau.get c) = s.rau.get c := by
    unfold rxSigLoss
    rw [hp]
  have hblind : (blindPart order counted time c s).rau.get c = s.rau.get c := by
    by_cases h : blindAt order counted time c s
    · rw [blindPart_of order counted time c s h, takeBlind_rau, Four.get_set_same, hhand]
    · rw [blindPart_of_not order counted time c s h]
  by_cases hn : noticeAt order missing time c
  · rw [handOne_eq order counted missing time c s hn, takeInvalid_rau, hblind, hloss, ite_self]
  · rw [handOne_eq_of_not order counted missing time c s hn, hblind]

/-! ### What a frame start reports, stage by stage -/

section
variable {P : Report → Prop} (hP : AllowsBlocks P) (n : FrameNo) (order : FrameOrder) (s : State)

section
variable (hfade : ∀ c, (countedAt s).get c = true → ∀ e, P { kind := .fadeAlarm, index := c.toNat, edge := some e })
  (hsig : ∀ c, (missingAt s).get c = true → ∀ e, P { kind := .sigLost, index := c.toNat, edge := some e })
include hfade hsig

theorem reported_found (hl : s.port.link = .running) : Reported P (adopted n s).events (found n order s).events := by
  rw [found_running n order s hl]
  exact reported_handovers _ _ _ _ _ hfade hsig

theorem reported_tail : Reported P (blocked n order s).events (takeFrameStart n order s).events := by
  rw [takeFrameStart_eq]
  have h1 := reported_handovers order (countedAt s) (missingAt s) .beforeFields (startWatch (blocked n order s)) hfade hsig
  have h2 := reported_handovers order (countedAt s) (missingAt s) .last
    (deliver n (handovers order (countedAt s) (missingAt s) .beforeFields (startWatch (blocked n order s)))) hfade hsig
  exact h1.trans h2
end

include hP

theorem reported_readied (hl : s.port.link = .running) :
    Reported P (found n order s).events (readied n order s).events := by
  rw [readied_running n order s hl]
  exact reported_mapperWork hP (graceWork (found n order s))

theorem reported_worked : Reported P (readied n order s).events (worked n order s).events :=
  (reported_rauWork hP _).trans (reported_laneStep1 hP _)

/-- A commit due reports the conditions left by the carriers that it enables or disables. -/
theorem reported_laned
    (hfade : ∀ c, commitDue s = true → enableChanges s.working (stagedAsWorking s.staged) c = true →
      ((worked n order s).est.get c).fade = true → ∀ e, P { kind := .fadeAlarm, index := c.toNat, edge := some e })
    (hsig : ∀ c, commitDue s = true → enableChanges s.working (stagedAsWorking s.staged) c = true →
      ((worked n order s).sig.get c).lost = true → ∀ e, P { kind := .sigLost, index := c.toNat, edge := some e }) :
    Reported P (worked n order s).events (laned n order s).events := by
  cases h : commitDue s with
  | true =>
    rw [laned_commit n order s h]
    refine reported_commitWork hP n _ (fun c hc => ?_) (fun c hc => ?_) <;> rw [worked_working, worked_staged] at hc
    · exact hfade c h hc
    · exact hsig c h hc
  | false => exact .of_eq (laned_acted n order s h).events

theorem reported_blocked : Reported P (laned n order s).events (blocked n order s).events :=
  reported_scanWork hP n _ _
end

/-- Every stage of a frame start in RUNNING only adds to the table. -/
theorem grows_found (n : FrameNo) (order : FrameOrder) {s : State} (hl : s.port.link = .running) :
    Grows (adopted n s).events (found n order s).events :=
  reported_found n order s (fun _ _ _ => trivial) (fun _ _ _ => trivial) hl

theorem grows_laned (n : FrameNo) (order : FrameOrder) (s : State) :
    Grows (worked n order s).events (laned n order s).events :=
  reported_laned allowsBlocks_true n order s (fun _ _ _ _ _ => trivial) (fun _ _ _ _ _ => trivial)

theorem grows_from_laned (n : FrameNo) (order : FrameOrder) (s : State) :
    Grows (laned n order s).events (takeFrameStart n order s).events :=
  (reported_blocked allowsBlocks_true n order s).trans
    (reported_tail n order s (fun _ _ _ => trivial) fun _ _ _ => trivial)

theorem grows_from_worked (n : FrameNo) (order : FrameOrder) (s : State) :
    Grows (worked n order s).events (takeFrameStart n order s).events :=
  (grows_laned n order s).trans (grows_from_laned n order s)

theorem grows_from_adopted (n : FrameNo) (order : FrameOrder) {s : State} (hl : s.port.link = .running) :
    Grows (adopted n s).events (takeFrameStart n order s).events :=
  (((grows_found n order hl).trans (reported_readied allowsBlocks_true n order s hl)).trans
    (reported_worked allowsBlocks_true n order s)).trans (grows_from_worked n order s)

theorem grows_adopted (n : FrameNo) (s : State) : Grows s.events (adopted n s).events := by
  unfold adopted
  split
  · exact .refl _
  · unfold adoptFrame
    dsimp only
    split
    · exact .refl _
    · exact reported_report (s := s) fun _ _ => trivial

/-- What a frame start in RUNNING reports after the number has been taken. -/
theorem reported_from_adopted {P : Report → Prop} (hP : AllowsBlocks P) (n : FrameNo) (order : FrameOrder) {s : State}
    (hl : s.port.link = .running)
    (hfade : ∀ c, (countedAt s).get c = true → ∀ e, P { kind := .fadeAlarm, index := c.toNat, edge := some e })
    (hsig : ∀ c, (missingAt s).get c = true → ∀ e, P { kind := .sigLost, index := c.toNat, edge := some e })
    (hfadeLeft : ∀ c, commitDue s = true → enableChanges s.working (stagedAsWorking s.staged) c = true →
      ((worked n order s).est.get c).fade = true → ∀ e, P { kind := .fadeAlarm, index := c.toNat, edge := some e })
    (hsigLeft : ∀ c, commitDue s = true → enableChanges s.working (stagedAsWorking s.staged) c = true →
      ((worked n order s).sig.get c).lost = true → ∀ e, P { kind := .sigLost, index := c.toNat, edge := some e }) :
    Reported P (adopted n s).events (takeFrameStart n order s).events :=
  (((((reported_found n order s hfade hsig hl).trans (reported_readied hP n order s hl)).trans
    (reported_worked hP n order s)).trans (reported_laned hP n order s hfadeLeft hsigLeft)).trans
    (reported_blocked hP n order s)).trans (reported_tail n order s hfade hsig)

end Sys2Proof.Machine
end

section
/-! The port, the estimates and the signalling records at a FRAME_START: O12, O13, O34. -/
namespace Sys2Proof.Machine

/-! ### The port -/

theorem commitWork_current (n : FrameNo) (s : State) : (commitWork n s).port.current = s.port.current := by
  simp [commitWork, commitFarFault, commitPort, State.setPortCarriers, commitMapper, commitPower, commitSig,
    commitIntake, commitEst, commitRau, commitLane, commitConfiguration]

theorem commitWork_previous (n : FrameNo) (s : State) : (commitWork n s).port.previous = s.port.previous := by
  simp [commitWork, commitFarFault, commitPort, State.setPortCarriers, commitMapper, commitPower, commitSig,
    commitIntake, commitEst, commitRau, commitLane, commitConfiguration]

theorem commitWork_carriers (n : FrameNo) (s : State) (c : Carrier) : (commitWork n s).port.carriers.get c =
    if enableChanges s.working (stagedAsWorking s.staged) c then { s.port.carriers.get c with missed := 0 }
    else s.port.carriers.get c := by
  simp [commitWork, commitFarFault, commitPort, State.setPortCarriers, commitMapper, commitPower, commitSig,
    commitIntake, commitEst, commitRau, commitLane, commitConfiguration]

theorem enableChanges_iff (s : State) (c : Carrier) : enableChanges s.working (stagedAsWorking s.staged) c = true ↔
    s.enabled c ≠ (s.staged.carriers.get c).enable := by
  unfold enableChanges stagedAsWorking
  rw [decide_eq_true_eq, State.enabled_eq]

/-- The carriers that a commit at this frame start enables or disables are not counted. -/
theorem not_counted_of_changes {s : State} {c : Carrier} (hl : s.port.link = .running) (h : commitDue s = true)
    (hc : enableChanges s.working (stagedAsWorking s.staged) c = true) : (countedAt s).get c = false := by
  rw [countedAt_get s hl]
  unfold enabledAfter
  rw [enableChanges_iff] at hc
  rw [if_pos h]
  cases h1 : s.enabled c <;> cases h2 : (s.staged.carriers.get c).enable <;> simp_all

section
variable (n : FrameNo) (order : FrameOrder) {s : State} (hl : s.port.link = .running)
include hl

theorem laned_current : (laned n order s).port.current = some n := by
  have hw : (worked n order s).port.current = some n :=
    (congrArg Port.current (readied_port n order s hl)).trans (adopted_current n s)
  cases h : commitDue s with
  | true => rw [laned_commit n order s h, commitWork_current, hw]
  | false => rw [(laned_acted n order s h).port, hw]

theorem laned_previous : (laned n order s).port.previous = s.port.current := by
  have hw : (worked n order s).port.previous = s.port.current :=
    (congrArg Port.previous (readied_port n order s hl)).trans (adopted_previous n s)
  cases h : commitDue s with
  | true => rw [laned_commit n order s h, commitWork_previous, hw]
  | false => rw [(laned_acted n order s h).port, hw]

theorem laned_link : (laned n order s).port.link = .running := by
  have hw : (worked n order s).port.link = .running :=
    (congrArg Port.link (readied_port n order s hl)).trans (adopted_link n s hl)
  cases h : commitDue s with
  | true => rw [laned_commit n order s h, commitWork_link, hw]
  | false => rw [(laned_acted n order s h).port, hw]

/-- A commit clears the count of carriers that are not counted anyhow. -/
theorem laned_carriers (c : Carrier) : (laned n order s).port.carriers.get c =
    { missed := if (countedAt s).get c = true then nextMissed s c else 0, arrival := false, fieldTaken := false } := by
  have hw : (worked n order s).port.carriers.get c = _ :=
    (congrArg (fun p : Port => p.carriers.get c) (readied_port n order s hl)).trans (adopted_carriers n s hl c)
  cases h : commitDue s with
  | true =>
    rw [laned_commit n order s h, commitWork_carriers, hw, worked_working, worked_staged]
    split
    · next hc => rw [not_counted_of_changes hl h hc]; rfl
    · rfl
  | false => rw [(laned_acted n order s h).port, hw]

theorem takeFrameStart_port :
    (takeFrameStart n order s).port.current = some n ∧ (takeFrameStart n order s).port.previous = s.port.current ∧
    (takeFrameStart n order s).port.link = .running ∧
    (takeFrameStart n order s).port.watch = some (takeFrameStart n order s).working.link.frameWatch ∧
    ∀ c, (takeFrameStart n order s).port.carriers.get c =
      { missed := if s.port.current.isSome = true ∧ s.enabled c = true ∧ (takeFrameStart n order s).enabled c = true
          then nextMissed s c else 0
        arrival := false, fieldTaken := false } := by
  have hkeep := takeFrameStart_keeps n order s
  refine ⟨hkeep.current.trans (laned_current n order hl), hkeep.previous.trans (laned_previous n order hl),
    hkeep.link.trans (laned_link n order hl), ?_, fun c => ?_⟩
  · rw [hkeep.working, takeFrameStart_eq]
    exact frameTail_watch ..
  · have e : (takeFrameStart n order s).port.carriers.get c = (laned n order s).port.carriers.get c :=
      congrArg (fun x : Four PortCarrier => x.get c) hkeep.carriers
    rw [e, laned_carriers n order hl]
    simp only [countedAt_iff n order s hl]
end

/-! ### The intake, the estimates and the signalling records -/

theorem commitWork_intake (n : FrameNo) (s : State) (c : Carrier) : (commitWork n s).intake.get c =
    if enableChanges s.working (stagedAsWorking s.staged) c then .initial else s.intake.get c := by
  simp [commitWork, commitFarFault, commitPort, State.setPortCarriers, commitMapper, commitPower, commitSig,
    commitIntake, commitEst, commitRau, commitLane, commitConfiguration]

section
variable (n : FrameNo) (order : FrameOrder) (s : State) (c : Carrier)

theorem readied_est : (readied n order s).est = (found n order s).est := by
  cases hl : s.port.link with
  | running => rw [readied_running n order s hl]; rfl
  | frameLost =>
    rw [readied_lost n order s hl, found_lost n order s hl]
    simp [restored]

theorem readied_sig : (readied n order s).sig = (found n order s).sig := by
  cases hl : s.port.link with
  | running => rw [readied_running n order s hl]; rfl
  | frameLost =>
    rw [readied_lost n order s hl, found_lost n order s hl]
    simp [restored]

theorem laned_est : (laned n order s).est.get c =
    if commitDue s = true ∧ enableChanges s.working (stagedAsWorking s.staged) c = true then .unseeded
    else (found n order s).est.get c := by
  have hw : (worked n order s).est = (found n order s).est := readied_est n order s
  cases h : commitDue s with
  | true =>
    rw [laned_commit n order s h, commitWork_est, worked_working, worked_staged, hw]
    simp
  | false => rw [(laned_acted n order s h).est, hw, if_neg (by simp)]

theorem laned_sig : (laned n order s).sig.get c =
    if commitDue s = true ∧ enableChanges s.working (stagedAsWorking s.staged) c = true then .initial
    else (found n order s).sig.get c := by
  have hw : (worked n order s).sig = (found n order s).sig := readied_sig n order s
  cases h : commitDue s with
  | true =>
    rw [laned_commit n order s h, commitWork_sig, worked_working, worked_staged, hw]
    simp
  | false => rw [(laned_acted n order s h).sig, hw, if_neg (by simp)]

/-- The carrier stays as it was enabled. -/
theorem not_changes_of_enabled (h : s.enabled c = (takeFrameStart n order s).enabled c) :
    ¬ (commitDue s = true ∧ enableChanges s.working (stagedAsWorking s.staged) c = true) := by
  rintro ⟨hdue, hc⟩
  rw [takeFrameStart_enabled] at h
  unfold enabledAfter at h
  rw [if_pos hdue] at h
  exact (enableChanges_iff s c).1 hc h
end

theorem missing_counted {s : State} {c : Carrier} (h : (missingAt s).get c = true) : (countedAt s).get c = true := by
  rw [missingAt_get] at h
  exact (Bool.and_eq_true _ _ ▸ h).1

/-! ### The hand-overs of one carrier over the whole frame start -/

section
variable (n : FrameNo) (order : FrameOrder) {s : State} (hl : s.port.link = .running) (c : Carrier)
include hl

/-- A carrier that no commit changes has its notice handed over once, under the working set then in force. -/
theorem takeFrameStart_sig (h : s.enabled c = (takeFrameStart n order s).enabled c) :
    (takeFrameStart n order s).sig.get c =
      if (missingAt s).get c = true then
        sigAfterInvalid (if order.notices = .beforeBlocks then s.working else (takeFrameStart n order s).working).link.sigLoss
          (s.sig.get c)
      else s.sig.get c := by
  let hand (time : HandoverTime) := handOne order (countedAt s) (missingAt s) time c
  have hfound : (found n order s).sig.get c = (hand .beforeBlocks (adopted n s)).sig.get c := (found_own n order s hl c).sig
  have hblocked : (blocked n order s).sig.get c = (found n order s).sig.get c :=
    (laned_sig n order s c).trans (if_neg (not_changes_of_enabled n order s c h))
  have hw : (blocked n order s).working = (takeFrameStart n order s).working := (takeFrameStart_keeps n order s).working.symm
  have hmid : (hand .beforeFields (blocked n order s)).working = (takeFrameStart n order s).working :=
    ((handOne_actsAt ..).keeps _).working.trans hw
  rw [(takeFrameStart_own n order s c).sig]
  by_cases hm : (missingAt s).get c = true
  · rw [if_pos hm]
    cases ho : order.notices with
    | beforeBlocks =>
      rw [handOne_sig_of_not _ _ _ _ _ _ (by rintro ⟨h1, -⟩; rw [ho] at h1; cases h1),
        handOne_sig_of_not _ _ _ _ _ _ (by rintro ⟨h1, -⟩; rw [ho] at h1; cases h1), hblocked, hfound,
        handOne_sig_of _ _ _ _ _ _ ⟨ho, hm⟩, adopted_working, adopted_sig]
      rfl
    | beforeFields =>
      rw [handOne_sig_of_not _ _ _ _ _ _ (by rintro ⟨h1, -⟩; rw [ho] at h1; cases h1),
        handOne_sig_of _ _ _ _ _ _ ⟨ho, hm⟩, hw, hblocked, hfound,
        handOne_sig_of_not _ _ _ _ _ _ (by rintro ⟨h1, -⟩; rw [ho] at h1; cases h1), adopted_sig]
      rfl
    | last =>
      rw [handOne_sig_of _ _ _ _ _ _ ⟨ho, hm⟩, hmid,
        handOne_sig_of_not _ _ _ _ _ _ (by rintro ⟨h1, -⟩; rw [ho] at h1; cases h1), hblocked, hfound,
        handOne_sig_of_not _ _ _ _ _ _ (by rintro ⟨h1, -⟩; rw [ho] at h1; cases h1), adopted_sig]
      rfl
  · have hno (time : HandoverTime) : ¬ noticeAt order (missingAt s) time c := fun ⟨_, h2⟩ => hm h2
    rw [if_neg hm, handOne_sig_of_not _ _ _ _ _ _ (hno _), handOne_sig_of_not _ _ _ _ _ _ (hno _), hblocked, hfound,
      handOne_sig_of_not _ _ _ _ _ _ (hno _), adopted_sig]

omit hl in
theorem blindDue_counted {u : State} (hc : (countedAt s).get c = true)
    (hu : u.port.carriers.get c = { missed := if (countedAt s).get c = true then nextMissed s c else 0,
                                    arrival := false, fieldTaken := false }) :
    blindDue u c = decide (u.working.link.reportLoss ≤ nextMissed s c) := by
  unfold blindDue
  rw [hu, if_pos hc]

/-- A carrier that no commit changes has its blind report handed over once where it is due, under the working set then
in force. -/
theorem takeFrameStart_est (h : s.enabled c = (takeFrameStart n order s).enabled c) :
    let w := if order.reports = .beforeBlocks then s.working else (takeFrameStart n order s).working
    (takeFrameStart n order s).est.get c =
      if (countedAt s).get c = true ∧ w.link.reportLoss ≤ nextMissed s c then (estimateReport w c none (s.est.get c)).1
      else s.est.get c := by
  intro w
  let hand (time : HandoverTime) := handOne order (countedAt s) (missingAt s) time c
  have hfound : (found n order s).est.get c = (hand .beforeBlocks (adopted n s)).est.get c := (found_own n order s hl c).est
  have hblocked : (blocked n order s).est.get c = (found n order s).est.get c :=
    (laned_est n order s c).trans (if_neg (not_changes_of_enabled n order s c h))
  have hw : (blocked n order s).working = (takeFrameStart n order s).working := (takeFrameStart_keeps n order s).working.symm
  have hmid := (handOne_actsAt order (countedAt s) (missingAt s) .beforeFields c).keeps (blocked n order s)
  have hfirst : blindAt order (countedAt s) .beforeBlocks c (adopted n s) ↔
      order.reports = .beforeBlocks ∧ (countedAt s).get c = true ∧ s.working.link.reportLoss ≤ nextMissed s c := by
    unfold blindAt
    refine and_congr_right fun _ => and_congr_right fun hc => ?_
    rw [blindDue_counted c hc (adopted_carriers n s hl c), adopted_working, decide_eq_true_eq]
  have hlater (time : HandoverTime) {u : State} (hu : HandKeeps (blocked n order s) u) :
      blindAt order (countedAt s) time c u ↔ order.reports = time ∧ (countedAt s).get c = true ∧
        (takeFrameStart n order s).working.link.reportLoss ≤ nextMissed s c := by
    unfold blindAt
    refine and_congr_right fun _ => and_congr_right fun hc => ?_
    have hcarriers := (congrArg (fun p : Port => p.carriers.get c) hu.port).trans (laned_carriers n order hl c)
    rw [blindDue_counted c hc hcarriers, hu.working, hw, decide_eq_true_eq]
  have hnot (time : HandoverTime) {u : State} (ho : order.reports ≠ time) : ¬ blindAt order (countedAt s) time c u :=
    fun h1 => ho h1.1
  rw [(takeFrameStart_own n order s c).est]
  cases ho : order.reports with
  | beforeBlocks =>
    have hwe : w = s.working := if_pos ho
    rw [hwe, handOne_est_of_not _ _ _ _ _ _ (hnot _ (by rw [ho]; decide)),
      handOne_est_of_not _ _ _ _ _ _ (hnot _ (by rw [ho]; decide)), hblocked, hfound]
    by_cases hd : (countedAt s).get c = true ∧ s.working.link.reportLoss ≤ nextMissed s c
    · rw [if_pos hd]
      refine (handOne_est_of _ _ _ _ _ _ (hfirst.2 ⟨ho, hd⟩)).trans ?_
      rw [adopted_working, adopted_est]
    · rw [if_neg hd]
      exact (handOne_est_of_not _ _ _ _ _ _ fun h1 => hd (hfirst.1 h1).2).trans (by rw [adopted_est])
  | beforeFields =>
    have hwe : w = (takeFrameStart n order s).working := if_neg (by rw [ho]; decide)
    have hbefore : (blocked n order s).est.get c = s.est.get c := by
      rw [hblocked, hfound]
      exact (handOne_est_of_not _ _ _ _ _ _ (hnot _ (by rw [ho]; decide))).trans (by rw [adopted_est])
    rw [hwe, handOne_est_of_not _ _ _ _ _ _ (hnot _ (by rw [ho]; decide))]
    by_cases hd : (countedAt s).get c = true ∧ (takeFrameStart n order s).working.link.reportLoss ≤ nextMissed s c
    · rw [if_pos hd, handOne_est_of _ _ _ _ _ _ ((hlater _ (.refl _)).2 ⟨ho, hd⟩), hbefore, hw]
    · rw [if_neg hd, handOne_est_of_not _ _ _ _ _ _ fun h1 => hd ((hlater _ (.refl _)).1 h1).2, hbefore]
  | last =>
    have hwe : w = (takeFrameStart n order s).working := if_neg (by rw [ho]; decide)
    have hbefore : (handOne order (countedAt s) (missingAt s) .beforeFields c (blocked n order s)).est.get c = s.est.get c := by
      rw [handOne_est_of_not _ _ _ _ _ _ (hnot _ (by rw [ho]; decide)), hblocked, hfound]
      exact (handOne_est_of_not _ _ _ _ _ _ (hnot _ (by rw [ho]; decide))).trans (by rw [adopted_est])
    rw [hwe]
    by_cases hd : (countedAt s).get c = true ∧ (takeFrameStart n order s).working.link.reportLoss ≤ nextMissed s c
    · rw [if_pos hd, handOne_est_of _ _ _ _ _ _ ((hlater _ hmid).2 ⟨ho, hd⟩), hbefore, hmid.working, hw]
    · rw [if_neg hd, handOne_est_of_not _ _ _ _ _ _ fun h1 => hd ((hlater _ hmid).1 h1).2, hbefore]
end

/-! ### O12 and O13 -/

theorem takeFrameStart_slip (n : FrameNo) (order : FrameOrder) {s : State} (hl : s.port.link = .running) :
    (takeFrameStart n order s).events.latched .frameSlip 0 = (adopted n s).events.latched .frameSlip 0 := by
  refine (reported_from_adopted (P := fun r => r.kind ≠ .frameSlip ∨ r.index ≠ 0) (fun r hr => .inl hr.2.2) n order hl
    ?_ ?_ ?_ ?_).latched_eq
  all_goals intros; simp

theorem adopted_events_of_first {n : FrameNo} {s : State} (hc : s.port.current = none) :
    (adopted n s).events = s.events := by
  unfold adopted
  rw [hc]
  rfl

/-- Settles O12, by the parts of the frame start (`takeFrameStart_eq`). -/
theorem firstFrameStartTakesItsNumber : Obligations.FirstFrameStartTakesItsNumber := by
  intro n order s hl hc
  obtain ⟨hcurrent, hprevious, hlink, hwatch, hcarriers⟩ := takeFrameStart_port n order hl
  refine ⟨_, exec_frameStart n order s, hcurrent, hprevious.trans hc, hlink, hwatch, fun c => ?_, ?_, fun hp => ?_,
    takeFrameStart_staged .., takeFrameStart_hml ..⟩
  · rw [hcarriers, hc]
    rfl
  · rw [takeFrameStart_slip n order hl]
    exact congrArg (fun t : EventTable => t.latched .frameSlip 0) (adopted_events_of_first hc)
  · have hdue : commitDue s = false := commitDue_of_noCommit s (.inl hp)
    have hen (c : Carrier) : s.enabled c = (takeFrameStart n order s).enabled c := by
      rw [takeFrameStart_enabled, enabledAfter, hdue]
      rfl
    have hcount (c : Carrier) : (countedAt s).get c = false := by
      rw [countedAt_get s hl, hc]
      rfl
    refine ⟨Four.ext_get fun c => ?_, Four.ext_get fun c => ?_, ?_⟩
    · rw [takeFrameStart_est n order hl c (hen c), hcount, if_neg (by simp)]
    · rw [takeFrameStart_sig n order hl c (hen c), if_neg fun h => by simpa [hcount c] using missing_counted h]
    · rw [(takeFrameStart_keeps n order s).intake]
      have e : (blocked n order s).intake = (worked n order s).intake := (laned_acted n order s hdue).intake
      rw [e]
      exact readied_intake n order s hl

/-- Settles O13, by the parts of the frame start. -/
theorem frameStartAdoptsItsNumber : Obligations.FrameStartAdoptsItsNumber := by
  intro n cur order s hl hc
  obtain ⟨hcurrent, hprevious, hlink, hwatch, hcarriers⟩ := takeFrameStart_port n order hl
  have hadopt : (adopted n s).events = if n = cur + 1 then s.events else (s.report [occurrence .frameSlip 0]).events := by
    unfold adopted
    rw [hc]
    unfold adoptFrame
    dsimp only
    split <;> rfl
  refine ⟨_, exec_frameStart n order s, hcurrent, hprevious.trans hc, hlink, hwatch, fun c => ?_, fun hn => ?_,
    fun hn => ?_, takeFrameStart_staged .., takeFrameStart_hml ..⟩
  · rw [hcarriers, hc]
    simp only [Option.isSome_some, true_and, nextMissed]
  · rw [takeFrameStart_slip n order hl, hadopt, if_pos hn]
  · refine (grows_from_adopted n order hl).after ?_
    rw [hadopt, if_neg hn]
    exact latchedAfter_of_mem s.port.current s.events [occurrence .frameSlip 0] (occurrence .frameSlip 0) (by simp)

end Sys2Proof.Machine
end

section
/-! Signalling loss by a missing notice over a whole FRAME_START: O34. -/
namespace Sys2Proof.Machine

/-! ### The phase and a closed request through a frame start's work -/

/-- The phase stays, and a request that is NONE stays NONE. -/
structure StaysClosed (x y : RxContext) : Prop where
  phase : y.phase = x.phase
  closed : x.request.kind = .none → y.request.kind = .none

theorem StaysClosed.refl (x : RxContext) : StaysClosed x x := ⟨rfl, id⟩

theorem StaysClosed.trans {x y z : RxContext} (h : StaysClosed x y) (k : StaysClosed y z) : StaysClosed x z :=
  ⟨k.phase.trans h.phase, k.closed ∘ h.closed⟩

theorem cancelRequest_staysClosed (x : RxContext) : StaysClosed x (cancelRequest x) := by
  refine ⟨?_, fun _ => cancelRequest_kind x⟩
  unfold cancelRequest
  split <;> rfl

theorem rebaseRequest_staysClosed (x : RxContext) : StaysClosed x (rebaseRequest x) :=
  ⟨(rebaseRequest_sameNotes x).1, fun h => (congrArg (fun y : RxContext => y.request.kind) (rebaseRequest_closed h)).trans h⟩

theorem reloadUnlessPaused_staysClosed (env : RxEnv) (x : RxContext) : StaysClosed x (reloadUnlessPaused env x) := by
  unfold reloadUnlessPaused
  split <;> exact ⟨rfl, id⟩

theorem switchTo_staysClosed (env : RxEnv) (next : Nat) (x : RxContext) : StaysClosed x (switchTo env next x).1 := by
  by_cases h : next = x.active
  · rw [switchTo_same h]
    exact ⟨rfl, id⟩
  · rw [switchTo_changes h]
    refine StaysClosed.trans ?_ (rebaseRequest_staysClosed _)
    rw [switched_eq]
    exact ⟨rfl, id⟩

theorem guardTick_staysClosed (env : RxEnv) (x : RxContext) : StaysClosed x (guardTick env x) := by
  unfold guardTick
  split <;> exact ⟨rfl, id⟩

theorem armedTick_staysClosed (env : RxEnv) (x : RxContext) : StaysClosed x (armedTick env x).1 := by
  unfold armedTick
  split
  · split
    · exact switchTo_staysClosed ..
    · exact ⟨rfl, id⟩
  · exact .refl x

theorem timerTick_staysClosed (env : RxEnv) (x : RxContext) : StaysClosed x (timerTick env x).1 := by
  unfold timerTick timeOut
  split
  · split
    · dsimp only
      split
      · exact (cancelRequest_staysClosed x).trans (reloadUnlessPaused_staysClosed ..)
      · exact cancelRequest_staysClosed x
    · exact ⟨rfl, id⟩
  · exact .refl x

theorem rxFrameWork_staysClosed (env : RxEnv) (x : RxContext) : StaysClosed x (rxFrameWork env x).1 := by
  unfold rxFrameWork
  split
  · exact .refl x
  · exact ((guardTick_staysClosed env x).trans (armedTick_staysClosed env _)).trans (timerTick_staysClosed env _)

theorem rxCommit_staysClosed (env : RxEnv) (enable : Bool) (x : RxContext) :
    StaysClosed x (rxCommit env enable enable x).1 := by
  cases enable
  · exact .refl x
  · rw [rxCommit_stays]
    have hslip : StaysClosed x (slipAbsent env x).1 := by
      unfold slipAbsent
      split
      · exact StaysClosed.trans (y := reloadHold env { x with active := 0 }) ⟨rfl, id⟩ (rebaseRequest_staysClosed _)
      · exact .refl x
    have hdrop (y : RxContext) : StaysClosed y (dropAbsentSwitch env y) := by
      unfold dropAbsentSwitch
      split
      · split <;> exact ⟨rfl, id⟩
      · exact .refl y
    have hhigh (y : RxContext) : StaysClosed y (dropHighRequest env y) := by
      unfold dropHighRequest
      split
      · split
        · exact cancelRequest_staysClosed y
        · exact .refl y
      · exact .refl y
    exact ((hslip.trans (hdrop _)).trans (hhigh _)).trans ⟨rfl, id⟩

theorem commitWork_staysClosed (n : FrameNo) {s : State} {c : Carrier}
    (h : s.enabled c = (s.staged.carriers.get c).enable) : StaysClosed (s.rau.get c) ((commitWork n s).rau.get c) := by
  have hparts : StaysClosed (s.rau.get c) ((commitParts n s).rau.get c) := by
    have e : (committedLane s).enabled c = s.enabled c := h.symm
    rw [commitParts_rau, e]
    exact rxCommit_staysClosed ..
  rcases commitWork_rau n s c with e | e
  · rw [e]; exact hparts
  · rw [e]; exact hparts.trans (cancelRequest_staysClosed _)

/-! ### Attenuation through a commit -/

/-- atpc_atten is 0 under a hold. -/
def HeldAtZero (s : State) (c : Carrier) : Prop := powerHeld s c = true → (s.pcu.get c).atpc = 0

theorem powerCommit_zero {old new : CarrierParams} {other : Bool} {x : PowerCarrier}
    (h : x.atpc = 0 ∨ new.atpcEnable = false ∨ old.enable ≠ new.enable) (hen : new.enable = true) :
    (powerCommit old new other x).atpc = 0 := by
  unfold powerCommit
  rw [hen]
  cases hold : old.enable with
  | false => rfl
  | true =>
    dsimp only
    rcases h with h | h | h
    · split
      · rfl
      · split
        · split
          · exact h
          · exact h
        · simp [h]
    · simp [h]
    · exact absurd (hold.trans hen.symm) h

theorem commitWork_pcu_cases (n : FrameNo) (s : State) (c : Carrier) :
    ((commitWork n s).pcu.get c).atpc = ((commitParts n s).pcu.get c).atpc ∧
      (commitWork n s).fault.state = s.fault.state ∨
    ((commitWork n s).pcu.get c).atpc =
      if powerHeld (commitParts n s) c then ((commitParts n s).pcu.get c).atpc else 0 := by
  rw [commitWork_eq]
  unfold rederiveAfterCommit
  split
  · refine .inr ?_
    rw [linkAbort_pcu]
    rfl
  · exact .inl ⟨rfl, (commitParts_fault n s).1⟩

theorem commitWork_atpc_zero (n : FrameNo) {s : State} {c : Carrier} (hen : (s.staged.carriers.get c).enable = true)
    (h : (s.pcu.get c).atpc = 0) : ((commitWork n s).pcu.get c).atpc = 0 := by
  have hparts : ((commitParts n s).pcu.get c).atpc = 0 := by
    rw [commitParts_pcu]
    refine powerCommit_zero (.inl h) ?_
    rw [State.params_eq, commitParts_working]
    exact hen
  rcases commitWork_pcu_cases n s c with ⟨e, -⟩ | e
  · rw [e, hparts]
  · rw [e, hparts, ite_self]

/-- A commit that leaves a carrier enabled holds it at 0, where it is held. -/
theorem heldAtZero_commitWork (n : FrameNo) {s : State} {c : Carrier} (hl : s.port.link = .running)
    (hold : s.enabled c = true) (hen : (s.staged.carriers.get c).enable = true) (h : HeldAtZero s c) :
    HeldAtZero (commitWork n s) c := by
  intro hheld
  by_cases hz : (s.pcu.get c).atpc = 0
  · exact commitWork_atpc_zero n hen hz
  · have hfree : powerHeld s c = false := by
      cases hs : powerHeld s c
      · rfl
      · exact absurd (h hs) hz
    have hnochange : ¬ enableChanges s.working (stagedAsWorking s.staged) c = true := fun hc =>
      (enableChanges_iff s c).1 hc (hold.trans hen.symm)
    have hlost : (s.sig.get c).lost = false ∧ s.fault.state ≠ .aborted := by
      unfold powerHeld at hfree
      simp only [Bool.or_eq_false_iff, decide_eq_false_iff_not] at hfree
      exact ⟨hfree.1.1.2, hfree.1.2⟩
    have hnew : (commitParts n s).params c = s.staged.carriers.get c := by
      rw [State.params_eq, commitParts_working]
      rfl
    have hoff (hz : (s.staged.carriers.get c).atpcEnable = false) : ((commitParts n s).pcu.get c).atpc = 0 := by
      rw [commitParts_pcu, hnew]
      exact powerCommit_zero (.inr (.inl hz)) hen
    have hsame (u : State) (hw : u.working = stagedAsWorking s.staged)
        (hsig : (u.sig.get c) = s.sig.get c) (hlink : u.port.link = .running) (hstate : u.fault.state = s.fault.state)
        (hu : powerHeld u c = true) : (s.staged.carriers.get c).atpcEnable = false := by
      unfold powerHeld at hu
      rw [State.enabled_eq, State.params_eq, hw, hsig, hlink, hstate, hlost.1] at hu
      simp only [stagedAsWorking, hen, Bool.not_true, Bool.false_or, Bool.or_eq_true, Bool.not_eq_eq_eq_not,
        decide_eq_true_eq, Bool.or_false] at hu
      rcases hu with (hu | hu) | hu
      · exact hu
      · exact absurd hu hlost.2
      · cases hu
    have hsig (u : State) (e : u.sig.get c =
        if enableChanges s.working (stagedAsWorking s.staged) c = true then .initial else s.sig.get c) :
        u.sig.get c = s.sig.get c := e.trans (if_neg hnochange)
    rcases commitWork_pcu_cases n s c with ⟨e, hstate⟩ | e
    · rw [e]
      exact hoff (hsame _ (commitWork_working n s) (hsig _ (commitWork_sig n s c)) ((commitWork_link n s).trans hl) hstate hheld)
    · rw [e]
      split
      · next hp =>
        exact hoff (hsame _ (commitParts_working n s) (hsig _ (commitParts_sig n s c)) ((commitParts_link n s).trans hl)
          (commitParts_fault n s).1 hp)
      · rfl

/-! ### The watch over one carrier's signalling -/

/-- A context in service. -/
def Serving (x : RxContext) : Prop := x.phase = .acquire ∨ x.phase = .working

/-- A context that signalling loss has taken out of service. -/
def TakenOut (x : RxContext) : Prop := x.phase = .siglost ∧ x.request.kind = .none

/-- What holds for a carrier along a frame start that found it LINKED: as long as it is LINKED it stays in service and its
attenuation is 0 under a hold; once it is SIG_LOST the loss has been reported and has acted. -/
structure SigWatch (s : State) (c : Carrier) (u : State) : Prop where
  grows : Grows s.events u.events
  linked : (u.sig.get c).lost = false →
    (powerHeld s c = false → HeldAtZero u c) ∧ (Serving (s.rau.get c) → Serving (u.rau.get c))
  lost : (u.sig.get c).lost = true → LatchedAfter s.events u.events .sigLost c.toNat (some .enter) ∧
    (powerHeld s c = false → (u.pcu.get c).atpc = 0) ∧ (Serving (s.rau.get c) → TakenOut (u.rau.get c))

section
variable {s : State} {c : Carrier} {u v : State}

theorem SigWatch.start (h : (s.sig.get c).lost = false) : SigWatch s c s where
  grows := .refl _
  linked _ := ⟨fun hp hheld => absurd (hp.symm.trans hheld) (by decide), id⟩
  lost hlost := by rw [h] at hlost; cases hlost

/-- An operation that leaves the carrier's SIG state, keeps its attenuation's bounds, its phase and a closed request. -/
theorem SigWatch.step (hu : SigWatch s c u) (hg : Grows u.events v.events) (hsig : (v.sig.get c).lost = (u.sig.get c).lost)
    (hheld : HeldAtZero u c → HeldAtZero v c) (hzero : (u.pcu.get c).atpc = 0 → (v.pcu.get c).atpc = 0)
    (hserving : Serving (u.rau.get c) → Serving (v.rau.get c)) (hout : TakenOut (u.rau.get c) → TakenOut (v.rau.get c)) :
    SigWatch s c v where
  grows := hu.grows.trans hg
  linked h := by
    obtain ⟨h1, h2⟩ := hu.linked (hsig ▸ h)
    exact ⟨fun hp => hheld (h1 hp), fun hs => hserving (h2 hs)⟩
  lost h := by
    obtain ⟨h1, h2, h3⟩ := hu.lost (hsig ▸ h)
    exact ⟨hg.after h1, fun hp => hzero (h2 hp), fun hs => hout (h3 hs)⟩

theorem Serving.of_stays {x y : RxContext} (h : StaysClosed x y) (hx : Serving x) : Serving y := by
  unfold Serving
  rw [h.phase]
  exact hx

theorem TakenOut.of_stays {x y : RxContext} (h : StaysClosed x y) (hx : TakenOut x) : TakenOut y :=
  ⟨h.phase.trans hx.1, h.closed hx.2⟩

theorem SigWatch.same (hu : SigWatch s c u) (hg : Grows u.events v.events) (hsig : v.sig.get c = u.sig.get c)
    (hheld : powerHeld v c = powerHeld u c) (hpcu : (v.pcu.get c).atpc = (u.pcu.get c).atpc)
    (hrau : StaysClosed (u.rau.get c) (v.rau.get c)) : SigWatch s c v :=
  hu.step hg (congrArg SigCarrier.lost hsig) (fun h hv => by rw [hpcu]; exact h (hheld ▸ hv)) (fun h => hpcu.trans h)
    (Serving.of_stays hrau) (TakenOut.of_stays hrau)

theorem takeHandover_serving (env : RxEnv) (h : Handover) {x : RxContext} (hx : Serving x) :
    Serving (takeHandover env h x) := by
  unfold takeHandover
  rcases hx with hx | hx <;> rw [hx] <;> dsimp only
  · split
    · exact .inr rfl
    · exact .inl hx
  · split
    · refine .inr ?_
      have hphase : (decide76 env h x).1.phase = x.phase := by
        unfold decide76 upgradeTest reloadUnlessPaused
        split
        · split <;> rfl
        · rfl
        · split
          · rfl
          · split
            · rfl
            · split
              · rfl
              · split <;> rfl
        · rfl
      have happly (d : Option (ReqKind × Nat)) (y : RxContext) : (applyDecision env d y).phase = y.phase := by
        unfold applyDecision
        split
        · split <;> rfl
        · split
          · exact ((reloadUnlessPaused_staysClosed env _).phase).trans (cancelRequest_staysClosed y).phase
          · rfl
      exact (happly _ _).trans (hphase.trans hx)
    · exact .inr hx

theorem takeHandover_takenOut (env : RxEnv) (h : Handover) {x : RxContext} (hx : TakenOut x) :
    takeHandover env h x = x := by
  unfold takeHandover
  rw [hx.1]

theorem SigWatch.takeBlind (hu : SigWatch s c u) (d : Carrier) : SigWatch s c (takeBlind d u) := by
  have hg : Grows u.events (Machine.takeBlind d u).events := reported_takeReport d none none 0 u fun _ => trivial
  by_cases hd : c = d
  · subst hd
    have hheld : powerHeld (Machine.takeBlind c u) c = powerHeld u c :=
      powerHeld_congr (by simp [Machine.takeBlind]) (by simp [Machine.takeBlind]) (by simp [Machine.takeBlind])
        (by simp [Machine.takeBlind]) c
    have hpcu : (Machine.takeBlind c u).pcu = u.pcu := by simp [Machine.takeBlind]
    refine hu.step hg (by simp [Machine.takeBlind]) (fun h hv => ?_) (fun h => by rw [hpcu]; exact h) (fun h => ?_)
      (fun h => ?_)
    · rw [hpcu]
      exact h (hheld ▸ hv)
    · rw [takeBlind_rau, Four.get_set_same]
      exact takeHandover_serving _ _ h
    · rw [takeBlind_rau, Four.get_set_same, takeHandover_takenOut _ _ h]
      exact h
  · have h := (takeBlind_actsAt d).others u c hd
    exact hu.same hg h.sig (((takeBlind_keeps d u).view).powerHeld h) (congrArg PowerCarrier.atpc h.pcu)
      (by rw [h.rau]; exact .refl _)

theorem rxSigLoss_takesOut {x : RxContext} (hx : Serving x) : TakenOut (rxSigLoss x) := by
  obtain ⟨h1, h2, -⟩ := rxSigLoss_items hx
  exact ⟨h1, h2⟩

theorem SigWatch.takeInvalid (hu : SigWatch s c u) (d : Carrier) : SigWatch s c (takeInvalid d u) := by
  have hg : Grows u.events (Machine.takeInvalid d u).events := reported_takeInvalid d u fun _ => trivial
  by_cases hd : c = d
  · subst hd
    rw [takeInvalid_eq] at hg ⊢
    by_cases hloses : losesSig u c = true
    · rw [if_pos hloses] at hg ⊢
      obtain ⟨hlinked, -⟩ := (losesSig_iff u c).1 hloses
      obtain ⟨hzero, hserving⟩ := hu.linked hlinked
      refine ⟨hu.grows.trans hg, fun h => ?_, fun _ => ⟨hu.grows.before ?_, fun hp => ?_, fun hs => ?_⟩⟩
      · rw [enterSigLost_sig, Four.get_set_same] at h
        cases h
      · rw [enterSigLost_events]
        exact latchedAfter_of_mem _ _ _ { kind := .sigLost, index := c.toNat, edge := some .enter } (by simp)
      · rw [enterSigLost_pcu]
        split
        · rfl
        · next h =>
          refine hzero hp ?_
          cases hheld : powerHeld u c
          · exact absurd ⟨rfl, hheld⟩ h
          · rfl
      · rw [enterSigLost_rau, Four.get_set_same]
        exact rxSigLoss_takesOut (hserving hs)
    · rw [if_neg hloses] at hg ⊢
      have hlost : ((storeSig c (invalidCounted (u.sig.get c)) u).sig.get c).lost = (u.sig.get c).lost := by
        rw [storeSig, State.setSig_sig, Four.get_set_same]
        unfold invalidCounted
        split <;> rfl
      have hheld : powerHeld (storeSig c (invalidCounted (u.sig.get c)) u) c = powerHeld u c :=
        powerHeld_storeSig (by unfold invalidCounted; split <;> rfl) c
      exact hu.step hg hlost (fun h hv => h (hheld ▸ hv)) id id id
  · have h := (takeInvalid_actsAt d).others u c hd
    exact hu.same hg h.sig ((((takeInvalid_actsAt d).keeps u).view).powerHeld h) (congrArg PowerCarrier.atpc h.pcu)
      (by rw [h.rau]; exact .refl _)

theorem SigWatch.handovers (hu : SigWatch s c u) (order : FrameOrder) (counted missing : Four Bool)
    (time : HandoverTime) : SigWatch s c (handovers order counted missing time u) :=
  handovers_keeps (P := SigWatch s c) (fun d _ h => SigWatch.takeBlind h d) (fun d _ h => SigWatch.takeInvalid h d) order
    counted missing time hu
end

/-- The watch over a whole frame start in RUNNING, for a carrier enabled before and after it. -/
theorem sigWatch_takeFrameStart (n : FrameNo) (order : FrameOrder) {s : State} (hl : s.port.link = .running) {c : Carrier}
    (hlinked : (s.sig.get c).lost = false) (hen : s.enabled c = true)
    (hafter : (takeFrameStart n order s).enabled c = true) : SigWatch s c (takeFrameStart n order s) := by
  have hadopted : SigWatch s c (adopted n s) := by
    refine (SigWatch.start hlinked).same (grows_adopted n s) (by rw [adopted_sig])
      (powerHeld_congr (adopted_working n s) (adopted_sig n s) (by rw [adopted_fault]) ((adopted_link n s hl).trans hl.symm) c)
      (by rw [adopted_pcu]) (by rw [adopted_rau]; exact .refl _)
  have hfound : SigWatch s c (found n order s) := by
    rw [found_running n order s hl]
    exact hadopted.handovers ..
  have hlink : (found n order s).port.link = .running :=
    (congrArg Port.link (found_keeps n order s hl).port).trans (adopted_link n s hl)
  have hreadied : SigWatch s c (readied n order s) := by
    have hport : (readied n order s).port = (found n order s).port :=
      (readied_port n order s hl).trans (found_keeps n order s hl).port.symm
    have hrau : (readied n order s).rau = (found n order s).rau := by rw [readied_running n order s hl]; rfl
    have hfault : (readied n order s).fault = (found n order s).fault := by rw [readied_running n order s hl]; rfl
    refine hfound.same (reported_readied allowsBlocks_true n order s hl) (by rw [readied_sig])
      (powerHeld_congr ((readied_working n order s).trans (found_working n order s).symm) (readied_sig n order s)
        (by rw [hfault]) (by rw [hport]) c) ?_ (by rw [hrau]; exact .refl _)
    rw [readied_pcu n order s hl, (powerShadowTick_same _).1]
    rfl
  have hworked : SigWatch s c (worked n order s) := by
    refine hreadied.same (reported_worked allowsBlocks_true n order s) rfl (powerHeld_congr rfl rfl rfl rfl c) rfl ?_
    have e : (worked n order s).rau = (rauWork (readied n order s)).rau := rfl
    rw [e, rauWork_get]
    exact rxFrameWork_staysClosed ..
  have hlaned : SigWatch s c (laned n order s) := by
    have hg := grows_laned n order s
    cases hdue : commitDue s with
    | false =>
      have h := laned_acted n order s hdue
      exact hworked.same hg (by rw [h.sig]) (powerHeld_congr h.working h.sig (by rw [h.fault]) (by rw [h.port]) c)
        (h.pcu c).1 (by rw [h.rau]; exact .refl _)
    | true =>
      have hnew : (s.staged.carriers.get c).enable = true := by
        rw [takeFrameStart_enabled, enabledAfter, if_pos hdue] at hafter
        exact hafter
      rw [laned_commit n order s hdue] at hg ⊢
      have hw : (worked n order s).enabled c = s.enabled c := State.enabled_congr (worked_working n order s) c
      have hst : ((worked n order s).staged.carriers.get c).enable = true := by rw [worked_staged]; exact hnew
      have hlinkw : (worked n order s).port.link = .running :=
        (congrArg Port.link (readied_port n order s hl)).trans (adopted_link n s hl)
      have hstays : (worked n order s).enabled c = ((worked n order s).staged.carriers.get c).enable := by
        rw [hw, hen, hst]
      have hclosed := commitWork_staysClosed n hstays
      refine hworked.step hg ?_ (heldAtZero_commitWork n hlinkw (hw.trans hen) hst) (commitWork_atpc_zero n hst)
        (Serving.of_stays hclosed) (TakenOut.of_stays hclosed)
      rw [commitWork_sig, if_neg]
      exact fun hc => (enableChanges_iff _ c).1 hc hstays
  have hblocked : SigWatch s c (blocked n order s) := by
    refine hlaned.same (reported_blocked allowsBlocks_true n order s) rfl (powerHeld_congr rfl rfl rfl rfl c) ?_ (.refl _)
    rw [blocked_pcu]
  rw [takeFrameStart_eq]
  have hstart : SigWatch s c (startWatch (blocked n order s)) :=
    hblocked.same (.refl _) rfl (powerHeld_congr rfl rfl rfl rfl c) rfl (.refl _)
  have hmid := hstart.handovers order (countedAt s) (missingAt s) .beforeFields
  have hdelivered : SigWatch s c (deliver n (handovers order (countedAt s) (missingAt s) .beforeFields
      (startWatch (blocked n order s)))) :=
    hmid.same (.refl _) rfl (powerHeld_congr rfl rfl rfl rfl c) rfl (.refl _)
  exact hdelivered.handovers order (countedAt s) (missingAt s) .last

/-! ### O34 -/

/-- Settles O34: the cases of `takeFieldIn` and `takeInvalid`, and at a frame start `takeFrameStart_sig` and the watch over
the carrier. -/
theorem invalidFieldReachesNoOtherBlock : Obligations.InvalidFieldReachesNoOtherBlock := by
  intro c field s
  refine ⟨fun h => congrArg Host.Outcome.next (takeFieldIn_discarded h field), fun hl hcur hen hnew hinvalid => ?_, fun n cur order hl hcur => ?_⟩
  · have htaken := exec_fieldIn_taken (field := field) hl hcur hen hnew
    have hhand : handField c field (fieldNoted c s) = takeInvalid c (fieldNoted c s) := handField_invalid hinvalid
    rw [htaken, hhand]
    exact ⟨fun h1 h2 => congrArg Host.Outcome.next (takeInvalid_counts (s := fieldNoted c s) h1 h2),
      fun h1 => congrArg Host.Outcome.next (takeInvalid_lost (s := fieldNoted c s) h1)⟩
  · have hsome : s.port.current.isSome = true := by rw [hcur]; rfl
    refine ⟨_, exec_frameStart n order s, ?_⟩
    intro x link noticed
    have hmissing : (missingAt s).get c = true ↔ noticed := by
      rw [missingAt_get, Bool.and_eq_true, countedAt_iff n order s hl]
      simp [noticed, hsome, and_assoc]
    have hlink : link = (if order.notices = .beforeBlocks then s.working else (takeFrameStart n order s).working).link := by
      unfold link
      split <;> rfl
    have hsig (h : noticed) : (takeFrameStart n order s).sig.get c = sigAfterInvalid link.sigLoss x := by
      rw [takeFrameStart_sig n order hl c (h.1.trans h.2.1.symm), if_pos (hmissing.2 h), ← hlink]
    refine ⟨fun hno hsame => ?_, fun h hlost => ?_, fun h hlinked hrun => ?_, fun h hlinked hrun => ?_⟩
    · rw [takeFrameStart_sig n order hl c hsame, if_neg fun hm => hno (hmissing.1 hm)]
    · rw [hsig h, sigAfterInvalid, if_pos hlost]
    · rw [hsig h, sigAfterInvalid, if_neg (by rw [hlinked]; decide), if_neg (by omega)]
    · have e : (takeFrameStart n order s).sig.get c = { x with lost := true, invalidRun := 0, validRun := 0 } := by
        rw [hsig h, sigAfterInvalid, if_neg (by rw [hlinked]; decide), if_pos hrun]
      obtain ⟨h1, h2, h3⟩ := (sigWatch_takeFrameStart n order hl hlinked h.1 h.2.1).lost (by rw [e])
      exact ⟨e, h1, h2, h3⟩

end Sys2Proof.Machine
end

section
/-! One carrier's items at a FRAME_START without hand-overs for it, the receive unit's frame-start work step by step, and
O15 and O23. -/
namespace Sys2Proof.Machine

/-! ### A carrier without hand-overs -/

section
variable (n : FrameNo) (order : FrameOrder) {s : State} (hl : s.port.link = .running) (c : Carrier)
include hl

theorem blindDue_adopted (hc : (countedAt s).get c = true) :
    blindDue (adopted n s) c = decide (s.working.link.reportLoss ≤ nextMissed s c) := by
  rw [blindDue_counted c hc (adopted_carriers n s hl c), adopted_working]

theorem blindDue_blocked (hc : (countedAt s).get c = true) {u : State} (hu : HandKeeps (blocked n order s) u) :
    blindDue u c = decide ((takeFrameStart n order s).working.link.reportLoss ≤ nextMissed s c) := by
  have hcarriers := (congrArg (fun p : Port => p.carriers.get c) hu.port).trans (laned_carriers n order hl c)
  rw [blindDue_counted c hc hcarriers, hu.working, (takeFrameStart_keeps n order s).working]

/-- A carrier with neither a blind report nor a missing notice is moved by the blocks' work alone. -/
theorem quiet_own
    (hblind : (countedAt s).get c = true → nextMissed s c < s.working.link.reportLoss ∧
      nextMissed s c < (takeFrameStart n order s).working.link.reportLoss)
    (hnotice : (missingAt s).get c = false) :
    SameAt c (adopted n s) (found n order s) ∧ SameAt c (blocked n order s) (takeFrameStart n order s) := by
  have hfirst : handOne order (countedAt s) (missingAt s) .beforeBlocks c (adopted n s) = adopted n s := by
    refine handOne_none (fun hc => ?_) hnotice
    rw [blindDue_adopted n hl c hc, decide_eq_false_iff_not]
    have := (hblind hc).1
    omega
  have hlater (time : HandoverTime) :
      handOne order (countedAt s) (missingAt s) time c (blocked n order s) = blocked n order s := by
    refine handOne_none (fun hc => ?_) hnotice
    rw [blindDue_blocked n order hl c hc (.refl _), decide_eq_false_iff_not]
    have := (hblind hc).2
    omega
  have hfound := found_own n order s hl c
  have hend := takeFrameStart_own n order s c
  rw [hfirst] at hfound
  rw [hlater, hlater] at hend
  exact ⟨hfound, hend⟩

theorem quiet_of_noHandover (hdue : commitDue s = false) (h : NoHandover s c) :
    SameAt c (adopted n s) (found n order s) ∧ SameAt c (blocked n order s) (takeFrameStart n order s) := by
  have hw : (takeFrameStart n order s).working = s.working := by
    rw [takeFrameStart_working, hdue]
    rfl
  have hcount : (countedAt s).get c = true → (s.port.carriers.get c).fieldTaken = true ∧
      nextMissed s c < s.working.link.reportLoss := by
    intro hc
    obtain ⟨h1, h2, -⟩ := (countedAt_iff n order s hl c).1 hc
    rcases h with h | h | h
    · rw [h] at h1; cases h1
    · rw [h2] at h; cases h
    · exact h
  refine quiet_own n order hl c (fun hc => ⟨(hcount hc).2, by rw [hw]; exact (hcount hc).2⟩) ?_
  rw [missingAt_get]
  cases hc : (countedAt s).get c
  · rfl
  · rw [(hcount hc).1]; rfl

/-! ### The receive context through a frame start without a commit -/

/-- The environment of the receive unit's frame-start work: SCAN read after the count of the grace. -/
def frameEnv (s : State) (c : Carrier) : RxEnv := { rxEnv s c with scan := decide (1 < s.monitor.grace.get c) }

theorem worked_rau : (worked n order s).rau.get c = (rxFrameWork (frameEnv s c) ((found n order s).rau.get c)).1 := by
  have e : (worked n order s).rau = (rauWork (readied n order s)).rau := rfl
  have hrau : (readied n order s).rau = (found n order s).rau := by rw [readied_running n order s hl]; rfl
  rw [e, rauWork_get, readied_rxEnv n order s hl, hrau]
  rfl

theorem blocked_rau (hdue : commitDue s = false) :
    (blocked n order s).rau.get c = (rxFrameWork (frameEnv s c) ((found n order s).rau.get c)).1 := by
  have e : (blocked n order s).rau = (laned n order s).rau := rfl
  rw [e, (laned_acted n order s hdue).rau, worked_rau n order hl]

/-- Where nothing is handed over, the context is what the unit's frame-start work makes of it. -/
theorem takeFrameStart_rau_quiet (hdue : commitDue s = false) (h : NoHandover s c) :
    (takeFrameStart n order s).rau.get c = (rxFrameWork (frameEnv s c) (s.rau.get c)).1 := by
  obtain ⟨h1, h2⟩ := quiet_of_noHandover n order hl c hdue h
  rw [h2.rau, blocked_rau n order hl c hdue, h1.rau, adopted_rau]

/-- The profile, the armed switch and the guard are as the frame-start work leaves them of a context that had them as
before. -/
theorem takeFrameStart_rau_switching (hdue : commitDue s = false) :
    ∃ x, SameSwitching (s.rau.get c) x ∧
      SameSwitching (rxFrameWork (frameEnv s c) x).1 ((takeFrameStart n order s).rau.get c) := by
  refine ⟨(found n order s).rau.get c, ?_, ?_⟩
  · rw [(found_own n order s hl c).rau, ← adopted_rau n s]
    exact handOne_sameSwitching ..
  · rw [← blocked_rau n order hl c hdue, (takeFrameStart_own n order s c).rau]
    exact (handOne_sameSwitching ..).trans (handOne_sameSwitching ..)
end

/-! ### The steps of the frame-start work -/

section
variable (env : RxEnv) {x : RxContext}

theorem rxFrameWork_steps (h : x.phase ≠ .standby) :
    (rxFrameWork env x).1 = (timerTick env (armedTick env (guardTick env x)).1).1 := by
  unfold rxFrameWork
  rw [if_neg h]

theorem rxFrameWork_standby (h : x.phase = .standby) : (rxFrameWork env x).1 = x := by
  unfold rxFrameWork
  rw [if_pos h]

/-- The guard's counter step moves the guard alone. -/
theorem guardTick_eq (x : RxContext) : guardTick env x =
    { x with upCounter := min 65535 (x.upCounter + 1), m := (guardTick env x).m,
             guardOpen := (guardTick env x).guardOpen } := by
  unfold guardTick
  split <;> rfl

theorem guardTick_guard (x : RxContext) :
    (guardTick env x).m = (if windowExpires env x = true then max 1 (x.m / 2) else x.m) ∧
    (guardTick env x).guardOpen = if windowExpires env x = true then false else x.guardOpen := by
  unfold guardTick
  split <;> exact ⟨rfl, rfl⟩

theorem windowExpires_iff (x : RxContext) : windowExpires env x = true ↔
    x.guardOpen = true ∧ env.link.pingpongWindow ≤ min 65535 (x.upCounter + 1) := by
  simp [windowExpires]

theorem armedTick_none (h : x.armed = none) : armedTick env x = (x, []) := by
  unfold armedTick
  rw [h]

theorem armedTick_counts {ar : Armed} (h : x.armed = some ar) (hr : 2 ≤ ar.remaining) :
    armedTick env x = ({ x with armed := some { ar with remaining := ar.remaining - 1 } }, []) := by
  have hdue : switchDue x = false := by
    unfold switchDue
    rw [h]
    exact decide_eq_false (by omega)
  unfold armedTick
  rw [h]
  dsimp only
  rw [hdue]
  rfl

theorem armedTick_due {ar : Armed} (h : x.armed = some ar) (hr : ar.remaining ≤ 1) :
    armedTick env x = switchTo env ar.next x := by
  have hdue : switchDue x = true := by
    unfold switchDue
    rw [h]
    exact decide_eq_true hr
  unfold armedTick
  rw [h]
  dsimp only
  rw [hdue]
  rfl

theorem timerTick_none (h : x.timer = none) : timerTick env x = (x, []) := by
  unfold timerTick
  rw [h]

theorem timerTick_counts {v : Nat} (h : x.timer = some v) (hv : v + 1 < env.link.answerTimeout) :
    timerTick env x = ({ x with timer := some (v + 1) }, []) := by
  have hdue : timeoutDue env x = false := by
    unfold timeoutDue
    rw [h]
    exact decide_eq_false (by omega)
  unfold timerTick
  rw [h]
  dsimp only
  rw [hdue]
  rfl

theorem timerTick_due {v : Nat} (h : x.timer = some v) (hv : env.link.answerTimeout ≤ v + 1) :
    timerTick env x = timeOut env x := by
  have hdue : timeoutDue env x = true := by
    unfold timeoutDue
    rw [h]
    exact decide_eq_true hv
  unfold timerTick
  rw [h]
  dsimp only
  rw [hdue]
  rfl

/-- The timer's step moves the request, the hold count and the timer alone. -/
theorem timerTick_sameSwitching (x : RxContext) : SameSwitching x (timerTick env x).1 := by
  unfold timerTick timeOut
  split
  · split
    · dsimp only
      split
      · exact (cancelRequest_sameSwitching x).trans (reloadUnlessPaused_sameSwitching env _)
      · exact cancelRequest_sameSwitching x
    · exact .of_request x _ _ _
  · exact .refl x

/-- With no armed switch the guard and the timer alone move. -/
theorem rxFrameWork_unarmed (h : x.phase ≠ .standby) (ha : x.armed = none) :
    (rxFrameWork env x).1 = (timerTick env (guardTick env x)).1 := by
  have hg : (guardTick env x).armed = none := by rw [guardTick_eq]; exact ha
  rw [rxFrameWork_steps env h, armedTick_none env hg]
end

/-! ### O15 -/

theorem blocked_link (n : FrameNo) (order : FrameOrder) (s : State) : (blocked n order s).port.link = .running := by
  have e : (blocked n order s).port = (laned n order s).port := rfl
  rw [e]
  cases hl : s.port.link with
  | running => exact laned_link n order hl
  | frameLost =>
    have hw : (worked n order s).port.link = .running := by
      have e : (worked n order s).port = (readied n order s).port := rfl
      rw [e, readied_lost n order s hl, restored_link]
    cases h : commitDue s with
    | true => rw [laned_commit n order s h, commitWork_link, hw]
    | false => rw [(laned_acted n order s h).port, hw]

theorem countedAt_of_not_running {s : State} (h : s.frameRunning = false) : countedAt s = .fill false ∧
    missingAt s = .fill false := by
  unfold countedAt missingAt
  rw [h]
  exact ⟨rfl, rfl⟩

/-- The composed field reads nothing of the port. -/
theorem composeField_deliver (n : FrameNo) (s : State) (c : Carrier) :
    composeField (deliver n s) c = composeField s c := rfl

/-- Settles O15: the deliveries are gathered in the tail of the frame start (`frameTail`). -/
theorem frameStartDeliversSettingsAndFields : Obligations.FrameStartDeliversSettingsAndFields := by
  intro n order s
  let x := handovers order (countedAt s) (missingAt s) .beforeFields (startWatch (blocked n order s))
  let u := deliver n x
  have ht : takeFrameStart n order s = handovers order (countedAt s) (missingAt s) .last u := takeFrameStart_eq ..
  have hkeep : HandKeeps u (takeFrameStart n order s) := by rw [ht]; exact handovers_handKeeps ..
  have hown (c : Carrier) : SameAt c (handOne order (countedAt s) (missingAt s) .last c u) (takeFrameStart n order s) := by
    rw [ht]
    exact handovers_own ..
  have hxlink : x.port.link = .running :=
    (congrArg Port.link (handovers_handKeeps order (countedAt s) (missingAt s) .beforeFields
      (startWatch (blocked n order s))).port).trans (blocked_link n order s)
  have hen (c : Carrier) : (takeFrameStart n order s).enabled c = x.enabled c := State.enabled_congr hkeep.working c
  have hactive (c : Carrier) : ((takeFrameStart n order s).rau.get c).active = (x.rau.get c).active := by
    rw [(hown c).rau, (handOne_sameSwitching ..).active]
    rfl
  have heff (c : Carrier) : ((takeFrameStart n order s).pcu.get c).eff = (x.pcu.get c).eff := by
    rw [(hown c).pcu, (handOne_pcu_rest ..).2.2]
    rfl
  have htx (c : Carrier) : (takeFrameStart n order s).txActive c = x.txActive c := hkeep.txActive c
  have hworking : (takeFrameStart n order s).working = x.working := hkeep.working
  have hmapper : (takeFrameStart n order s).mapper = x.mapper := hkeep.mapper
  have hfield (c : Carrier) : (takeFrameStart n order s).port.fieldOut.get c =
      if x.enabled c then some { frame := n, bytes := composeField x c } else none := by
    have e : (takeFrameStart n order s).port.fieldOut = u.port.fieldOut := congrArg Port.fieldOut hkeep.port
    rw [e]
    exact Four.get_ofFn ..
  have hout (c : Carrier) : ∀ out ∈ (takeFrameStart n order s).port.fieldOut.get c,
      out.frame = n ∧ out.bytes = composeField x c := by
    intro out h
    rw [hfield] at h
    split at h
    · cases h
      exact ⟨rfl, rfl⟩
    · cases h
  have hquiet (h1 : order.reports ≠ .last) (h2 : order.notices ≠ .last) : takeFrameStart n order s = u := by
    rw [ht]
    unfold handovers
    dsimp only
    rw [if_neg h1, if_neg h2]
  refine ⟨_, exec_frameStart n order s, fun c => ?_, fun c => ?_, fun c out h => (hout c out h).1, fun h1 h2 c out h => ?_,
    u, fun c out h => (hout c out h).2, fun c => (htx c).symm, hkeep.announcement.symm, hkeep.fault.symm,
    hkeep.working.symm, fun h => ?_, fun hl hcur => ?_⟩
  · have e : (takeFrameStart n order s).port.settings = u.port.settings := congrArg Port.settings hkeep.port
    have hs : u.port.settings.get c = some (gatherSettings x n c) := Four.get_ofFn ..
    rw [e, hs, hen, hworking, hactive, heff, htx, hmapper]
    unfold gatherSettings txOutput
    split
    · next h => rw [h, hxlink]; rfl
    · rfl
  · rw [hfield, hen]
    cases x.enabled c <;> rfl
  · rw [hquiet h1 h2]
    exact (hout c out h).2
  · have hr : s.frameRunning = false := by
      rcases h with h | h
      · exact frameRunning_of_lost h
      · exact frameRunning_of_none h
    obtain ⟨h1, h2⟩ := countedAt_of_not_running hr
    rw [ht, h1, h2]
    exact handovers_fill_false ..
  · have hiff := countedAt_iff n order s hl
    have hcount (c : Carrier) : (countedAt s).get c = (s.enabled c && (takeFrameStart n order s).enabled c) := by
      rw [Bool.eq_iff_iff, hiff, Bool.and_eq_true]
      simp [hcur]
    refine ⟨countedAt s, missingAt s, hcount, fun c => ?_, ?_⟩
    · rw [missingAt_get, hcount]
    · rw [ht]
      rfl

/-! ### O23 -/

theorem asked_request (k : ReqKind) (t : Nat) (x : RxContext) :
    (asked k t x).request.kind = k ∧ (asked k t x).request.target = some t := by
  unfold asked
  split
  · next h => exact h
  · exact ⟨rfl, rfl⟩

/-- A blind report asks for P0 (R77). -/
theorem takeHandover_blind_base {env : RxEnv} {h : Handover} {x : RxContext} (hphase : x.phase = .working)
    (hrun : env.running = true) (hactive : 0 < x.active) (harmed : x.armed = none)
    (hmem : ∀ r ∈ x.refused, r.target ≠ 0) (hblind : h.blind = true) :
    (takeHandover env h x).request.kind = .urgent ∧ (takeHandover env h x).request.target = some 0 := by
  have he : takeHandover env h x = evaluateReport env h x := by simp only [takeHandover, hphase, hrun, if_true]
  have htarget : downgradeTarget env x.active h = some 0 := by
    unfold downgradeTarget
    rw [hblind]
    simp [hactive]
  have hkind : downgradeKind env x.active 0 h = .urgent := by simp [downgradeKind, hblind]
  have hno : ¬ MemorySuppresses env x 0 := by
    rintro ⟨r, -, hr, -, ht, -⟩
    exact hmem r hr ht
  have hdown := (evaluateReport_downgrade (h := h) htarget harmed).1 hno
  rw [he, hdown, hkind]
  exact asked_request ..

theorem estimateReport_falls {w : WorkingSet} {c : Carrier} {x : EstRecord} {before : Estimate} (hx : x.est = some before)
    (h : 16 * (w.link.fastDrop : Int) < before.e) :
    ∃ after, (estimateReport w c none x).1.est = some after ∧ after.e = 0 := by
  rw [estimateReport_eq]
  refine ⟨_, rfl, ?_⟩
  obtain ⟨-, hlater⟩ := nextEstimate_cases w.link x.est (sampleOf none)
  rw [(hlater before hx).1]
  exact filterEstimate_of_fastAttack (by simp only [sampleOf]; omega)

theorem takeBlind_same (c : Carrier) (s : State) : takeBlind c s =
    { s with est := (takeBlind c s).est, rau := (takeBlind c s).rau, events := (takeBlind c s).events } := by
  apply State.ext_items <;> simp [takeBlind]

theorem execBlindReport_due {c : Carrier} {s : State} (hl : s.port.link = .running) (hcur : s.port.current.isSome = true)
    (hen : s.enabled c = true) (hdue : s.working.link.reportLoss ≤ (s.port.carriers.get c).missed) :
    exec (.blindReport c) s = .next (takeBlind c s) :=
  congrArg Host.Outcome.next (onOccasion_true (by simp [State.frameRunning, hl, hcur, hen, blindDue, hdue]) _ _)

theorem execBlindReport_idle {c : Carrier} {s : State} (h : s.port.link = .frameLost ∨ s.port.current = none ∨
    s.enabled c = false ∨ (s.port.carriers.get c).missed < s.working.link.reportLoss) :
    exec (.blindReport c) s = .next s := by
  refine congrArg Host.Outcome.next (onOccasion_false ?_ _ _)
  rcases h with h | h | h | h
  · simp [State.frameRunning, h]
  · simp [State.frameRunning, h]
  · simp [h]
  · have hdue : blindDue s c = false := decide_eq_false (by omega)
    rw [hdue, Bool.and_false]

/-- A carrier that asks for nothing and counts no answer only moves its guard at a frame start. -/
theorem rxFrameWork_idle (env : RxEnv) {x : RxContext} (h : x.phase ≠ .standby) (ha : x.armed = none) (ht : x.timer = none) :
    (rxFrameWork env x).1 = guardTick env x := by
  rw [rxFrameWork_unarmed env h ha, timerTick_none]
  rw [guardTick_eq]
  exact ht

/-- A carrier whose answer timer has just started keeps its request at a frame start. -/
theorem rxFrameWork_request (env : RxEnv) {x : RxContext} (ha : x.armed = none) (ht : ∀ v ∈ x.timer, v = 0)
    (hlimit : 2 ≤ env.link.answerTimeout) : (rxFrameWork env x).1.request = x.request := by
  by_cases h : x.phase = .standby
  · rw [rxFrameWork_standby env h]
  · have hg := guardTick_eq env x
    rw [rxFrameWork_unarmed env h ha]
    cases hv : x.timer with
    | none =>
      rw [timerTick_none env (by rw [hg]; exact hv), hg]
    | some v =>
      have hzero : v = 0 := ht v hv
      rw [timerTick_counts env (v := v) (by rw [hg]; exact hv) (by omega), hg]

theorem asked_timer_start (env : RxEnv) (h : Handover) {x : RxContext} (ht : x.timer = none) :
    ∀ v ∈ (takeHandover env h x).timer, v = 0 := by
  have happly (d : Option (ReqKind × Nat)) (y : RxContext) (hy : y.timer = none) :
      ∀ v ∈ (applyDecision env d y).timer, v = 0 := by
    unfold applyDecision
    split
    · split
      · rw [hy]; intro v hv; cases hv
      · intro v hv; cases hv; rfl
    · split
      · have hc : (cancelRequest y).timer = none := by
          unfold cancelRequest
          split
          · rfl
          · exact hy
        have hr : (reloadUnlessPaused env (cancelRequest y)).timer = none := by
          unfold reloadUnlessPaused
          split
          · exact hc
          · exact hc
        rw [hr]; intro v hv; cases hv
      · rw [hy]; intro v hv; cases hv
  have hdecide : (decide76 env h x).1.timer = x.timer := by
    unfold decide76 upgradeTest reloadUnlessPaused
    split
    · split <;> rfl
    · rfl
    · split
      · rfl
      · split
        · rfl
        · split
          · rfl
          · split <;> rfl
    · rfl
  unfold takeHandover
  split
  · split
    · rw [show (passToWorking env x).timer = none from ht]; intro v hv; cases hv
    · rw [ht]; intro v hv; cases hv
  · split
    · exact happly _ _ (hdecide.trans ht)
    · rw [ht]; intro v hv; cases hv
  · rw [ht]; intro v hv; cases hv
  · rw [ht]; intro v hv; cases hv

/-- What a blind report hands over (R35). -/
def blindHandover (s : State) (c : Carrier) : Handover :=
  { pr := (nextEstimate s.working.link (s.est.get c).est (sampleOf none)).pr, blind := true, errors := 0 }

theorem handOne_rau_of {order : FrameOrder} {counted missing : Four Bool} {time : HandoverTime} {c : Carrier} {s : State}
    (hn : ¬ noticeAt order missing time c) (h : blindAt order counted time c s) :
    (handOne order counted missing time c s).rau.get c =
      takeHandover (rxEnv s c) (blindHandover s c) (s.rau.get c) := by
  rw [handOne_eq_of_not _ _ _ _ _ _ hn, blindPart_of _ _ _ _ _ h, takeBlind_rau, Four.get_set_same]
  rfl

theorem handOne_rau_of_not {order : FrameOrder} {counted missing : Four Bool} {time : HandoverTime} {c : Carrier} {s : State}
    (hn : ¬ noticeAt order missing time c) (h : ¬ blindAt order counted time c s) :
    (handOne order counted missing time c s).rau.get c = s.rau.get c := by
  rw [handOne_eq_of_not _ _ _ _ _ _ hn, blindPart_of_not _ _ _ _ _ h]

/-- The blind report of a frame start asks for P0, whenever it is handed over. -/
theorem takeFrameStart_asks_base (n : FrameNo) (order : FrameOrder) {s : State} (hl : s.port.link = .running) {c : Carrier}
    (hdue : commitDue s = false) (hcount : (countedAt s).get c = true) (hloss : s.working.link.reportLoss ≤ nextMissed s c)
    (hlimit : 2 ≤ s.working.link.answerTimeout) (hfield : (s.port.carriers.get c).fieldTaken = true)
    (hphase : (s.rau.get c).phase = .working) (hrun : s.fault.state = .running) (hactive : 0 < (s.rau.get c).active)
    (harmed : (s.rau.get c).armed = none) (htimer : (s.rau.get c).timer = none)
    (hmem : ∀ r ∈ (s.rau.get c).refused, r.target ≠ 0) :
    ((takeFrameStart n order s).rau.get c).request.kind = .urgent ∧
    ((takeFrameStart n order s).rau.get c).request.target = some 0 := by
  have hno (time : HandoverTime) : ¬ noticeAt order (missingAt s) time c := by
    rintro ⟨-, h⟩
    rw [missingAt_get, hfield] at h
    simp at h
  have hw : (takeFrameStart n order s).working = s.working := by rw [takeFrameStart_working, hdue]; rfl
  have hfault : (blocked n order s).fault = s.fault :=
    (laned_acted n order s hdue).fault.trans (readied_fault n order s hl)
  have hfirst : blindAt order (countedAt s) .beforeBlocks c (adopted n s) ↔ order.reports = .beforeBlocks := by
    unfold blindAt
    rw [blindDue_adopted n hl c hcount]
    simp [hcount, hloss]
  have hlater (time : HandoverTime) {u : State} (hu : HandKeeps (blocked n order s) u) :
      blindAt order (countedAt s) time c u ↔ order.reports = time := by
    unfold blindAt
    rw [blindDue_blocked n order hl c hcount hu, hw]
    simp [hcount, hloss]
  have hfound := (found_own n order s hl c).rau
  have hend := (takeFrameStart_own n order s c).rau
  have hmid := (handOne_actsAt order (countedAt s) (missingAt s) .beforeFields c).keeps (blocked n order s)
  have hblocked := blocked_rau n order hl c hdue
  have hstandby : (s.rau.get c).phase ≠ .standby := by rw [hphase]; decide
  by_cases ho : order.reports = .beforeBlocks
  · have hlast (time : HandoverTime) (ht : time ≠ .beforeBlocks) {u : State} (hu : HandKeeps (blocked n order s) u) :
        ¬ blindAt order (countedAt s) time c u := fun h => ht (((hlater time hu).1 h).symm.trans ho)
    have e1 : (found n order s).rau.get c =
        takeHandover (rxEnv (adopted n s) c) (blindHandover (adopted n s) c) (s.rau.get c) := by
      rw [hfound, ← adopted_rau n s]
      exact handOne_rau_of (hno _) (hfirst.2 ho)
    have e2 : (takeFrameStart n order s).rau.get c = (rxFrameWork (frameEnv s c) ((found n order s).rau.get c)).1 := by
      rw [hend, ← hblocked, handOne_rau_of_not (hno _) (hlast _ (by decide) hmid),
        handOne_rau_of_not (hno _) (hlast _ (by decide) (.refl _))]
    have hasks := takeHandover_blind_base (env := rxEnv (adopted n s) c) (h := blindHandover (adopted n s) c) hphase
      (decide_eq_true (by rw [adopted_fault]; exact hrun)) hactive harmed hmem rfl
    have hkept := rxFrameWork_request (frameEnv s c) (x := (found n order s).rau.get c)
      (by rw [e1, (takeHandover_sameSwitching ..).armed]; exact harmed)
      (by rw [e1]; exact asked_timer_start _ _ htimer) hlimit
    rw [e2, hkept, e1]
    exact hasks
  · have e1 : (found n order s).rau.get c = s.rau.get c := by
      rw [hfound, ← adopted_rau n s]
      exact handOne_rau_of_not (hno _) fun h => ho (hfirst.1 h)
    have e2 : (blocked n order s).rau.get c = guardTick (frameEnv s c) (s.rau.get c) := by
      rw [hblocked, e1, rxFrameWork_idle _ hstandby harmed htimer]
    have hg := guardTick_eq (frameEnv s c) (s.rau.get c)
    have hasks {u : State} (hu : HandKeeps (blocked n order s) u) (hrau : u.rau.get c = (blocked n order s).rau.get c) :
        (takeHandover (rxEnv u c) (blindHandover u c) (u.rau.get c)).request.kind = .urgent ∧
        (takeHandover (rxEnv u c) (blindHandover u c) (u.rau.get c)).request.target = some 0 := by
      refine takeHandover_blind_base ?_ (decide_eq_true (by rw [hu.fault, hfault]; exact hrun)) ?_ ?_ ?_ rfl <;>
        rw [hrau, e2, hg]
      · exact hphase
      · exact hactive
      · exact harmed
      · exact hmem
    by_cases hf : order.reports = .beforeFields
    · have hnot : ¬ blindAt order (countedAt s) .last c
          (handOne order (countedAt s) (missingAt s) .beforeFields c (blocked n order s)) := fun h =>
        absurd (hf.symm.trans ((hlater .last hmid).1 h)) (by decide)
      rw [hend, handOne_rau_of_not (hno _) hnot,
        handOne_rau_of (hno _) ((hlater _ (.refl _)).2 hf)]
      exact hasks (.refl _) rfl
    · have hlast : order.reports = .last := by
        cases h : order.reports
        · exact absurd h ho
        · exact absurd h hf
        · rfl
      rw [hend, handOne_rau_of (hno _) ((hlater _ hmid).2 hlast)]
      exact hasks hmid (handOne_rau_of_not (hno _) fun h => hf ((hlater _ (.refl _)).1 h))

/-- Settles O23: the row by `takeBlind`, the frame start by `takeFrameStart_est` and `takeFrameStart_asks_base`. -/
theorem blindReportDrivesToBase : Obligations.BlindReportDrivesToBase := by
  refine fun c s => ⟨fun hl hcur hen hdue => ?_, execBlindReport_idle, fun n cur order hl hcur => ?_⟩
  · refine ⟨takeBlind c s, execBlindReport_due hl hcur hen hdue, takeBlind_same c s, fun d hd => ?_, fun before hb hdrop => ?_,
      fun hphase hrun hactive harmed hmem => ?_⟩
    · have h := (takeBlind_actsAt c).others s d hd
      exact ⟨h.est, h.rau⟩
    · rw [takeBlind_est, Four.get_set_same]
      exact estimateReport_falls hb hdrop
    · rw [takeBlind_rau, Four.get_set_same]
      exact takeHandover_blind_base hphase (decide_eq_true hrun) hactive harmed hmem rfl
  · have hsome : s.port.current.isSome = true := by rw [hcur]; rfl
    refine ⟨_, exec_frameStart n order s, ?_⟩
    intro w due
    have hcount : (countedAt s).get c = true ∧ w.link.reportLoss ≤ nextMissed s c ↔ due := by
      rw [countedAt_iff n order s hl]
      simp [due, hsome, and_assoc]
    refine ⟨fun h => ?_, fun hno hsame => ?_, fun hp => ?_,
      fun h hp hlimit hfield hphase hrun hactive harmed hreq htimer hmem => ?_⟩
    · rw [takeFrameStart_est n order hl c (h.1.trans h.2.1.symm)]
      exact if_pos (hcount.2 h)
    · rw [takeFrameStart_est n order hl c hsame]
      exact if_neg fun hc => hno (hcount.1 hc)
    · rw [(takeFrameStart_keeps n order s).intake]
      exact ((laned_acted n order s (commitDue_of_noCommit s (.inl hp))).intake).trans (readied_intake n order s hl)
    · have hnone := commitDue_of_noCommit s (.inl hp)
      have hw : w = s.working := by
        unfold w
        rw [takeFrameStart_working, hnone]
        simp
      obtain ⟨hc, hloss⟩ := hcount.2 h
      rw [hw] at hloss
      exact takeFrameStart_asks_base n order hl hnone hc hloss hlimit hfield hphase hrun hactive harmed htimer hmem

end Sys2Proof.Machine
end

section
/-! The receive unit's armed switch, answer timer and guard, as rows and at a FRAME_START: O29, O30. -/
namespace Sys2Proof.Machine

/-! ### A switch keeps a sound request sound -/

theorem requestSound_iff (x : RxContext) : RequestSound x ↔ RequestClosed x ∨
    x.request.kind ≠ .none ∧ x.request.target.isSome = true ∧ KeepsStepRules x.active x.request ∧
      ∃ timer, x.timer = some timer ∧ timer ≤ 255 := by
  unfold RequestSound RequestClosed KeepsStepRules
  generalize x.request.kind = kind, x.request.target = target, x.timer = timer, x.active = active
  cases kind <;> cases target <;> cases timer <;> simp

theorem requestSound_rebased {a : Nat} {x y : RxContext} (h : RequestRebased a x y) (ha : y.active = a)
    (hx : RequestSound x) : RequestSound y := by
  obtain ⟨hstands, hcancels⟩ := h
  rw [requestSound_iff] at hx ⊢
  rcases hx with ⟨hk, ht, htimer⟩ | ⟨hk, ht, -, htimer⟩
  · obtain ⟨hr, hy⟩ := hstands ⟨by simp [hk], by simp [hk]⟩
    exact .inl ⟨by rw [hr]; exact hk, by rw [hr]; exact ht, by rw [hy]; exact htimer⟩
  · by_cases hrule : KeepsStepRules a x.request
    · obtain ⟨hr, hy⟩ := hstands hrule
      exact .inr ⟨by rw [hr]; exact hk, by rw [hr]; exact ht, by rw [ha, hr]; exact hrule, by rw [hy]; exact htimer⟩
    · obtain ⟨hr, hy⟩ := hcancels hrule ht
      exact .inl ⟨by rw [hr], by rw [hr], hy⟩

/-! ### The switch, whole -/

/-- What a switch that changes the profile leaves of the request. -/
theorem switchTo_rebased {env : RxEnv} {next : Nat} {x : RxContext} (h : next ≠ x.active) :
    RequestRebased next x (switchTo env next x).1 := by
  have hw := switched_eq env next x
  rw [switchTo_changes h]
  have hsame := rebaseRequest_same (switched env next x)
  exact requestRebased_of (z := switched env next x) (by rw [hw]) (by rw [hw]) (by rw [hw]) rfl rfl (by rw [hsame])

/-- What a switch leaves of the items that the rule does not name. -/
theorem switchTo_rest (env : RxEnv) (next : Nat) (x : RxContext) :
    (switchTo env next x).1.armed = none ∧ (switchTo env next x).1.refused = x.refused ∧
    (switchTo env next x).1.linked = x.linked := by
  by_cases h : next = x.active
  · rw [switchTo_same h]
    exact ⟨rfl, rfl, rfl⟩
  · rw [switchTo_changes h, rebaseRequest_same, switched_eq]
    exact ⟨rfl, rfl, rfl⟩

theorem rebaseRequest_timer (x : RxContext) : (rebaseRequest x).timer = none ∨ (rebaseRequest x).timer = x.timer := by
  have hcancel : (cancelRequest x).timer = none ∨ (cancelRequest x).timer = x.timer := by
    unfold cancelRequest
    split
    · exact .inl rfl
    · exact .inr rfl
  unfold rebaseRequest
  (repeat' split) <;> first | exact .inr rfl | exact hcancel

theorem switchTo_timer (env : RxEnv) (next : Nat) (x : RxContext) :
    (switchTo env next x).1.timer = none ∨ (switchTo env next x).1.timer = x.timer := by
  by_cases h : next = x.active
  · rw [switchTo_same h]
    exact .inr rfl
  · rw [switchTo_changes h]
    have hw : (switched env next x).timer = x.timer := by rw [switched_eq]
    rw [← hw]
    exact rebaseRequest_timer _

/-- What a switch that changes the profile does to the guard and the hold count. -/
theorem switchTo_guard {env : RxEnv} {next : Nat} {x : RxContext} :
    (next ≠ x.active → (switchTo env next x).1.hold = env.link.holdFrames * (switchTo env next x).1.m) ∧
    (x.active < next → (switchTo env next x).1.upCounter = 0 ∧ (switchTo env next x).1.guardOpen = true ∧
      (switchTo env next x).1.m = x.m) ∧
    (next < x.active → (switchTo env next x).1.upCounter = x.upCounter ∧ (switchTo env next x).1.guardOpen = false ∧
      (switchTo env next x).1.m = if x.guardOpen = true then min 8 (2 * x.m) else x.m) := by
  refine ⟨fun h => ?_, fun h => ?_, fun h => ?_⟩
  · rw [switchTo_changes h, rebaseRequest_same]
    exact switched_hold ..
  · rw [switchTo_changes (by omega), rebaseRequest_same]
    exact switched_up (env := env) h
  · rw [switchTo_changes (by omega), rebaseRequest_same]
    exact switched_down (env := env) h

/-! ### The rows -/

theorem inService_iff (s : State) (c : Carrier) : inService s c = true ↔
    s.port.link = .running ∧ s.port.current.isSome = true ∧ (s.rau.get c).phase ≠ .standby := by
  simp [inService, State.frameRunning, and_assoc]

theorem switchDue_iff (x : RxContext) : switchDue x = true ↔ ∃ ar, x.armed = some ar ∧ ar.remaining ≤ 1 := by
  unfold switchDue
  cases x.armed <;> simp

theorem timeoutDue_iff (env : RxEnv) (x : RxContext) : timeoutDue env x = true ↔
    ∃ v, x.timer = some v ∧ env.link.answerTimeout ≤ v + 1 := by
  unfold timeoutDue
  cases x.timer <;> simp

theorem storeRau_rau (c : Carrier) (x : RxContext × List Report) (s : State) :
    (storeRau c x s).rau = s.rau.set c x.1 := rfl

theorem storeRau_latched (c : Carrier) (x : RxContext × List Report) (s : State) {r : Report} (h : r ∈ x.2) :
    LatchedAfter s.events (storeRau c x s).events r.kind r.index r.edge := latchedAfter_of_mem _ _ _ r h

/-- The answer that times out (R87): the request cancelled with a new seq, and the hold count of an UP reloaded unless
paused. -/
theorem timeOut_eq {env : RxEnv} {x : RxContext} (h : x.request.kind ≠ .none) : (timeOut env x).1 =
    { x with
      timer := none
      request := { seq := nextSeq x.request.seq x.consumed, kind := .none, target := none }
      hold := if x.request.kind = .up ∧ isPaused env x = false then env.link.holdFrames * x.m else x.hold } := by
  have hp : isPaused env (replaceByNone x) = isPaused env x := rfl
  unfold timeOut
  rw [cancelRequest_open h]
  dsimp only
  by_cases hup : x.request.kind = .up
  · rw [if_pos hup]
    unfold reloadUnlessPaused
    rw [hp]
    cases isPaused env x <;> simp [hup, replaceByNone, reloadHold]
  · rw [if_neg hup]
    simp [hup, replaceByNone]

theorem isPaused_eq_false_iff (env : RxEnv) (x : RxContext) :
    isPaused env x = false ↔ x.hostPause = false ∧ env.scan = false := by simp [isPaused]

/-! ### Armed switches at a frame start -/

section
variable (env : RxEnv) {x : RxContext} (h : x.phase ≠ .standby)
include h

/-- The profile, the armed switch and the guard are as the armed switch's step leaves them. -/
theorem rxFrameWork_switching :
    SameSwitching (armedTick env (guardTick env x)).1 (rxFrameWork env x).1 := by
  rw [rxFrameWork_steps env h]
  exact timerTick_sameSwitching env _

omit h in
/-- Where no armed switch is due the armed switch's step moves its count alone. -/
theorem armedTick_counting (hc : ∀ ar ∈ x.armed, 2 ≤ ar.remaining) : (armedTick env (guardTick env x)).1 =
    { guardTick env x with armed := x.armed.map fun ar => { ar with remaining := ar.remaining - 1 } } := by
  have hg := guardTick_eq env x
  cases ha : x.armed with
  | none =>
    have hn : (guardTick env x).armed = none := by rw [hg]; exact ha
    rw [armedTick_none env hn]
    dsimp only [Option.map_none]
    rw [← hn]
  | some ar =>
    rw [armedTick_counts env (ar := ar) (by rw [hg]; exact ha) (hc ar ha)]
    rfl

theorem rxFrameWork_counting (hc : ∀ ar ∈ x.armed, 2 ≤ ar.remaining) :
    (rxFrameWork env x).1.armed = (x.armed.map fun ar => { ar with remaining := ar.remaining - 1 }) ∧
    (rxFrameWork env x).1.active = x.active ∧ (rxFrameWork env x).1.upCounter = min 65535 (x.upCounter + 1) ∧
    (rxFrameWork env x).1.m = (if windowExpires env x = true then max 1 (x.m / 2) else x.m) ∧
    (rxFrameWork env x).1.guardOpen = if windowExpires env x = true then false else x.guardOpen := by
  have hs := rxFrameWork_switching env h
  have hg := guardTick_eq env x
  obtain ⟨hm, hopen⟩ := guardTick_guard env x
  rw [armedTick_counting env hc] at hs
  exact ⟨hs.armed, hs.active.trans (by rw [hg]), hs.upCounter.trans (by rw [hg]), hs.m.trans hm, hs.guardOpen.trans hopen⟩

/-- A due armed switch is made after the guard's counter step. -/
theorem rxFrameWork_switches {ar : Armed} (ha : x.armed = some ar) (hr : ar.remaining ≤ 1) :
    SameSwitching (switchTo env ar.next (guardTick env x)).1 (rxFrameWork env x).1 := by
  have hs := rxFrameWork_switching env h
  rw [armedTick_due env (ar := ar) (by rw [guardTick_eq]; exact ha) hr] at hs
  exact hs

theorem rxFrameWork_reports_switch {ar : Armed} (ha : x.armed = some ar) (hr : ar.remaining ≤ 1) (hne : ar.next ≠ x.active) :
    occurrence .profileChangeRx env.carrier.toNat ∈ (rxFrameWork env x).2 := by
  have hg := guardTick_eq env x
  have hchange : ar.next ≠ (guardTick env x).active := by rw [hg]; exact hne
  unfold rxFrameWork
  rw [if_neg h]
  dsimp only
  rw [armedTick_due env (ar := ar) (by rw [hg]; exact ha) hr, switchTo_changes hchange]
  simp

theorem rxFrameWork_reports_timeout (hc : ∀ ar ∈ x.armed, 2 ≤ ar.remaining) {v : Nat} (ht : x.timer = some v)
    (hv : env.link.answerTimeout ≤ v + 1) : occurrence .requestTimeout env.carrier.toNat ∈ (rxFrameWork env x).2 := by
  have hg := guardTick_eq env x
  have htimer : (armedTick env (guardTick env x)).1.timer = some v := by
    rw [armedTick_counting env hc, hg]
    exact ht
  unfold rxFrameWork
  rw [if_neg h]
  dsimp only
  rw [timerTick_due env htimer hv]
  simp [timeOut]
end

/-- What a receive unit reports at a frame start in RUNNING is latched after it. -/
theorem latchedAfter_rauWork (n : FrameNo) (order : FrameOrder) {s : State} (hl : s.port.link = .running) {c : Carrier}
    {r : Report} (h : r ∈ (rxFrameWork (frameEnv s c) ((found n order s).rau.get c)).2) :
    LatchedAfter s.events (takeFrameStart n order s).events r.kind r.index r.edge := by
  have hrau : (readied n order s).rau = (found n order s).rau := by rw [readied_running n order s hl]; rfl
  have hmem : r ∈ (perCarrier fun d => rxFrameWork (rxEnv (readied n order s) d) ((readied n order s).rau.get d)).2 := by
    refine mem_perCarrier.2 ⟨c, ?_⟩
    rw [readied_rxEnv n order s hl, hrau]
    exact h
  have hlatched : LatchedAfter (readied n order s).events (rauWork (readied n order s)).events r.kind r.index r.edge :=
    latchedAfter_of_mem _ _ _ r hmem
  have hbefore : Grows s.events (readied n order s).events :=
    ((grows_adopted n s).trans (grows_found n order hl)).trans (reported_readied allowsBlocks_true n order s hl)
  have hafter : Grows (rauWork (readied n order s)).events (takeFrameStart n order s).events :=
    (reported_laneStep1 allowsBlocks_true _).trans (grows_from_worked n order s)
  exact hafter.after (hbefore.before hlatched)

/-- At a due switch with its request's timer counting on, the request is rebased and its timer then counts on. -/
theorem rxFrameWork_switch_request (env : RxEnv) {x : RxContext} (h : x.phase ≠ .standby) {ar : Armed}
    (ha : x.armed = some ar) (hr : ar.remaining ≤ 1) (hne : ar.next ≠ x.active)
    (ht : ∀ v ∈ x.timer, v + 1 < env.link.answerTimeout) :
    (rxFrameWork env x).1.hold = env.link.holdFrames * (rxFrameWork env x).1.m ∧
    RequestRebased ar.next { x with timer := x.timer.map (· + 1) } (rxFrameWork env x).1 := by
  have hg := guardTick_eq env x
  have hne' : ar.next ≠ (guardTick env x).active := by rw [hg]; exact hne
  have hgr : (guardTick env x).request = x.request := by rw [hg]
  have hgt : (guardTick env x).timer = x.timer := by rw [hg]
  obtain ⟨hstands, hcancels⟩ := switchTo_rebased (env := env) hne'
  obtain ⟨hhold, -, -⟩ := switchTo_guard (env := env) (next := ar.next) (x := guardTick env x)
  rw [hgr, hgt] at hstands
  rw [hgr] at hcancels
  have hstep : (rxFrameWork env x).1 = (timerTick env (switchTo env ar.next (guardTick env x)).1).1 := by
    rw [rxFrameWork_steps env h, armedTick_due env (ar := ar) (by rw [hg]; exact ha) hr]
  have htimer := switchTo_timer env ar.next (guardTick env x)
  rw [hgt] at htimer
  generalize (switchTo env ar.next (guardTick env x)).1 = z at htimer hstands hcancels hhold hstep
  have hy : (timerTick env z).1 = { z with timer := z.timer.map (· + 1) } := by
    rcases htimer with hz | hz
    · rw [timerTick_none env hz]
      dsimp only
      rw [hz, Option.map_none, ← hz]
    · cases hv : z.timer with
      | none =>
        rw [timerTick_none env hv, Option.map_none, ← hv]
      | some v =>
        rw [timerTick_counts env hv (ht v (hz ▸ hv))]
        rfl
  rw [hstep, hy]
  refine ⟨hhold hne', fun hk => ⟨(hstands hk).1, ?_⟩, fun hk htar => ⟨(hcancels hk htar).1, ?_⟩⟩
  · dsimp only
    rw [(hstands hk).2]
  · dsimp only
    rw [(hcancels hk htar).2]
    rfl

/-! ### O29 -/

theorem execRxSwitch_due {c : Carrier} {s : State} {armed : Armed} (hl : s.port.link = .running)
    (hcur : s.port.current.isSome = true) (hp : (s.rau.get c).phase ≠ .standby) (ha : (s.rau.get c).armed = some armed)
    (hr : armed.remaining ≤ 1) :
    exec (.rxSwitch c) s = .next (storeRau c (switchTo (rxEnv s c) armed.next (s.rau.get c)) s) := by
  have hdue : (inService s c && switchDue (s.rau.get c)) = true := by
    rw [Bool.and_eq_true, inService_iff, switchDue_iff]
    exact ⟨⟨hl, hcur, hp⟩, armed, ha, hr⟩
  refine congrArg Host.Outcome.next ((onOccasion_true hdue _ _).trans ?_)
  rw [armedTick_due _ ha hr]

theorem execRxSwitch_idle {c : Carrier} {s : State} (h : (s.rau.get c).phase = .standby ∨ (s.rau.get c).armed = none ∨
    ∃ armed, (s.rau.get c).armed = some armed ∧ 2 ≤ armed.remaining) : exec (.rxSwitch c) s = .next s := by
  refine congrArg Host.Outcome.next (onOccasion_false ?_ _ _)
  rw [Bool.eq_false_iff, ne_eq, Bool.and_eq_true, inService_iff, switchDue_iff]
  rintro ⟨⟨-, -, hp⟩, armed, ha, hr⟩
  rcases h with h | h | ⟨a, h, h2⟩
  · exact hp h
  · rw [h] at ha; cases ha
  · rw [h] at ha
    cases ha
    omega

/-- The switch of a frame start, on a context whose profile, switch and guard are those before it. -/
theorem takeFrameStart_switches (n : FrameNo) (order : FrameOrder) {s : State} (hl : s.port.link = .running) {c : Carrier}
    (hdue : commitDue s = false) (hp : (s.rau.get c).phase ≠ .standby) {armed : Armed}
    (ha : (s.rau.get c).armed = some armed) (hr : armed.remaining ≤ 1) :
    ∃ x, SameSwitching (s.rau.get c) x ∧
      SameSwitching (switchTo (frameEnv s c) armed.next (guardTick (frameEnv s c) x)).1
        ((takeFrameStart n order s).rau.get c) := by
  obtain ⟨x, hx, hy⟩ := takeFrameStart_rau_switching n order hl c hdue
  refine ⟨x, hx, (rxFrameWork_switches _ ?_ (hx.armed.trans ha) hr).trans hy⟩
  exact fun h => hp (hx.standby.1 h)

theorem guardTick_active (env : RxEnv) (x : RxContext) : (guardTick env x).active = x.active := by rw [guardTick_eq]

theorem guardTick_upCounter (env : RxEnv) (x : RxContext) :
    (guardTick env x).upCounter = min 65535 (x.upCounter + 1) := by rw [guardTick_eq]

/-- The guard's counter step of a context with the guard of another. -/
theorem guardTick_congr {env : RxEnv} {x y : RxContext} (h : SameSwitching x y) :
    (windowExpires env y = true ↔ x.guardOpen = true ∧ env.link.pingpongWindow ≤ min 65535 (x.upCounter + 1)) ∧
    (guardTick env y).m =
      (if x.guardOpen = true ∧ env.link.pingpongWindow ≤ min 65535 (x.upCounter + 1) then max 1 (x.m / 2) else x.m) := by
  have hw := windowExpires_iff env y
  rw [h.guardOpen, h.upCounter] at hw
  refine ⟨hw, ?_⟩
  rw [(guardTick_guard env y).1, h.m]
  simp only [hw]

/-- Settles O29: the row by `switchTo` and its clauses, the frame start by `rxFrameWork` on the context that its hand-overs
leave. -/
theorem dueReceiveSwitchIsMade : Obligations.DueReceiveSwitchIsMade := by
  refine fun c s => ⟨fun armed hl hcur hp ha hr => ?row, execRxSwitch_idle, fun n order hl hno hp => ?frame⟩
  case row =>
    have hy : (storeRau c (switchTo (rxEnv s c) armed.next (s.rau.get c)) s).rau.get c =
        (switchTo (rxEnv s c) armed.next (s.rau.get c)).1 := Four.get_set_same ..
    obtain ⟨hphase, hpause, -, -⟩ := switchTo_sameNotes (rxEnv s c) armed.next (s.rau.get c)
    obtain ⟨harmed, hrefused, hlinked⟩ := switchTo_rest (rxEnv s c) armed.next (s.rau.get c)
    obtain ⟨hhold, hup, hdown⟩ := switchTo_guard (env := rxEnv s c) (next := armed.next) (x := s.rau.get c)
    have hactive := switchTo_active (rxEnv s c) armed.next (s.rau.get c)
    refine ⟨_, execRxSwitch_due hl hcur hp ha hr, rfl, fun d hd => Four.get_set_of_ne _ _ hd, ?_⟩
    rw [hy]
    refine ⟨hactive, harmed, hphase, hrefused, hpause, hlinked, fun h => ?_, fun h => ⟨?_, hhold h⟩, hup, hdown,
      switchTo_rebased, fun hs => ?_⟩
    · rw [switchTo_same h]
      rfl
    · exact storeRau_latched c _ s (r := occurrence .profileChangeRx c.toNat) (by rw [switchTo_changes h]; simp [rxEnv])
    · by_cases h : armed.next = (s.rau.get c).active
      · rw [switchTo_same h]
        exact hs
      · exact requestSound_rebased (switchTo_rebased h) hactive hs
  case frame =>
    have hdue := commitDue_of_noCommit s hno
    refine ⟨_, exec_frameStart n order s, ?_⟩
    intro x y expires m
    have hcounting (hc : ∀ ar ∈ x.armed, 2 ≤ ar.remaining) :
        y.armed = (x.armed.map fun ar => { ar with remaining := ar.remaining - 1 }) ∧ y.active = x.active := by
      obtain ⟨z, hz, hy⟩ := takeFrameStart_rau_switching n order hl c hdue
      obtain ⟨h1, h2, -⟩ := rxFrameWork_counting (frameEnv s c) (x := z) (fun h => hp (hz.standby.1 h))
        (by rw [hz.armed]; exact hc)
      exact ⟨hy.armed.trans (h1.trans (by rw [hz.armed])), hy.active.trans (h2.trans hz.active)⟩
    refine ⟨fun ha => ?_, fun armed ha hr => ?_, fun armed ha hr => ?_⟩
    · obtain ⟨h1, h2⟩ := hcounting (by rw [ha]; intro ar h; cases h)
      rw [ha] at h1
      exact ⟨h1, h2⟩
    · obtain ⟨h1, h2⟩ := hcounting (by rw [ha]; intro ar h; cases h; exact hr)
      rw [ha] at h1
      exact ⟨h1, h2⟩
    · obtain ⟨z, hz, hy⟩ := takeFrameStart_switches n order hl hdue hp ha hr
      obtain ⟨hexp, hm⟩ := guardTick_congr (env := frameEnv s c) hz
      obtain ⟨harmed, -, -⟩ := switchTo_rest (frameEnv s c) armed.next (guardTick (frameEnv s c) z)
      obtain ⟨-, hup, hdown⟩ :=
        switchTo_guard (env := frameEnv s c) (next := armed.next) (x := guardTick (frameEnv s c) z)
      have hactive := switchTo_active (frameEnv s c) armed.next (guardTick (frameEnv s c) z)
      rw [guardTick_active, hz.active] at hup hdown
      have hzopen : (guardTick (frameEnv s c) z).guardOpen = true ↔ x.guardOpen = true ∧ ¬ expires := by
        rw [(guardTick_guard (frameEnv s c) z).2, hz.guardOpen]
        by_cases he : expires
        · rw [if_pos (hexp.2 he)]
          simp [he]
        · rw [if_neg fun h => he (hexp.1 h)]
          simp [he, x]
      refine ⟨hy.armed.trans harmed, hy.active.trans hactive, fun hne => ?_, fun h => ?_, fun h => ?_,
        fun hne hquiet htimer => ?_⟩
      · refine latchedAfter_rauWork n order hl (c := c) (r := occurrence .profileChangeRx c.toNat) ?_
        have hfound : SameSwitching (s.rau.get c) ((found n order s).rau.get c) := by
          rw [(found_own n order s hl c).rau, ← adopted_rau n s]
          exact handOne_sameSwitching ..
        exact rxFrameWork_reports_switch (frameEnv s c) (fun h => hp (hfound.standby.1 h)) (hfound.armed.trans ha) hr
          (by rw [hfound.active]; exact hne)
      · obtain ⟨h1, h2, h3⟩ := hup h
        exact ⟨hy.upCounter.trans h1, hy.guardOpen.trans h2, (hy.m.trans h3).trans hm⟩
      · obtain ⟨h1, h2, h3⟩ := hdown h
        rw [guardTick_upCounter, hz.upCounter] at h1
        refine ⟨hy.upCounter.trans h1, hy.guardOpen.trans h2, (hy.m.trans h3).trans ?_⟩
        rw [hm]
        simp only [hzopen]
        rfl
      · have hquietly := takeFrameStart_rau_quiet n order hl c hdue hquiet
        obtain ⟨h1, h2⟩ := rxFrameWork_switch_request (frameEnv s c) hp ha hr hne htimer
        have e : y = (rxFrameWork (frameEnv s c) (s.rau.get c)).1 := hquietly
        rw [e]
        exact ⟨h1, h2⟩

/-! ### O30 -/

theorem execRequestTimeout_due {c : Carrier} {s : State} {elapsed : Nat} (hl : s.port.link = .running)
    (hcur : s.port.current.isSome = true) (hp : (s.rau.get c).phase ≠ .standby)
    (ht : (s.rau.get c).timer = some elapsed) (hv : s.working.link.answerTimeout ≤ elapsed + 1) :
    exec (.requestTimeout c) s = .next (storeRau c (timeOut (rxEnv s c) (s.rau.get c)) s) := by
  have hdue : (inService s c && timeoutDue (rxEnv s c) (s.rau.get c)) = true := by
    rw [Bool.and_eq_true, inService_iff, timeoutDue_iff]
    exact ⟨⟨hl, hcur, hp⟩, elapsed, ht, hv⟩
  refine congrArg Host.Outcome.next ((onOccasion_true hdue _ _).trans ?_)
  rw [timerTick_due (rxEnv s c) ht hv]

theorem execRequestTimeout_idle {c : Carrier} {s : State} (h : (s.rau.get c).phase = .standby ∨ (s.rau.get c).timer = none ∨
    ∃ elapsed, (s.rau.get c).timer = some elapsed ∧ elapsed + 1 < s.working.link.answerTimeout) :
    exec (.requestTimeout c) s = .next s := by
  refine congrArg Host.Outcome.next (onOccasion_false ?_ _ _)
  rw [Bool.eq_false_iff, ne_eq, Bool.and_eq_true, inService_iff, timeoutDue_iff]
  rintro ⟨⟨-, -, hp⟩, v, hv, hle⟩
  have hle' : s.working.link.answerTimeout ≤ v + 1 := hle
  rcases h with h | h | ⟨e, h, h2⟩
  · exact hp h
  · rw [h] at hv; cases hv
  · rw [h] at hv
    cases hv
    omega

theorem guardTick_expires {env : RxEnv} {x : RxContext} (h : windowExpires env x = true) : guardTick env x =
    { x with upCounter := min 65535 (x.upCounter + 1), m := max 1 (x.m / 2), guardOpen := false } := if_pos h

theorem execPingpong_due {c : Carrier} {s : State} (hl : s.port.link = .running) (hcur : s.port.current.isSome = true)
    (hp : (s.rau.get c).phase ≠ .standby) (hopen : (s.rau.get c).guardOpen = true)
    (hw : s.working.link.pingpongWindow ≤ min 65535 ((s.rau.get c).upCounter + 1)) :
    exec (.pingpongWindowExpiry c) s = .next (s.setRau (s.rau.set c { s.rau.get c with
      upCounter := min 65535 ((s.rau.get c).upCounter + 1), m := max 1 ((s.rau.get c).m / 2), guardOpen := false })) := by
  have hexp : windowExpires (rxEnv s c) (s.rau.get c) = true := (windowExpires_iff _ _).2 ⟨hopen, hw⟩
  have hdue : (inService s c && windowExpires (rxEnv s c) (s.rau.get c)) = true := by
    rw [Bool.and_eq_true, inService_iff]
    exact ⟨⟨hl, hcur, hp⟩, hexp⟩
  refine congrArg Host.Outcome.next ((onOccasion_true hdue _ _).trans ?_)
  rw [guardTick_expires hexp]
  rfl

theorem execPingpong_idle {c : Carrier} {s : State} (h : (s.rau.get c).guardOpen = false ∨
    min 65535 ((s.rau.get c).upCounter + 1) < s.working.link.pingpongWindow) :
    exec (.pingpongWindowExpiry c) s = .next s := by
  refine congrArg Host.Outcome.next (onOccasion_false ?_ _ _)
  rw [Bool.eq_false_iff, ne_eq, Bool.and_eq_true, windowExpires_iff]
  rintro ⟨-, hopen, hw⟩
  have hw' : s.working.link.pingpongWindow ≤ min 65535 ((s.rau.get c).upCounter + 1) := hw
  rcases h with h | h
  · rw [hopen] at h; cases h
  · omega

/-- A context in STANDBY stays as it is through a frame start without a commit. -/
theorem takeFrameStart_standby (n : FrameNo) (order : FrameOrder) {s : State} (hl : s.port.link = .running) {c : Carrier}
    (hdue : commitDue s = false) (hp : (s.rau.get c).phase = .standby) :
    (takeFrameStart n order s).rau.get c = s.rau.get c := by
  have hfound : (found n order s).rau.get c = s.rau.get c := by
    have hp' : ((adopted n s).rau.get c).phase = .standby := by rw [adopted_rau]; exact hp
    rw [(found_own n order s hl c).rau, handOne_standby _ _ _ _ hp', adopted_rau]
  have hblocked : (blocked n order s).rau.get c = s.rau.get c := by
    rw [blocked_rau n order hl c hdue, hfound, rxFrameWork_standby _ hp]
  have hmid : (handOne order (countedAt s) (missingAt s) .beforeFields c (blocked n order s)).rau.get c = s.rau.get c := by
    rw [handOne_standby _ _ _ _ (by rw [hblocked]; exact hp), hblocked]
  rw [(takeFrameStart_own n order s c).rau, handOne_standby _ _ _ _ (by rw [hmid]; exact hp), hmid]

/-- The timer's step after a frame start's counts of the guard and of an armed switch that is not due. -/
theorem rxFrameWork_counts_timer (env : RxEnv) {x : RxContext} (h : x.phase ≠ .standby)
    (hc : ∀ ar ∈ x.armed, 2 ≤ ar.remaining) :
    ∃ z : RxContext, (rxFrameWork env x).1 = (timerTick env z).1 ∧ z.timer = x.timer ∧ z.request = x.request ∧
      z.hold = x.hold ∧ z.consumed = x.consumed ∧ z.hostPause = x.hostPause := by
  have hg := guardTick_eq env x
  refine ⟨(armedTick env (guardTick env x)).1, rxFrameWork_steps env h, ?_⟩
  rw [armedTick_counting env hc, hg]
  exact ⟨rfl, rfl, rfl, rfl, rfl⟩

/-- Settles O30: the rows by their occasions, the frame start by the steps of `rxFrameWork`. -/
theorem receiveTimersExpire : Obligations.ReceiveTimersExpire := by
  refine fun c s => ⟨fun elapsed hl hcur hp hopen ht hv => ?timeout, execRequestTimeout_idle,
    fun hl hcur hp hopen hw => execPingpong_due hl hcur hp hopen hw, execPingpong_idle, fun n order hl hno => ?frame⟩
  case timeout =>
    have hy : (storeRau c (timeOut (rxEnv s c) (s.rau.get c)) s).rau.get c = (timeOut (rxEnv s c) (s.rau.get c)).1 :=
      Four.get_set_same ..
    refine ⟨_, nextSeq (s.rau.get c).request.seq (s.rau.get c).consumed, execRequestTimeout_due hl hcur hp ht hv, rfl,
      fun d hd => Four.get_set_of_ne _ _ hd, storeRau_latched c _ s (r := occurrence .requestTimeout c.toNat)
        (by simp [timeOut, rxEnv]), fun h => if_neg h, fun h => if_pos h, ?_⟩
    have hpaused : isPaused (rxEnv s c) (s.rau.get c) = false ↔
        (s.rau.get c).hostPause = false ∧ s.monitor.grace.get c = 0 := by
      rw [isPaused_eq_false_iff]
      simp [rxEnv]
    rw [hy, timeOut_eq hopen]
    simp only [hpaused]
    rfl
  case frame =>
    have hdue := commitDue_of_noCommit s hno
    refine ⟨_, exec_frameStart n order s, ?_⟩
    intro x y expires counting
    refine ⟨fun hp => takeFrameStart_standby n order hl hdue hp, fun ⟨hp, hc⟩ => ?_, fun ⟨hp, hc⟩ hquiet => ?_⟩
    · obtain ⟨z, hz, hy⟩ := takeFrameStart_rau_switching n order hl c hdue
      obtain ⟨-, -, h1, h2, h3⟩ := rxFrameWork_counting (frameEnv s c) (x := z) (fun h => hp (hz.standby.1 h))
        (by rw [hz.armed]; exact hc)
      obtain ⟨hexp, -⟩ := guardTick_congr (env := frameEnv s c) hz
      rw [hz.upCounter] at h1
      rw [hz.m] at h2
      rw [hz.guardOpen] at h3
      simp only [hexp] at h2 h3
      exact ⟨hy.upCounter.trans h1, hy.m.trans h2, hy.guardOpen.trans h3⟩
    · have hfound : (found n order s).rau.get c = s.rau.get c := by
        rw [(quiet_of_noHandover n order hl c hdue hquiet).1.rau, adopted_rau]
      have e : y = (rxFrameWork (frameEnv s c) x).1 := takeFrameStart_rau_quiet n order hl c hdue hquiet
      obtain ⟨z, hstep, htimer, hreq, hhold, hconsumed, hpause⟩ := rxFrameWork_counts_timer (frameEnv s c) hp hc
      rw [e, hstep]
      refine ⟨fun ht => ?_, fun v ht hv => ?_, fun v ht hv hopen => ?_⟩
      · rw [timerTick_none _ (htimer.trans ht)]
        exact ⟨htimer.trans ht, hreq, hhold⟩
      · rw [timerTick_counts (frameEnv s c) (htimer.trans ht) hv]
        exact ⟨rfl, hreq, hhold⟩
      · have hpaused : isPaused (frameEnv s c) z = false ↔ x.hostPause = false ∧ s.monitor.grace.get c ≤ 1 := by
          rw [isPaused_eq_false_iff, hpause]
          simp [frameEnv, x]
        rw [timerTick_due (frameEnv s c) (htimer.trans ht) hv, timeOut_eq (by rw [hreq]; exact hopen)]
        simp only [hreq, hconsumed, hhold, hpaused]
        refine ⟨trivial, trivial, ?_, rfl⟩
        refine latchedAfter_rauWork n order hl (c := c) (r := occurrence .requestTimeout c.toNat) ?_
        rw [hfound]
        exact rxFrameWork_reports_timeout (frameEnv s c) hp hc ht hv

end Sys2Proof.Machine
end

section
/-! The scan of a FRAME_START: O24. -/
namespace Sys2Proof.Machine

/-! ### One slot of the scan (R41 to R46) -/

/-- The branch of the slot is judged (R42). -/
def scanJudges (w : WorkingSet) (pass : Carrier → Bool) (x : Monitor) : Bool :=
  ((x.branches.get x.scanCarrier).get x.scanSide).health ≠ .excluded && (w.carriers.get x.scanCarrier).enable &&
  !pass x.scanCarrier

theorem scanJudges_iff (w : WorkingSet) (pass : Carrier → Bool) (x : Monitor) : scanJudges w pass x = true ↔
    ((x.branches.get x.scanCarrier).get x.scanSide).health ≠ .excluded ∧ (w.carriers.get x.scanCarrier).enable = true ∧
    pass x.scanCarrier = false := by
  simp [scanJudges, and_assoc]

/-- The scan position after a slot (R41). -/
def ScanMoved (x y : Monitor) : Prop :=
  (x.scanSide = .a → y.scanCarrier = x.scanCarrier ∧ y.scanSide = .b) ∧
  (x.scanSide = .b → y.scanCarrier = x.scanCarrier.succ ∧ y.scanSide = .a)

section
variable {w : WorkingSet} {n : FrameNo} {pass : Carrier → Bool} {intake : Four IntakeCarrier} {x : Monitor}

theorem advanceScan_moved (x : Monitor) : ScanMoved x (advanceScan x) := by
  unfold ScanMoved advanceScan
  cases h : x.scanSide <;> simp

theorem evaluateBranch_position (link : LinkParams) (c : Carrier) (side : Side) (record : Option BranchRecord) :
    (evaluateBranch link n c side record x).1.scanCarrier = x.scanCarrier ∧
    (evaluateBranch link n c side record x).1.scanSide = x.scanSide := by
  unfold evaluateBranch
  dsimp only
  split <;> exact ⟨rfl, rfl⟩

theorem scanBranch_passes (h : ¬ scanJudges w pass x = true) : scanBranch w n pass intake x = (advanceScan x, []) := by
  rw [scanJudges_iff] at h
  refine if_pos ?_
  simp only [Bool.or_eq_true, decide_eq_true_eq, Bool.not_eq_eq_eq_not, Bool.not_true]
  by_contra hno
  push Not at hno
  obtain ⟨⟨h1, h2⟩, h3⟩ := hno
  exact h ⟨h1, by simpa using h2, by simpa using h3⟩

theorem scanBranch_judges (h : scanJudges w pass x = true) : scanBranch w n pass intake x =
    (advanceScan (evaluateBranch w.link n x.scanCarrier x.scanSide ((intake.get x.scanCarrier).records.get x.scanSide) x).1,
     (evaluateBranch w.link n x.scanCarrier x.scanSide ((intake.get x.scanCarrier).records.get x.scanSide) x).2) := by
  obtain ⟨h1, h2, h3⟩ := (scanJudges_iff w pass x).1 h
  exact if_neg (by simp [h1, h2, h3])

theorem scanBranch_moved : ScanMoved x (scanBranch w n pass intake x).1 := by
  by_cases h : scanJudges w pass x = true
  · rw [scanBranch_judges h]
    obtain ⟨hc, hs⟩ := evaluateBranch_position (n := n) (x := x) w.link x.scanCarrier x.scanSide
      ((intake.get x.scanCarrier).records.get x.scanSide)
    have hmove := advanceScan_moved
      (evaluateBranch w.link n x.scanCarrier x.scanSide ((intake.get x.scanCarrier).records.get x.scanSide) x).1
    unfold ScanMoved at hmove ⊢
    rw [hc, hs] at hmove
    exact hmove
  · rw [scanBranch_passes h]
    exact advanceScan_moved x

/-- What the sample of the slot does to its branch. -/
def slotSample (w : WorkingSet) (n : FrameNo) (intake : Four IntakeCarrier) (x : Monitor) : BranchState × Option Edge :=
  sampleBranch w.link (badSample w.link n ((intake.get x.scanCarrier).records.get x.scanSide))
    ((x.branches.get x.scanCarrier).get x.scanSide)

theorem scanBranch_branches (d : Carrier) (side : Side) : ((scanBranch w n pass intake x).1.branches.get d).get side =
    if scanJudges w pass x = true ∧ d = x.scanCarrier ∧ side = x.scanSide then (slotSample w n intake x).1
    else (x.branches.get d).get side := by
  by_cases h : scanJudges w pass x = true
  · rw [scanBranch_judges h]
    dsimp only
    rw [advanceScan_branches, evaluateBranch_branches]
    simp only [h, true_and]
    rfl
  · rw [scanBranch_passes h, if_neg fun hc => h hc.1]
    dsimp only
    rw [advanceScan_branches]

theorem scanBranch_grace (d : Carrier) : (scanBranch w n pass intake x).1.grace.get d =
    if scanJudges w pass x = true ∧ d = x.scanCarrier ∧ (slotSample w n intake x).2.isSome = true then w.link.pauseGrace
    else x.grace.get d := by
  by_cases h : scanJudges w pass x = true
  · rw [scanBranch_judges h]
    dsimp only
    rw [advanceScan_grace, evaluateBranch_grace]
    simp only [h, true_and]
    rfl
  · rw [scanBranch_passes h, if_neg fun hc => h hc.1]
    dsimp only
    rw [advanceScan_grace]

theorem scanBranch_reports (h : scanJudges w pass x = true) {edge : Edge} (he : (slotSample w n intake x).2 = some edge) :
    { kind := .branchFault, index := branchIndex x.scanCarrier x.scanSide, edge := some edge } ∈
      (scanBranch w n pass intake x).2 := by
  have he' : (sampleBranch w.link (badSample w.link n ((intake.get x.scanCarrier).records.get x.scanSide))
    ((x.branches.get x.scanCarrier).get x.scanSide)).2 = some edge := he
  rw [scanBranch_judges h]
  unfold evaluateBranch
  dsimp only
  rw [he']
  simp
end

/-! ### The monitor before the scan -/

section
variable (n : FrameNo) (order : FrameOrder) (s : State)

theorem worked_monitor : (worked n order s).monitor = graceTick s.monitor := by
  have e : (worked n order s).monitor = (readied n order s).monitor := rfl
  rw [e]
  cases hl : s.port.link with
  | running => exact readied_monitor n order s hl
  | frameLost =>
    rw [readied_lost n order s hl]
    simp [restored, restoredPort, graceWork]

theorem commitMonitor_position (old : WorkingSet) (s : State) :
    (commitMonitor old s).monitor.scanCarrier = s.monitor.scanCarrier ∧
    (commitMonitor old s).monitor.scanSide = s.monitor.scanSide := by
  have one (t : State) (c : Carrier) : (commitMonitorCarrier old c t).monitor.scanCarrier = t.monitor.scanCarrier ∧
      (commitMonitorCarrier old c t).monitor.scanSide = t.monitor.scanSide := by
    have e : (commitMonitorCarrier old c t).monitor =
        (monitorCommit t.working.link c (old.carriers.get c) (t.params c) t.monitor).1 := rfl
    rw [e]
    unfold monitorCommit
    dsimp only
    split
    · exact ⟨rfl, rfl⟩
    · split <;> exact ⟨rfl, rfl⟩
  exact ⟨foldl_keeps (fun u : State => u.monitor.scanCarrier) _ (fun t c => (one t c).1) _ s,
    foldl_keeps (fun u : State => u.monitor.scanSide) _ (fun t c => (one t c).2) _ s⟩

theorem excludeBranch_same (excluded : Bool) (b : BranchState) : (excludeBranch excluded excluded b).1 = b := by
  cases excluded <;> rfl

theorem takeFrameStart_params (c : Carrier) : (takeFrameStart n order s).params c = (laned n order s).params c := by
  rw [State.params_eq, State.params_eq, (takeFrameStart_keeps n order s).working]
  rfl

/-- The branches before the scan: an exclude flag that a commit changes has been taken (R47). -/
theorem laned_branches (c : Carrier) (side : Side) : ((laned n order s).monitor.branches.get c).get side =
    (excludeBranch ((s.params c).excludes side) (((takeFrameStart n order s).params c).excludes side)
      ((s.monitor.branches.get c).get side)).1 := by
  rw [takeFrameStart_params]
  have hworked : (worked n order s).monitor.branches = s.monitor.branches := by rw [worked_monitor]; rfl
  cases h : commitDue s with
  | true =>
    have hm : (committedLane (worked n order s)).monitor = (worked n order s).monitor := by
      simp [committedLane, commitLane, commitConfiguration]
    rw [State.params_eq (s := laned n order s), laned_commit n order s h, commitWork_monitor, commitMonitor_branches,
      commitWork_working, hm, hworked, worked_working]
    rfl
  | false =>
    have hact := laned_acted n order s h
    rw [State.params_eq (s := laned n order s), hact.working, worked_working, hact.monitor, hworked, State.params_eq,
      excludeBranch_same]

theorem laned_grace (c : Carrier) : (laned n order s).monitor.grace.get c =
    if commitDue s = true ∧ s.enabled c = true ∧ (takeFrameStart n order s).enabled c = true ∧
        changesBranches (s.params c) ((takeFrameStart n order s).params c) = true then
      (takeFrameStart n order s).working.link.pauseGrace
    else if commitDue s = true ∧ s.enabled c = true ∧ (takeFrameStart n order s).enabled c = false then 0
    else s.monitor.grace.get c - 1 := by
  have hworked : (worked n order s).monitor.grace.get c = s.monitor.grace.get c - 1 := by
    rw [worked_monitor, graceTick_get]
  have hw : (takeFrameStart n order s).working = (laned n order s).working := (takeFrameStart_keeps n order s).working
  cases h : commitDue s with
  | true =>
    have hm : (committedLane (worked n order s)).monitor = (worked n order s).monitor := by
      simp [committedLane, commitLane, commitConfiguration]
    have hnew : (laned n order s).working = (committedLane (worked n order s)).working := by
      rw [laned_commit n order s h, commitWork_working]
      rfl
    rw [State.enabled_eq (s := takeFrameStart n order s), State.params_eq (s := takeFrameStart n order s), hw, hnew,
      laned_commit n order s h, commitWork_monitor, commitMonitor_grace, hm, hworked, worked_working]
    simp only [true_and]
    rfl
  | false => rw [(laned_acted n order s h).monitor, hworked, if_neg (by simp), if_neg (by simp)]

theorem laned_position : (laned n order s).monitor.scanCarrier = s.monitor.scanCarrier ∧
    (laned n order s).monitor.scanSide = s.monitor.scanSide := by
  have hworked := worked_monitor n order s
  cases h : commitDue s with
  | true =>
    have hm : (committedLane (worked n order s)).monitor = (worked n order s).monitor := by
      simp [committedLane, commitLane, commitConfiguration]
    obtain ⟨h1, h2⟩ := commitMonitor_position (worked n order s).working (committedLane (worked n order s))
    rw [laned_commit n order s h, commitWork_monitor, h1, h2, hm, hworked]
    exact ⟨rfl, rfl⟩
  | false =>
    rw [(laned_acted n order s h).monitor, hworked]
    exact ⟨rfl, rfl⟩

/-! ### The monitor after the frame start -/

/-- The frame start judges the branch of its slot. -/
def frameJudges : Bool := scanJudges (laned n order s).working (passedOver n order s) (laned n order s).monitor

theorem takeFrameStart_monitor : (takeFrameStart n order s).monitor =
    (scanBranch (laned n order s).working n (passedOver n order s) (laned n order s).intake (laned n order s).monitor).1 :=
  (takeFrameStart_keeps n order s).monitor

theorem frameJudges_iff : frameJudges n order s = true ↔
    ((excludeBranch ((s.params s.monitor.scanCarrier).excludes s.monitor.scanSide)
      (((takeFrameStart n order s).params s.monitor.scanCarrier).excludes s.monitor.scanSide)
      ((s.monitor.branches.get s.monitor.scanCarrier).get s.monitor.scanSide)).1).health ≠ .excluded ∧
    s.frameRunning = true ∧ s.enabled s.monitor.scanCarrier = true ∧
    (takeFrameStart n order s).enabled s.monitor.scanCarrier = true := by
  obtain ⟨hc, hs⟩ := laned_position n order s
  have hen : (takeFrameStart n order s).enabled s.monitor.scanCarrier =
      ((laned n order s).working.carriers.get s.monitor.scanCarrier).enable := by
    rw [State.enabled_eq, (takeFrameStart_keeps n order s).working]
    rfl
  unfold frameJudges
  rw [scanJudges_iff]
  unfold passedOver
  rw [hc, hs, laned_branches, hen]
  refine and_congr_right fun _ => ?_
  unfold enableChanges
  rw [← State.enabled_eq (s := s)]
  cases s.frameRunning <;> cases s.enabled s.monitor.scanCarrier <;>
    cases ((laned n order s).working.carriers.get s.monitor.scanCarrier).enable <;> simp

theorem takeFrameStart_scan_moved : ScanMoved s.monitor (takeFrameStart n order s).monitor := by
  have h := scanBranch_moved (w := (laned n order s).working) (n := n) (pass := passedOver n order s)
    (intake := (laned n order s).intake) (x := (laned n order s).monitor)
  unfold ScanMoved at h ⊢
  rw [(laned_position n order s).1, (laned_position n order s).2] at h
  rw [takeFrameStart_monitor]
  exact h

/-- The sample of the slot at the frame start. -/
def frameSample : BranchState × Option Edge :=
  slotSample (laned n order s).working n (laned n order s).intake (laned n order s).monitor

theorem takeFrameStart_branches (d : Carrier) (side : Side) :
    ((takeFrameStart n order s).monitor.branches.get d).get side =
      if frameJudges n order s = true ∧ d = s.monitor.scanCarrier ∧ side = s.monitor.scanSide then (frameSample n order s).1
      else (excludeBranch ((s.params d).excludes side) (((takeFrameStart n order s).params d).excludes side)
        ((s.monitor.branches.get d).get side)).1 := by
  rw [takeFrameStart_monitor, scanBranch_branches, (laned_position n order s).1, (laned_position n order s).2,
    laned_branches]
  rfl

theorem takeFrameStart_grace (d : Carrier) : (takeFrameStart n order s).monitor.grace.get d =
    if frameJudges n order s = true ∧ d = s.monitor.scanCarrier ∧ (frameSample n order s).2.isSome = true then
      (takeFrameStart n order s).working.link.pauseGrace
    else (laned n order s).monitor.grace.get d := by
  rw [takeFrameStart_monitor, scanBranch_grace, (laned_position n order s).1, (takeFrameStart_keeps n order s).working]
  rfl

theorem takeFrameStart_branchFault (h : frameJudges n order s = true) {edge : Edge} (he : (frameSample n order s).2 = some edge) :
    LatchedAfter (laned n order s).events (takeFrameStart n order s).events .branchFault
      (branchIndex s.monitor.scanCarrier s.monitor.scanSide) (some edge) := by
  have hmem := scanBranch_reports (n := n) (intake := (laned n order s).intake) h he
  have htail : Grows (blocked n order s).events (takeFrameStart n order s).events :=
    reported_tail n order s (fun _ _ _ => trivial) fun _ _ _ => trivial
  refine htail.after ?_
  rw [← (laned_position n order s).1, ← (laned_position n order s).2]
  exact latchedAfter_of_mem (laned n order s).port.current (laned n order s).events _ _ hmem

/-- A frame start without a commit judges by the working set and the branch records of before. -/
theorem frameSample_of_noCommit (hl : s.port.link = .running) (hdue : commitDue s = false) : frameSample n order s =
    sampleBranch s.working.link (badSample s.working.link n
      ((s.intake.get s.monitor.scanCarrier).records.get s.monitor.scanSide))
      ((s.monitor.branches.get s.monitor.scanCarrier).get s.monitor.scanSide) := by
  have hact := laned_acted n order s hdue
  have hintake : (laned n order s).intake = s.intake := hact.intake.trans (readied_intake n order s hl)
  have hw : (laned n order s).working = s.working := hact.working.trans (worked_working n order s)
  have hbranches : ((laned n order s).monitor.branches) = s.monitor.branches := by
    rw [hact.monitor, worked_monitor]
    rfl
  unfold frameSample slotSample
  rw [(laned_position n order s).1, (laned_position n order s).2, hintake, hw, hbranches]
end

theorem takeFrameStart_params_of_noCommit (n : FrameNo) (order : FrameOrder) {s : State} (hdue : commitDue s = false)
    (c : Carrier) : (takeFrameStart n order s).params c = s.params c := by
  rw [State.params_eq, takeFrameStart_working, hdue]
  rfl

/-- Settles O24, by one slot of the scan (`scanBranch`) on the monitor that the grace and a commit leave. -/
theorem frameStartScansOneBranch : Obligations.FrameStartScansOneBranch := by
  refine ⟨fun n order s => ⟨_, exec_frameStart n order s, ?every⟩, fun n cur order s hl hcur hno =>
    ⟨_, exec_frameStart n order s, ?ordinary⟩⟩
  case every =>
    intro c side passed
    obtain ⟨ha, hb⟩ := takeFrameStart_scan_moved n order s
    have hpassed (h : passed) : ¬ frameJudges n order s = true := by
      rw [frameJudges_iff]
      rintro ⟨-, hrun, h1, h2⟩
      rcases h with h | h | h
      · rw [frameRunning_of_lost h] at hrun; cases hrun
      · rw [frameRunning_of_none h] at hrun; cases hrun
      · exact h (h1.trans h2.symm)
    refine ⟨ha, hb, fun d other h hsame => ?_, fun h hno d => ?_⟩
    · rw [takeFrameStart_branches, if_neg, hsame, excludeBranch_same]
      rintro ⟨hj, hd, ho⟩
      rcases h with h | h
      · exact hpassed h hj
      · exact h ⟨hd, ho⟩
    · rw [takeFrameStart_grace, if_neg fun hc => hpassed h hc.1, laned_grace, commitDue_of_noCommit s hno]
      simp
  case ordinary =>
    intro c side b record judged sample
    have hdue := commitDue_of_noCommit s hno
    have hparams := takeFrameStart_params_of_noCommit n order hdue
    have hsample := frameSample_of_noCommit n order s hl hdue
    have hjudge : frameJudges n order s = true ↔ judged = true := by
      have hen : (takeFrameStart n order s).enabled s.monitor.scanCarrier = s.enabled s.monitor.scanCarrier :=
        congrArg CarrierParams.enable (hparams _)
      rw [frameJudges_iff, hparams, excludeBranch_same, hen]
      simp only [frameRunning_of hl hcur, true_and, judged, Bool.and_eq_true, decide_eq_true_eq]
      tauto
    obtain ⟨ha, hb⟩ := takeFrameStart_scan_moved n order s
    refine ⟨fun h => ?_, fun h => ?_, fun d other h => ?_, fun d => ?_, ha, hb, fun edge h he => ?_⟩
    · rw [takeFrameStart_branches, if_pos ⟨hjudge.2 h, rfl, rfl⟩, hsample]
    · rw [takeFrameStart_branches, if_neg fun hc => absurd ((hjudge.1 hc.1).symm.trans h) (by decide), hparams, excludeBranch_same]
    · rw [takeFrameStart_branches, if_neg fun hc => h hc.2, hparams, excludeBranch_same]
    · rw [takeFrameStart_grace, laned_grace, hdue, hsample, takeFrameStart_working, hdue]
      simp only [hjudge, Bool.false_eq_true, false_and, if_false]
      exact if_congr ⟨fun ⟨h1, h2, h3⟩ => ⟨h2, h1, h3⟩, fun ⟨h1, h2, h3⟩ => ⟨h2, h1, h3⟩⟩ rfl rfl
    · have hgrows : Grows s.events (laned n order s).events :=
        ((((grows_adopted n s).trans (grows_found n order hl)).trans
          (reported_readied allowsBlocks_true n order s hl)).trans (reported_worked allowsBlocks_true n order s)).trans
          (grows_laned n order s)
      exact hgrows.before (takeFrameStart_branchFault n order s (hjudge.2 h) (by rw [hsample]; exact he))

end Sys2Proof.Machine
end

section
/-! The lane at a FRAME_START: O41, O39, O40, O42. -/
namespace Sys2Proof.Machine

/-! ### A frame start that hands over no missing notice -/

theorem Lane.ext_items {l k : Lane} (ha : l.announcement = k.announcement)
    (hc : ∀ c, l.carriers.get c = k.carriers.get c) : l = k := by
  obtain ⟨announcement, carriers⟩ := l
  obtain ⟨announcement', carriers'⟩ := k
  cases ha
  exact congrArg _ (Four.ext_get hc)

section
variable (n : FrameNo) (order : FrameOrder) {s : State} (hl : s.port.link = .running)
include hl

theorem not_missing (hf : FieldsTaken s) (c : Carrier) : (missingAt s).get c = false := by
  rw [missingAt_get, countedAt_get s hl]
  rcases hf with h | h
  · rw [h]; rfl
  · cases he : s.enabled c
    · simp
    · rw [h c he]; simp

theorem no_notice (hf : FieldsTaken s) (time : HandoverTime) (c : Carrier) : ¬ noticeAt order (missingAt s) time c := by
  rintro ⟨-, h⟩
  rw [not_missing hl hf c] at h
  cases h

theorem found_lane (hf : FieldsTaken s) : (found n order s).lane = s.lane := by
  refine Lane.ext_items ?_ fun c => ?_
  · rw [(found_keeps n order s hl).announcement, adopted_lane]
  · rw [(found_own n order s hl c).lane, handOne_lane_of_not _ _ _ _ _ _ (no_notice order hl hf _ c), adopted_lane]

theorem found_pcu (hf : FieldsTaken s) : (found n order s).pcu = s.pcu := by
  refine Four.ext_get fun c => ?_
  rw [(found_own n order s hl c).pcu, handOne_pcu_of_not _ _ _ _ _ _ (no_notice order hl hf _ c), adopted_pcu]

theorem takeFrameStart_lane (hf : FieldsTaken s) : (takeFrameStart n order s).lane = (laned n order s).lane := by
  have e : (blocked n order s).lane = (laned n order s).lane := rfl
  rw [← e]
  refine Lane.ext_items (takeFrameStart_keeps n order s).announcement fun c => ?_
  rw [(takeFrameStart_own n order s c).lane, handOne_lane_of_not _ _ _ _ _ _ (no_notice order hl hf _ c),
    handOne_lane_of_not _ _ _ _ _ _ (no_notice order hl hf _ c)]

theorem takeFrameStart_pcu (hf : FieldsTaken s) : (takeFrameStart n order s).pcu = (blocked n order s).pcu := by
  refine Four.ext_get fun c => ?_
  rw [(takeFrameStart_own n order s c).pcu, handOne_pcu_of_not _ _ _ _ _ _ (no_notice order hl hf _ c),
    handOne_pcu_of_not _ _ _ _ _ _ (no_notice order hl hf _ c)]

theorem readied_lane : (readied n order s).lane = (found n order s).lane := by
  rw [readied_running n order s hl]
  rfl

theorem worked_lane_of_fields (hf : FieldsTaken s) : (worked n order s).lane = (laneCountdown s.working s.lane).1 := by
  rw [worked_lane, readied_lane n order hl, found_lane n order hl hf]
end

/-! ### The countdown and the switch (R130) -/

section
variable {w : WorkingSet} {l : Lane} {a : Announcement}

theorem announcementDue_of (ha : l.announcement = some a) (h : a.count ≤ 1) : announcementDue l = true := by
  unfold announcementDue
  rw [ha]
  exact decide_eq_true h

theorem announcementDue_of_not (h : l.announcement = none ∨ ∃ a, l.announcement = some a ∧ 2 ≤ a.count) :
    announcementDue l = false := by
  unfold announcementDue
  rcases h with h | ⟨a, h, hc⟩
  · rw [h]
  · rw [h]
    exact decide_eq_false (by omega)

theorem laneCountdown_none (ha : l.announcement = none) : laneCountdown w l = (l, []) := by
  unfold laneCountdown
  rw [ha]

theorem laneCountdown_due (ha : l.announcement = some a) (h : a.count ≤ 1) : laneCountdown w l = laneSwitch w a l := by
  have hdue := announcementDue_of ha h
  unfold laneCountdown
  rw [ha]
  dsimp only
  rw [hdue]
  rfl

theorem laneCountdown_counts (ha : l.announcement = some a) (h : 2 ≤ a.count) : laneCountdown w l =
    ({ l with announcement := some { a with count := a.count - 1 } }, []) := by
  have hdue := announcementDue_of_not (l := l) (.inr ⟨a, ha, h⟩)
  unfold laneCountdown
  rw [ha]
  dsimp only
  rw [hdue]
  rfl

theorem laneSwitch_get (w : WorkingSet) (a : Announcement) (l : Lane) (c : Carrier) :
    (laneSwitch w a l).1.carriers.get c = match a.member? c with
      | some m => recheckFor w c { l.carriers.get c with active := m.toP }
      | none => l.carriers.get c := Four.get_ofFn ..

theorem laneSwitch_member {c : Carrier} {m : Member} (h : a.member? c = some m) :
    (laneSwitch w a l).1.carriers.get c = recheckFor w c { l.carriers.get c with active := m.toP } := by
  rw [laneSwitch_get, h]

theorem laneSwitch_other {c : Carrier} (h : a.member? c = none) :
    (laneSwitch w a l).1.carriers.get c = l.carriers.get c := by
  rw [laneSwitch_get, h]

theorem laneSwitch_reports {c : Carrier} {m : Member} (h : a.member? c = some m) :
    occurrence .profileChangeTx c.toNat ∈ (laneSwitch w a l).2 := by
  obtain ⟨hm, hc⟩ := Announcement.member?_spec h
  exact List.mem_map.2 ⟨m, hm, by rw [hc]⟩

/-- A switched member's items (R129, R130). -/
theorem laneSwitch_rechecked {c : Carrier} {m : Member} (h : a.member? c = some m) :
    EntryRechecked (w.carriers.get c).txCeiling w.length { l.carriers.get c with active := m.toP }
      ((laneSwitch w a l).1.carriers.get c) := by
  rw [laneSwitch_member h]
  exact recheckEntry_rechecked ..
end

/-! ### The lane's work case by case -/

section
variable (n : FrameNo) (order : FrameOrder) {s : State}

theorem applyPending_of_idle (hdue : commitDue s = false) (hidle : (s.lane.isIdle || announcementDue s.lane) = true) :
    s.applyPending = false := by
  unfold commitDue at hdue
  rw [hidle, Bool.and_true] at hdue
  exact hdue

/-- With the lane idle after its switch and no APPLY pending the lane selects (R130 step 3). -/
theorem laned_selects (hdue : commitDue s = false) (hidle : (s.lane.isIdle || announcementDue s.lane) = true) :
    laned n order s = laneStep3 n (worked n order s) := by
  have hp := applyPending_of_idle hdue hidle
  unfold laned afterSwitch
  rw [worked_isIdle, worked_applyPending, hidle, hp]
  rfl

theorem not_idle_of_counting {a : Announcement} (ha : s.lane.announcement = some a) (h : 2 ≤ a.count) :
    (s.lane.isIdle || announcementDue s.lane) = false := by
  rw [announcementDue_of_not (.inr ⟨a, ha, h⟩), Bool.or_false]
  simp [Lane.isIdle, ha]

theorem worked_counting {a : Announcement} (ha : s.lane.announcement = some a) (h : 2 ≤ a.count) :
    (worked n order s).lane.announcement = some { a with count := a.count - 1 } := by
  have ha' : (readied n order s).lane.announcement = some a := (readied_lane_announcement n order s).trans ha
  rw [worked_lane, laneCountdown_counts ha' h]

theorem withdrawable_counted {l : Lane} {a : Announcement} (h : l.announcement = some { a with count := a.count - 1 }) :
    withdrawable l = true ↔ a.kind = .up ∧ 3 ≤ a.count := by
  rw [withdrawable_iff, h]
  constructor
  · rintro ⟨b, hb, hk, hc⟩
    cases hb
    exact ⟨hk, by dsimp only at hc; omega⟩
  · rintro ⟨hk, hc⟩
    exact ⟨_, rfl, hk, by dsimp only; omega⟩

/-- An announcement that counts on and is not withdrawn leaves the lane as its countdown left it (R130). -/
theorem laned_counts {a : Announcement} (ha : s.lane.announcement = some a) (h : 2 ≤ a.count)
    (hstays : a.kind = .down ∨ a.count = 2 ∨ hasUrgent (worked n order s).lane = false) :
    laned n order s = worked n order s := by
  have hno : (withdrawable (worked n order s).lane && hasUrgent (worked n order s).lane) = false := by
    rw [Bool.eq_false_iff, ne_eq, Bool.and_eq_true, withdrawable_counted (worked_counting n order ha h)]
    rintro ⟨⟨hk, hc⟩, hu⟩
    rcases hstays with h1 | h1 | h1
    · rw [h1] at hk; cases hk
    · omega
    · rw [h1] at hu; cases hu
  unfold laned afterSwitch
  rw [worked_isIdle, not_idle_of_counting ha h, hno]
  rfl

/-- An UP that counts at 2 or more after its countdown is withdrawn when an URGENT entry stands (R135). -/
theorem laned_withdraws {a : Announcement} (ha : s.lane.announcement = some a) (hk : a.kind = .up) (h : 3 ≤ a.count)
    (hu : hasUrgent (worked n order s).lane = true) : laned n order s = laneStep4 n (worked n order s) := by
  have hyes : (withdrawable (worked n order s).lane && hasUrgent (worked n order s).lane) = true := by
    rw [Bool.and_eq_true, withdrawable_counted (worked_counting n order ha (by omega))]
    exact ⟨⟨hk, h⟩, hu⟩
  unfold laned afterSwitch
  rw [worked_isIdle, not_idle_of_counting ha (by omega), hyes]
  rfl

theorem hasUrgent_iff (l : Lane) : hasUrgent l = true ↔ ∃ c e, (l.carriers.get c).entry = some e ∧ e.kind = .urgent := by
  refine List.any_eq_true.trans ⟨?_, ?_⟩
  · rintro ⟨c, -, h⟩
    split at h
    · next e he => exact ⟨c, e, he, by simpa using h⟩
    · cases h
  · rintro ⟨c, e, he, hk⟩
    refine ⟨c, c.mem_all, ?_⟩
    rw [he]
    simpa using hk

theorem hasUrgent_eq_false {l : Lane} (h : ∀ c, ∀ e ∈ (l.carriers.get c).entry, e.kind ≠ .urgent) :
    hasUrgent l = false := by
  rw [Bool.eq_false_iff, ne_eq, hasUrgent_iff]
  rintro ⟨c, e, he, hk⟩
  exact h c e he hk

/-- The TX active profiles after a frame start without a commit: those that the switch left. -/
theorem takeFrameStart_txActive (hdue : commitDue s = false) (c : Carrier) :
    (takeFrameStart n order s).txActive c = ((worked n order s).lane.carriers.get c).active := by
  rw [(takeFrameStart_keeps n order s).txActive]
  exact (laned_acted n order s hdue).txActive c

theorem readied_active (hl : s.port.link = .running) (c : Carrier) :
    ((readied n order s).lane.carriers.get c).active = s.txActive c := readied_txActive n order s hl c

/-- The switch of a frame start in RUNNING, member by member. -/
theorem worked_active_due (hl : s.port.link = .running) {a : Announcement} (ha : s.lane.announcement = some a)
    (h : a.count ≤ 1) (c : Carrier) : ((worked n order s).lane.carriers.get c).active =
      match a.member? c with
      | some m => m.toP
      | none => s.txActive c := by
  have ha' : (readied n order s).lane.announcement = some a := (readied_lane_announcement n order s).trans ha
  rw [worked_lane, laneCountdown_due ha' h]
  cases hm : a.member? c with
  | some m => rw [laneSwitch_member hm, recheckFor, recheckEntry_active]
  | none => rw [laneSwitch_other hm, readied_active n order hl]

theorem worked_active_kept (hl : s.port.link = .running)
    (h : s.lane.announcement = none ∨ ∃ a, s.lane.announcement = some a ∧ 2 ≤ a.count) (c : Carrier) :
    ((worked n order s).lane.carriers.get c).active = s.txActive c := by
  have hr := readied_lane_announcement n order s
  rw [worked_lane]
  rcases h with h | ⟨a, ha, hc⟩
  · rw [laneCountdown_none (hr.trans h), readied_active n order hl]
  · rw [laneCountdown_counts (hr.trans ha) hc, readied_active n order hl]

/-- The members that the switch of a frame start puts over are reported. -/
theorem latchedAfter_switch (hl : s.port.link = .running) {a : Announcement} (ha : s.lane.announcement = some a)
    (h : a.count ≤ 1) {c : Carrier} {m : Member} (hm : a.member? c = some m) :
    LatchedAfter s.events (takeFrameStart n order s).events .profileChangeTx c.toNat none := by
  have hann : (rauWork (readied n order s)).lane.announcement = some a := (readied_lane_announcement n order s).trans ha
  have hmem : occurrence .profileChangeTx c.toNat ∈
      (laneCountdown (rauWork (readied n order s)).working (rauWork (readied n order s)).lane).2 := by
    rw [laneCountdown_due hann h]
    exact laneSwitch_reports hm
  have hlatched : LatchedAfter (rauWork (readied n order s)).events (worked n order s).events .profileChangeTx c.toNat none :=
    latchedAfter_of_mem _ _ _ _ hmem
  have hbefore : Grows s.events (rauWork (readied n order s)).events :=
    (((grows_adopted n s).trans (grows_found n order hl)).trans (reported_readied allowsBlocks_true n order s hl)).trans
      (reported_rauWork allowsBlocks_true _)
  exact (grows_from_worked n order s).after (hbefore.before hlatched)
end

/-! ### What a selection starts -/

theorem laneSelect_none {link : LinkParams} {n : FrameNo} {running applyPending : Bool} {l : Lane}
    (h : (laneSelect link n running applyPending l).announcement = none) : laneSelect link n running applyPending l = l := by
  cases hd : hasDown l with
  | true =>
    rw [laneSelect_of_down hd] at h
    cases h
  | false =>
    rw [laneSelect_of_no_down hd] at h ⊢
    split at h
    · next hc =>
      rw [if_pos hc]
      split at h
      · next c _ =>
        obtain ⟨_, _, _, _, he⟩ := chooseUp_entry ‹_›
        unfold startUpgrade at h ⊢
        rw [he] at h
        cases h
      · rfl
    · next hc => rw [if_neg hc]

theorem powerShadowTick_shadow (x : PowerCarrier) : (powerShadowTick x).1.shadow = x.shadow.bind fun sh =>
    if sh.remaining ≤ 1 then none else some { sh with remaining := sh.remaining - 1 } := by
  unfold powerShadowTick powerShadowDue
  cases h : x.shadow with
  | none => simp [h]
  | some sh =>
    by_cases hr : sh.remaining ≤ 1
    · simp [hr]
    · simp [hr]

/-- The shadows stand in the end as the lane's work left them. -/
theorem takeFrameStart_shadow (n : FrameNo) (order : FrameOrder) (s : State) (c : Carrier) :
    ((takeFrameStart n order s).pcu.get c).shadow = ((laned n order s).pcu.get c).shadow := by
  have h1 := (handOne_pcu_rest order (countedAt s) (missingAt s) .last c
    (handOne order (countedAt s) (missingAt s) .beforeFields c (blocked n order s))).2.1
  have h2 := (handOne_pcu_rest order (countedAt s) (missingAt s) .beforeFields c (blocked n order s)).2.1
  rw [(takeFrameStart_own n order s c).pcu, h1, h2, blocked_pcu]

theorem takeFrameStart_mapper (n : FrameNo) (order : FrameOrder) (s : State) :
    (takeFrameStart n order s).mapper = (laned n order s).mapper := (takeFrameStart_keeps n order s).mapper

/-- The shadows of an announcement that the lane's work has handed over stand after the frame start (R148, R162). -/
theorem shadowsPrepared_of_handed {n : FrameNo} {order : FrameOrder} {s v : State} {a : Announcement}
    (h : laned n order s = handAnnouncement v) (ha : v.lane.announcement = some a)
    (hnodup : (a.members.map (·.carrier)).Nodup) :
    ShadowsPrepared a (takeFrameStart n order s) ∧
    ∀ c, a.member? c = none → ((takeFrameStart n order s).pcu.get c).shadow = (v.pcu.get c).shadow := by
  have hpcu (c : Carrier) : ((takeFrameStart n order s).pcu.get c).shadow = match a.member? c with
      | some m => some { toP := m.toP, remaining := a.count }
      | none => (v.pcu.get c).shadow := by
    rw [takeFrameStart_shadow, h]
    unfold handAnnouncement
    rw [ha]
    dsimp only
    rw [State.setMapper_pcu, State.setPcu_pcu, recordPowerShadows_get] <;> rfl
  have hworking : (takeFrameStart n order s).working = v.working := by
    rw [(takeFrameStart_keeps n order s).working]
    have e : (blocked n order s).working = (laned n order s).working := rfl
    rw [e, h, handAnnouncement_working]
  have htx (c : Carrier) : (takeFrameStart n order s).txActive c = v.txActive c := by
    rw [(takeFrameStart_keeps n order s).txActive]
    have e : (blocked n order s).txActive c = (laned n order s).txActive c := rfl
    rw [e, h, State.txActive_eq, handAnnouncement_lane]
    rfl
  have hmapper : (takeFrameStart n order s).mapper = announcementShadow v.working v.lane a v.mapper := by
    rw [takeFrameStart_mapper, h, handAnnouncement_mapper, ha]
  refine ⟨⟨fun m hm => ?_, capacities v.working (fun c => match a.member? c with
    | some m => m.toP
    | none => v.txActive c), fun c => ?_, ?_⟩, fun c hc => ?_⟩
  · have hfind : a.member? m.carrier = some m := by
      unfold Announcement.member?
      rw [List.find?_eq_some_iff_append]
      obtain ⟨before, after, hsplit⟩ := List.append_of_mem hm
      refine ⟨by simp, before, after, hsplit, fun x hx => ?_⟩
      rw [hsplit, List.map_append, List.map_cons, List.nodup_append] at hnodup
      have := hnodup.2.2 x.carrier (List.mem_map_of_mem hx) m.carrier (List.mem_cons_self ..)
      simpa using this
    rw [hpcu, hfind]
  · rw [capacities_get, State.enabled_eq, hworking]
    simp only [htx] <;> rfl
  · rw [hmapper, hworking]
    rfl
  · rw [hpcu, hc]

/-! ### O41 -/

theorem execAnnouncementSwitch_due {s : State} {a : Announcement} (hl : s.port.link = .running)
    (hcur : s.port.current.isSome = true) (ha : s.lane.announcement = some a) (h : a.count ≤ 1) :
    exec .announcementSwitch s = .next (laneStep1 s) :=
  congrArg Host.Outcome.next (onOccasion_true (by simp [State.frameRunning, hl, hcur, announcementDue_of ha h]) _ _)

theorem execAnnouncementSwitch_idle {s : State}
    (h : s.lane.announcement = none ∨ ∃ a, s.lane.announcement = some a ∧ 2 ≤ a.count) :
    exec .announcementSwitch s = .next s :=
  congrArg Host.Outcome.next (onOccasion_false (by rw [announcementDue_of_not h, Bool.and_false]) _ _)

/-- Settles O41: the row by `laneSwitch`, the frame start by the countdown and the cases of the lane's work. -/
theorem dueAnnouncementSwitches : Obligations.DueAnnouncementSwitches := by
  refine fun s => ⟨fun a hl hcur ha hc => ?row, execAnnouncementSwitch_idle, fun n order hl hno => ?frame⟩
  case row =>
    have hlane : (laneStep1 s).lane = (laneSwitch s.working a s.lane).1 :=
      congrArg (fun r : Lane × List Report => r.1) (laneCountdown_due (w := s.working) ha hc)
    refine ⟨_, execAnnouncementSwitch_due hl hcur ha hc, rfl, ?_, fun c m hm => ?_, fun c hm => ?_⟩
    · rw [hlane]; rfl
    · have hget : (laneStep1 s).lane.carriers.get c =
          recheckEntry (s.params c).txCeiling s.working.length { s.lane.carriers.get c with active := m.toP } := by
        rw [hlane, laneSwitch_member hm]
        rfl
      have hmem : occurrence .profileChangeTx c.toNat ∈ (laneCountdown s.working s.lane).2 := by
        rw [laneCountdown_due ha hc]
        exact laneSwitch_reports hm
      refine ⟨?_, ?_, latchedAfter_of_mem s.port.current s.events _ _ hmem, fun e he => ?_, ?_⟩
      · rw [State.txActive_eq, hget, recheckEntry_active]
      · rw [hget, recheckEntry_hold]
      · rw [hget] at he
        obtain ⟨hstep, hdown⟩ := recheckEntry_entry _ _ _ e he
        refine ⟨fun hk => ?_, fun hk => hdown (.inr hk)⟩
        cases ho : e.isOwn with
        | true => exact .inr rfl
        | false => exact .inl (hstep ho hk)
      · rw [hget]
        exact recheckEntry_rechecked ..
    · rw [hlane, laneSwitch_other hm]
  case frame =>
    have hdue := commitDue_of_noCommit s hno
    refine ⟨_, exec_frameStart n order s, fun ha c => ?_, fun a ha hc => ⟨fun c m hm => ?_, fun c hm => ?_, fun hf => ?_⟩,
      fun a ha hc => ⟨fun c => ?_, fun hstays => ?_, fun hf hstays => ?_⟩⟩
    · rw [takeFrameStart_txActive n order hdue, worked_active_kept n order hl (.inl ha)]
    · refine ⟨?_, latchedAfter_switch n order hl ha hc hm⟩
      rw [takeFrameStart_txActive n order hdue, worked_active_due n order hl ha hc, hm]
    · rw [takeFrameStart_txActive n order hdue, worked_active_due n order hl ha hc, hm]
    · have hidle : (s.lane.isIdle || announcementDue s.lane) = true := by
        rw [announcementDue_of ha hc, Bool.or_true]
      have hp := applyPending_of_idle hdue hidle
      have hw : (worked n order s).lane = (laneSwitch s.working a s.lane).1 := by
        rw [worked_lane_of_fields n order hl hf, laneCountdown_due ha hc]
      have hfault : (worked n order s).fault = s.fault := readied_fault n order s hl
      have ht : (takeFrameStart n order s).lane =
          laneSelect s.working.link n (s.fault.state = .running) false (laneSwitch s.working a s.lane).1 := by
        rw [takeFrameStart_lane n order hl hf, laned_selects n order hdue hidle, laneStep3_lane, worked_working,
          worked_applyPending, hp, hfault, hw]
      refine ⟨(laneSwitch s.working a s.lane).1, rfl, fun c m hm => laneSwitch_rechecked hm,
        fun c hm => laneSwitch_other hm, ht, fun h => ?_⟩
      rw [ht] at h ⊢
      exact laneSelect_none h
    · rw [takeFrameStart_txActive n order hdue, worked_active_kept n order hl (.inr ⟨a, ha, hc⟩)]
    · rw [(takeFrameStart_keeps n order s).announcement]
      have e : (blocked n order s).lane = (laned n order s).lane := rfl
      rw [e, laned_counts n order ha hc (by tauto), worked_counting n order ha hc]
    · have hw : (worked n order s).lane = { s.lane with announcement := some { a with count := a.count - 1 } } := by
        rw [worked_lane_of_fields n order hl hf, laneCountdown_counts ha hc]
      have hurgent : a.kind = .down ∨ a.count = 2 ∨ hasUrgent (worked n order s).lane = false := by
        rcases hstays with h | h | h
        · exact .inl h
        · exact .inr (.inl h)
        · refine .inr (.inr ?_)
          rw [hw]
          exact hasUrgent_eq_false h
      rw [takeFrameStart_lane n order hl hf, laned_counts n order ha hc hurgent, hw]

/-! ### O39 and O40 -/

/-- What the row ANNOUNCEMENT_SWITCH leaves where the lane is idle after it: the lane that the selection of a frame start
finds. -/
theorem idle_after_switch {s u : State} (hl : s.port.link = .running)
    (hcur : s.port.current.isSome = true ∨ s.lane.announcement = none) (hu : exec .announcementSwitch s = .next u)
    (hidle : u.lane.announcement = none) :
    u.lane = (laneCountdown s.working s.lane).1 ∧ (s.lane.isIdle || announcementDue s.lane) = true := by
  cases ha : s.lane.announcement with
  | none =>
    have e : u = s := by
      rw [execAnnouncementSwitch_idle (.inl ha)] at hu
      cases hu
      rfl
    rw [e, laneCountdown_none ha]
    exact ⟨rfl, by simp [Lane.isIdle, ha]⟩
  | some a =>
    have hsome : s.port.current.isSome = true := hcur.resolve_right (by rw [ha]; simp)
    by_cases hc : a.count ≤ 1
    · rw [execAnnouncementSwitch_due hl hsome ha hc] at hu
      cases hu
      exact ⟨rfl, by rw [announcementDue_of ha hc, Bool.or_true]⟩
    · have e : u = s := by
        rw [execAnnouncementSwitch_idle (.inr ⟨a, ha, by omega⟩)] at hu
        cases hu
        rfl
      rw [e, ha] at hidle
      cases hidle

theorem exec_announcementSwitch_next (s : State) : ∃ u, exec .announcementSwitch s = .next u := ⟨_, rfl⟩

/-- A frame start whose lane is idle after its switch selects, and records the shadows of what it starts. -/
theorem takeFrameStart_selects (n : FrameNo) (order : FrameOrder) {s u : State} (hl : s.port.link = .running)
    (hp : s.applyPending = false) (hcur : s.port.current.isSome = true ∨ s.lane.announcement = none) (hf : FieldsTaken s)
    (hu : exec .announcementSwitch s = .next u) (hidle : u.lane.announcement = none) :
    (takeFrameStart n order s).lane = laneSelect s.working.link n (s.fault.state = .running) false u.lane ∧
    ∀ a, (takeFrameStart n order s).lane.announcement = some a → (a.members.map (·.carrier)).Nodup →
      ShadowsPrepared a (takeFrameStart n order s) := by
  obtain ⟨hlane, hdueIdle⟩ := idle_after_switch hl hcur hu hidle
  have hdue := commitDue_of_noCommit s (.inl hp)
  have hlaned := laned_selects n order hdue hdueIdle
  have hfault : (worked n order s).fault = s.fault := readied_fault n order s hl
  have ht : (takeFrameStart n order s).lane = laneSelect s.working.link n (s.fault.state = .running) false u.lane := by
    rw [takeFrameStart_lane n order hl hf, hlaned, laneStep3_lane, worked_working, worked_applyPending, hp, hfault,
      worked_lane_of_fields n order hl hf, hlane]
  refine ⟨ht, fun a ha hnodup => (shadowsPrepared_of_handed hlaned (a := a) ?_ hnodup).1⟩
  have e := takeFrameStart_lane n order hl hf
  rw [hlaned, laneStep3_lane] at e
  rw [e] at ha
  exact ha

/-- Settles O39: at a frame start `takeFrameStart_selects`, and the selection by `laneSelect_bundle`. -/
theorem bundleTakesEveryDowngrade : Obligations.BundleTakesEveryDowngrade := by
  refine ⟨fun n order s hl hp hcur hf => ?_, laneSelect_bundle⟩
  obtain ⟨u, hu⟩ := exec_announcementSwitch_next s
  refine ⟨_, u, exec_frameStart n order s, hu, fun hidle hdown => ?_⟩
  obtain ⟨ht, hshadows⟩ := takeFrameStart_selects n order hl hp hcur hf hu hidle
  obtain ⟨a, ha, -, hnodup, -⟩ := laneSelect_bundle s.working.link n (s.fault.state = .running) false u.lane hdown
  rw [← ht] at ha
  exact ⟨ht, a, ha, hshadows a ha hnodup⟩

/-- An announcement that a selection without downgrades starts has one member. -/
theorem laneSelect_no_down_members {link : LinkParams} {n : FrameNo} {running applyPending : Bool} {l : Lane}
    {a : Announcement} (hd : hasDown l = false) (hidle : l.announcement = none)
    (ha : (laneSelect link n running applyPending l).announcement = some a) : (a.members.map (·.carrier)).Nodup := by
  rw [laneSelect_of_no_down hd] at ha
  split at ha
  · split at ha
    · unfold startUpgrade at ha
      split at ha
      · cases ha
        simp
      · rw [hidle] at ha; cases ha
    · rw [hidle] at ha; cases ha
  · rw [hidle] at ha; cases ha

/-- Settles O40: at a frame start `takeFrameStart_selects`, and the selection by `laneSelect_upgrade`. -/
theorem oldestUpgradeIsGranted : Obligations.OldestUpgradeIsGranted := by
  refine ⟨fun n order s hl hp hcur hf => ?_, laneSelect_upgrade⟩
  obtain ⟨u, hu⟩ := exec_announcementSwitch_next s
  refine ⟨_, u, exec_frameStart n order s, hu, fun hidle hup => ?_⟩
  obtain ⟨ht, hshadows⟩ := takeFrameStart_selects n order hl hp hcur hf hu hidle
  refine ⟨ht, fun a ha => hshadows a ha ?_⟩
  rw [ht] at ha
  exact laneSelect_no_down_members (hasDown_eq_false hup) hidle ha

/-! ### O42 -/

/-- A withdrawal does not read the announcement's count. -/
theorem laneWithdraw_count (w : WorkingSet) (deal : Member → LaneCarrier → LaneCarrier) {l : Lane} {a : Announcement}
    (ha : l.announcement = some a) (k : Nat) :
    laneWithdraw w deal { l with announcement := some { a with count := k } } = laneWithdraw w deal l := by
  unfold laneWithdraw
  rw [ha]
  rfl

/-- A downgrade below TX active outlasts the withdrawal (R129). -/
theorem laneWithdraw_keeps_urgent {w : WorkingSet} {l : Lane} {a : Announcement} (ha : l.announcement = some a) {c : Carrier}
    {e : Entry} (he : (l.carriers.get c).entry = some e) (hk : e.kind = .urgent) (hlow : e.target < (l.carriers.get c).active) :
    ∃ e', ((laneWithdraw w restoreMember l).carriers.get c).entry = some e' ∧ e'.kind = .urgent := by
  rw [(laneWithdraw_some ha).2]
  cases hm : a.member? c with
  | none => exact ⟨e, he, hk⟩
  | some m =>
    have hdeal : (restoreMember m (l.carriers.get c)).entry = some e ∧
        (restoreMember m (l.carriers.get c)).active = (l.carriers.get c).active := by
      refine ⟨?_, restoreMember_active m _⟩
      cases ho : m.origin with
      | far seq =>
        cases hh : (l.carriers.get c).hold with
        | true => rw [restoreMember_hold ho hh]; exact he
        | false => rw [restoreMember_standing ho hh (by rw [he]; rfl)]; exact he
      | own maker =>
        unfold restoreMember
        rw [ho]
        exact he
    obtain ⟨hentry, hactive⟩ := hdeal
    rw [← hactive] at hlow
    obtain ⟨-, -, hfar, hown⟩ := recheckEntry_rechecked (w.carriers.get c).txCeiling w.table.length
      (restoreMember m (l.carriers.get c))
    have hcap (t : ℕ) : min (min t (w.carriers.get c).txCeiling) (w.table.length - 1) ≤ t :=
      (min_le_left _ _).trans (min_le_left _ _)
    dsimp only
    unfold recheckFor
    cases e with
    | far seq k t arrival restored =>
      have hkind : k = .urgent := hk
      have hlow' : t < (restoreMember m (l.carriers.get c)).active := hlow
      rw [hfar seq k t arrival restored hentry (by rw [hkind]; decide), if_pos (lt_of_le_of_lt (hcap t) hlow')]
      exact ⟨_, rfl, hk⟩
    | own maker k t absorbed =>
      have hlow' : t < (restoreMember m (l.carriers.get c)).active := hlow
      rw [hown maker k t absorbed hentry, if_pos (lt_of_le_of_lt (hcap t) hlow')]
      exact ⟨_, rfl, hk⟩

/-- Settles O42: at a frame start the lane's fourth step (`laned_withdraws`), and the withdrawal by
`laneWithdraw_restores`. -/
theorem withdrawnUpgradeReturnsDeferred : Obligations.WithdrawnUpgradeReturnsDeferred := by
  refine ⟨fun n order s a hl ha hk hc hf ⟨c, e, he, hurgent, hlow⟩ => ?_, laneWithdraw_restores⟩
  have hdue : commitDue s = false := by
    unfold commitDue
    rw [not_idle_of_counting ha (by omega), Bool.and_false]
  have hw : (worked n order s).lane = { s.lane with announcement := some { a with count := a.count - 1 } } := by
    rw [worked_lane_of_fields n order hl hf, laneCountdown_counts ha (by omega)]
  have hlaned := laned_withdraws n order ha hk hc (by rw [hw]; exact (hasUrgent_iff _).2 ⟨c, e, he, hurgent⟩)
  let l := laneWithdraw s.working restoreMember s.lane
  have ht : (takeFrameStart n order s).lane = laneSelect s.working.link n false s.applyPending l := by
    rw [takeFrameStart_lane n order hl hf, hlaned, laneStep4_lane, worked_working, worked_applyPending, hw,
      laneWithdraw_count _ _ ha]
  obtain ⟨e', he', hk'⟩ := laneWithdraw_keeps_urgent (w := s.working) ha he hurgent hlow
  have hdown : ∃ c e, (l.carriers.get c).entry = some e ∧ e.kind ≠ .up := ⟨c, e', he', by rw [hk']; decide⟩
  obtain ⟨b, hb, hbk, hnodup, -, hcount, -⟩ := laneSelect_bundle s.working.link n false s.applyPending l hdown
  rw [← ht] at hb
  have hann : (laned n order s).lane.announcement = some b := by rw [← takeFrameStart_lane n order hl hf, hb]
  obtain ⟨hprepared, hothers⟩ := shadowsPrepared_of_handed (n := n) (order := order) hlaned (a := b)
    (by rw [hlaned] at hann; unfold laneStep4 at hann; rw [handAnnouncement_lane] at hann; exact hann) hnodup
  refine ⟨_, b, exec_frameStart n order s, ht, hb, hbk, hcount ⟨c, e', he', by rw [hk']; decide, .inl hk'⟩, hprepared,
    fun d hd => ?_, fun d => ?_⟩
  · rw [hothers d hd, State.setLane_pcu, discardShadows_pcu]
  · rw [takeFrameStart_txActive n order hdue, worked_active_kept n order hl (.inr ⟨a, ha, by omega⟩)]

end Sys2Proof.Machine
end

section
/-! The shadows of power control and mapper at their rows and at a FRAME_START: O44. -/
namespace Sys2Proof.Machine

/-! ### The shadow of power control -/

section
variable {x : PowerCarrier}

theorem powerShadowDue_of {sh : PowerShadow} (h : x.shadow = some sh) (hr : sh.remaining ≤ 1) :
    powerShadowDue x = true := by
  unfold powerShadowDue
  rw [h]
  exact decide_eq_true hr

theorem powerShadowDue_of_not (h : ∀ sh ∈ x.shadow, 2 ≤ sh.remaining) : powerShadowDue x = false := by
  unfold powerShadowDue
  cases hx : x.shadow with
  | none => rfl
  | some sh => exact decide_eq_false (by have := h sh hx; omega)

theorem powerShadowTick_due {sh : PowerShadow} (h : x.shadow = some sh) (hr : sh.remaining ≤ 1) :
    powerShadowTick x = ({ x with shadow := none }, some sh.toP) := by
  have hdue := powerShadowDue_of h hr
  unfold powerShadowTick
  rw [h]
  dsimp only
  rw [hdue]
  rfl

theorem powerShadowTick_waits (h : ∀ sh ∈ x.shadow, 2 ≤ sh.remaining) : (powerShadowTick x).2 = none := by
  have hdue := powerShadowDue_of_not h
  unfold powerShadowTick
  rw [hdue]
  split <;> rfl
end

theorem loadedProfiles_get (s : State) (c : Carrier) :
    (loadedProfiles s).get c = (powerShadowTick (s.pcu.get c)).2 := Four.get_ofFn ..

/-! ### The shadow of the mapper -/

section
variable {x : Mapper}

theorem mapShadowDue_of {sh : MapShadow} (h : x.shadow = some sh) (hr : sh.remaining ≤ 1) : mapShadowDue x = true := by
  unfold mapShadowDue
  rw [h]
  exact decide_eq_true hr

theorem mapShadowDue_of_not (h : ∀ sh ∈ x.shadow, 2 ≤ sh.remaining) : mapShadowDue x = false := by
  unfold mapShadowDue
  cases hx : x.shadow with
  | none => rfl
  | some sh => exact decide_eq_false (by have := h sh hx; omega)

theorem mapperTick_due {sh : MapShadow} (h : x.shadow = some sh) (hr : sh.remaining ≤ 1) :
    mapperTick x = ({ active := sh.result, shadow := none }, shedEdges x.active.entries sh.result.entries) := by
  have hdue := mapShadowDue_of h hr
  unfold mapperTick
  rw [h]
  dsimp only
  rw [hdue]
  rfl

theorem mapperTick_waits (h : ∀ sh ∈ x.shadow, 2 ≤ sh.remaining) : (mapperTick x).1.active = x.active := by
  have hdue := mapShadowDue_of_not h
  unfold mapperTick
  rw [hdue]
  split <;> rfl

theorem mapperTick_shadow (x : Mapper) : (mapperTick x).1.shadow = x.shadow.bind fun sh =>
    if sh.remaining ≤ 1 then none else some { sh with remaining := sh.remaining - 1 } := by
  unfold mapperTick mapShadowDue
  cases h : x.shadow with
  | none => simp [h]
  | some sh =>
    by_cases hr : sh.remaining ≤ 1
    · simp [hr]
    · simp [hr]
end

/-- The CLASS_SHED edges of a loaded placement are latched (R166). -/
theorem mapperWork_shedEdges {s : State} {sh : MapShadow} (h : s.mapper.shadow = some sh) (hr : sh.remaining ≤ 1)
    (k : Cls) :
    ((s.mapper.active.entries.get k).state ≠ .shed → (sh.result.entries.get k).state = .shed →
      LatchedAfter s.events (mapperWork s).events .classShed k.toNat (some .enter)) ∧
    ((s.mapper.active.entries.get k).state = .shed → (sh.result.entries.get k).state ≠ .shed →
      LatchedAfter s.events (mapperWork s).events .classShed k.toNat (some .leave)) := by
  have hmem {r : Report} (hr' : r ∈ shedEdges s.mapper.active.entries sh.result.entries) :
      LatchedAfter s.events (mapperWork s).events r.kind r.index r.edge := by
    refine latchedAfter_of_mem _ _ _ r ?_
    rw [mapperTick_due h hr]
    exact hr'
  exact ⟨fun hb ha => hmem (enter_mem_shedEdges hb ha), fun hb ha => hmem (leave_mem_shedEdges hb ha)⟩

/-! ### A frame start -/

section
variable (n : FrameNo) (order : FrameOrder) {s : State} (hl : s.port.link = .running)
include hl

theorem found_pcu_rest (c : Carrier) :
    ((found n order s).pcu.get c).period = (s.pcu.get c).period ∧
    ((found n order s).pcu.get c).shadow = (s.pcu.get c).shadow := by
  rw [(found_own n order s hl c).pcu]
  obtain ⟨hperiod, hshadow, -⟩ := handOne_pcu_rest order (countedAt s) (missingAt s) .beforeBlocks c (adopted n s)
  rw [hperiod, hshadow, adopted_pcu]
  exact ⟨rfl, rfl⟩

theorem worked_pcu_get (c : Carrier) :
    ((worked n order s).pcu.get c).period = (s.pcu.get c).period - 1 ∧
    ((worked n order s).pcu.get c).shadow = (s.pcu.get c).shadow.bind fun sh =>
      if sh.remaining ≤ 1 then none else some { sh with remaining := sh.remaining - 1 } := by
  have e : (worked n order s).pcu.get c = (powerShadowTick (periodTick ((found n order s).pcu.get c))).1 :=
    readied_pcu n order s hl c
  obtain ⟨hperiod, hshadow⟩ := found_pcu_rest n order hl c
  rw [e, powerShadowTick_shadow, (powerShadowTick_same _).2.1]
  unfold periodTick
  dsimp only
  rw [hperiod, hshadow]
  exact ⟨rfl, rfl⟩

theorem worked_atpc (hf : FieldsTaken s) (c : Carrier) :
    ((worked n order s).pcu.get c).atpc = (s.pcu.get c).atpc := by
  have e : (worked n order s).pcu.get c = (powerShadowTick (periodTick ((found n order s).pcu.get c))).1 :=
    readied_pcu n order s hl c
  rw [e, (powerShadowTick_same _).1, found_pcu n order hl hf]
  rfl

theorem worked_mapper : (worked n order s).mapper = (mapperTick s.mapper).1 := readied_mapper n order s hl

/-- The CLASS_SHED edges of a placement loaded at a frame start. -/
theorem takeFrameStart_shedEdges {sh : MapShadow} (h : s.mapper.shadow = some sh) (hr : sh.remaining ≤ 1) (k : Cls) :
    ((s.mapper.active.entries.get k).state ≠ .shed → (sh.result.entries.get k).state = .shed →
      LatchedAfter s.events (takeFrameStart n order s).events .classShed k.toNat (some .enter)) ∧
    ((s.mapper.active.entries.get k).state = .shed → (sh.result.entries.get k).state ≠ .shed →
      LatchedAfter s.events (takeFrameStart n order s).events .classShed k.toNat (some .leave)) := by
  have hmapper : (graceWork (found n order s)).mapper = s.mapper :=
    (found_keeps n order s hl).mapper.trans (adopted_mapper n s)
  have hbefore : Grows s.events (graceWork (found n order s)).events :=
    (grows_adopted n s).trans (grows_found n order hl)
  have hafter : Grows (mapperWork (graceWork (found n order s))).events (takeFrameStart n order s).events := by
    have e : (mapperWork (graceWork (found n order s))).events = (readied n order s).events := by
      rw [readied_running n order s hl]
      rfl
    rw [e]
    exact (reported_worked allowsBlocks_true n order s).trans (grows_from_worked n order s)
  obtain ⟨henter, hleave⟩ := mapperWork_shedEdges (s := graceWork (found n order s)) (by rw [hmapper]; exact h) hr k
  rw [hmapper] at henter hleave
  exact ⟨fun hb ha => hafter.after (hbefore.before (henter hb ha)),
    fun hb ha => hafter.after (hbefore.before (hleave hb ha))⟩
end

section
variable (n : FrameNo) (order : FrameOrder) {s : State}

/-- A selection that starts nothing leaves the shadows as they are. -/
theorem laneStep3_starts_nothing {u : State} (h : (laneStep3 n u).lane.announcement = none) :
    (laneStep3 n u).pcu = u.pcu ∧ (laneStep3 n u).mapper = u.mapper := by
  rw [laneStep3_lane] at h
  have e : laneStep3 n u =
      u.setLane (laneSelect u.working.link n (u.fault.state = .running) u.applyPending u.lane) := by
    unfold laneStep3 handAnnouncement
    rw [State.setLane_lane, h]
  rw [e]
  exact ⟨rfl, rfl⟩

/-- Where the lane starts and withdraws nothing, its work leaves the shadows as the counting left them. -/
theorem laned_steady (hdue : commitDue s = false) (hl : s.port.link = .running)
    (h : ((takeFrameStart n order s).lane.announcement = none ∧ ∀ a ∈ s.lane.announcement, a.count ≤ 1) ∨
      ∃ a, s.lane.announcement = some a ∧ 2 ≤ a.count ∧ (a.kind = .down ∨ a.count = 2 ∨
        (FieldsTaken s ∧ ∀ c, ∀ e ∈ (s.lane.carriers.get c).entry, e.kind ≠ .urgent))) :
    (laned n order s).pcu = (worked n order s).pcu ∧ (laned n order s).mapper = (worked n order s).mapper := by
  rcases h with ⟨hnone, hs⟩ | ⟨a, ha, hc, hstays⟩
  · have hidle : (s.lane.isIdle || announcementDue s.lane) = true := by
      cases ha : s.lane.announcement with
      | none => simp [Lane.isIdle, ha]
      | some a => rw [announcementDue_of ha (hs a ha), Bool.or_true]
    have hn : (laned n order s).lane.announcement = none :=
      ((takeFrameStart_keeps n order s).announcement).symm.trans hnone
    rw [laned_selects n order hdue hidle] at hn ⊢
    exact laneStep3_starts_nothing n hn
  · have hurgent : a.kind = .down ∨ a.count = 2 ∨ hasUrgent (worked n order s).lane = false := by
      rcases hstays with h | h | ⟨hf, h⟩
      · exact .inl h
      · exact .inr (.inl h)
      · refine .inr (.inr ?_)
        rw [worked_lane_of_fields n order hl hf, laneCountdown_counts ha hc]
        exact hasUrgent_eq_false h
    rw [laned_counts n order ha hc hurgent]
    exact ⟨rfl, rfl⟩
end

/-! ### O44 -/

theorem execPcuShadowLoad_due {c : Carrier} {s : State} {sh : PowerShadow} (hl : s.port.link = .running)
    (hcur : s.port.current.isSome = true) (h : (s.pcu.get c).shadow = some sh) (hr : sh.remaining ≤ 1) :
    exec (.pcuShadowLoad c) s = .next (loadPowerShadow c s) :=
  congrArg Host.Outcome.next (onOccasion_true (by simp [State.frameRunning, hl, hcur, powerShadowDue_of h hr]) _ _)

theorem execMapShadowLoad_due {s : State} {sh : MapShadow} (hl : s.port.link = .running)
    (hcur : s.port.current.isSome = true) (h : s.mapper.shadow = some sh) (hr : sh.remaining ≤ 1) :
    exec .mapShadowLoad s = .next (mapperWork s) :=
  congrArg Host.Outcome.next (onOccasion_true (by simp [State.frameRunning, hl, hcur, mapShadowDue_of h hr]) _ _)

theorem waits_of_cases {α : Type} {x : Option α} {remaining : α → Nat}
    (h : x = none ∨ ∃ sh, x = some sh ∧ 2 ≤ remaining sh) : ∀ sh ∈ x, 2 ≤ remaining sh := by
  rcases h with rfl | ⟨sh, rfl, hr⟩
  · exact nofun
  · rintro _ ⟨⟩
    exact hr

/-- Settles O44: the rows by the counting of each shadow; at a frame start the attenuation is computed from the items
that the earlier work left, and the shadows stand as the counting left them where the lane starts nothing. -/
theorem dueShadowsAreLoaded : Obligations.DueShadowsAreLoaded := by
  refine ⟨fun c s sh hl hcur h hr => ?power, fun c s h => ?powerIdle, fun s sh hl hcur h hr => ?map, fun s h => ?mapIdle,
    fun n order s hl hno => ?frame⟩
  case power =>
    rw [execPcuShadowLoad_due hl hcur h hr]
    unfold loadPowerShadow
    rw [powerShadowTick_due h hr]
    rfl
  case powerIdle =>
    exact congrArg Host.Outcome.next
      (onOccasion_false (by rw [powerShadowDue_of_not (waits_of_cases h), Bool.and_false]) _ _)
  case map =>
    refine ⟨_, execMapShadowLoad_due hl hcur h hr, rfl, ?_, mapperWork_shedEdges h hr⟩
    exact congrArg (fun r : Mapper × List Report => r.1) (mapperTick_due h hr)
  case mapIdle =>
    exact congrArg Host.Outcome.next
      (onOccasion_false (by rw [mapShadowDue_of_not (waits_of_cases h), Bool.and_false]) _ _)
  case frame =>
    have hdue := commitDue_of_noCommit s hno
    have hacted := laned_acted n order s hdue
    have henabled (c : Carrier) : (laned n order s).enabled c = s.enabled c := by
      rw [State.enabled_eq, hacted.working, worked_working]
      rfl
    have htable : (laned n order s).working.table = s.working.table := by rw [hacted.working, worked_working]
    have hmapper : (takeFrameStart n order s).mapper.active = (mapperTick s.mapper).1.active := by
      rw [takeFrameStart_mapper, hacted.placement, worked_mapper n order hl]
    refine ⟨_, exec_frameStart n order s, fun c => ?_, fun hf c => ?_, fun h => ?_, fun sh h hr => ⟨?_, ?_⟩, fun h => ?_⟩
    · rw [(takeFrameStart_own n order s c).pcu, (handOne_pcu_rest ..).1, (handOne_pcu_rest ..).1, blocked_pcu]
      exact ((hacted.pcu c).2.1).trans (worked_pcu_get n order hl c).1
    · have hatpc : ((laned n order s).pcu.get c).atpc = (s.pcu.get c).atpc :=
        ((hacted.pcu c).1).trans (worked_atpc n order hl hf c)
      have hloaded : (loadedProfiles (found n order s)).get c = (powerShadowTick (s.pcu.get c)).2 := by
        rw [loadedProfiles_get, found_pcu n order hl hf]
      rw [takeFrameStart_pcu n order hl hf, blocked_pcu, henabled, hloaded, htable]
      dsimp only
      refine ⟨hatpc, fun he => by rw [he]; rfl, fun sh he h hr => ?_, fun he h => ?_⟩
      · rw [he, powerShadowTick_due h hr, if_pos rfl]
        unfold effectiveAtten
        rw [hatpc]
        rfl
      · rw [he, powerShadowTick_waits h, if_pos rfl, (takeFrameStart_keeps n order s).txActive]
        unfold effectiveAtten
        rw [hatpc]
        rfl
    · rw [hmapper, mapperTick_waits h]
    · rw [hmapper, mapperTick_due h hr]
    · exact takeFrameStart_shedEdges n order hl h hr
    · obtain ⟨hpcu, hmap⟩ := laned_steady n order hdue hl h
      have hshadow : (takeFrameStart n order s).mapper.shadow = s.mapper.shadow.bind fun sh =>
          if sh.remaining ≤ 1 then none else some { sh with remaining := sh.remaining - 1 } := by
        rw [takeFrameStart_mapper, hmap, worked_mapper n order hl, mapperTick_shadow]
      refine ⟨fun c => ?_, fun hs => by rw [hshadow, hs]; rfl, fun sh hs => by rw [hshadow, hs]; rfl⟩
      have hget := (worked_pcu_get n order hl c).2
      rw [← hpcu, ← takeFrameStart_shadow] at hget
      exact ⟨fun hs => by rw [hget, hs]; rfl, fun sh hs => by rw [hget, hs]; rfl⟩

end Sys2Proof.Machine
end

section
/-! The restoring FRAME_START: O14. -/
namespace Sys2Proof.Machine

/-! ### The restoration -/

section
variable (n : FrameNo) (s : State)

theorem restored_pcu (c : Carrier) : (restored n s).pcu.get c =
    settleHold (s.params c) (powerHeld s c) (powerHeld (restored n s) c) (powerShadowTick (periodTick (s.pcu.get c))).1 := by
  have e : (restored n s).pcu = (settleHolds s ((onEnabledRau (powerWork (mapperWork (graceWork (restoredPort n s))))
      fun _ x => { x with active := 0 }).setLane (laneRestore s.working s.lane))).pcu := by
    simp [restored, restoreBlocks, restoredPort]
  have hheld : powerHeld (restored n s) c = powerHeld ((onEnabledRau (powerWork (mapperWork (graceWork (restoredPort n s))))
      fun _ x => { x with active := 0 }).setLane (laneRestore s.working s.lane)) c :=
    powerHeld_congr (by simp [restored, restoreBlocks, restoredPort]) (by simp [restored, restoreBlocks])
      (by simp [restored, restoreBlocks]) (by simp [restored, restoreBlocks]) c
  rw [e, settleHolds_pcu, hheld]
  have hparams (u : State) (h : u.working = s.working) : u.params c = s.params c := by
    rw [State.params_eq, State.params_eq, h]
  rw [hparams _ (by simp [restoredPort])]
  congr 1
  simp [powerWork_pcu]
  rfl

theorem restored_events : (restored n s).events = (mapperWork (graceWork (restoredPort n s))).events := by
  simp [restored, restoreBlocks]

theorem restored_port : (restored n s).port = (restoredPort n s).port := by
  simp [restored, restoreBlocks]

theorem restored_intake (c : Carrier) : (restored n s).intake.get c = .initial := by
  simp [restored, restoreBlocks, restoredPort]

theorem restored_fault : (restored n s).fault = s.fault := by
  simp [restored, restoreBlocks, restoredPort]

theorem restored_sig : (restored n s).sig = s.sig := by
  simp [restored, restoreBlocks, restoredPort]
end

/-! ### From a sound state -/

section
variable {s : State} (hlost : s.port.link = .frameLost)
include hlost

theorem lost_unarmed (hrx : ReceiveSound s) (c : Carrier) : (s.rau.get c).armed = none := by
  obtain ⟨-, -, -, -, -, -, -, -, -, -, h⟩ := hrx c
  exact (h (decide_eq_true hlost)).2

theorem lost_announcement (hlane : LaneSound s) : s.lane.announcement = none :=
  Option.eq_none_iff_forall_not_mem.2 fun a ha => absurd ((hlane.2 a ha).2.1.symm.trans hlost) (by decide)

theorem lost_entry (hlane : LaneSound s) (c : Carrier) : (s.lane.carriers.get c).entry = none :=
  Option.eq_none_iff_forall_not_mem.2 fun e he =>
    absurd ((((hlane.1 c).2.1 e he).2.2.1).symm.trans hlost) (by decide)

theorem lost_commitDue (hlane : LaneSound s) : commitDue s = s.applyPending := by
  unfold commitDue Lane.isIdle
  rw [lost_announcement hlost hlane]
  simp

theorem laneRestore_get (hlane : LaneSound s) (c : Carrier) :
    (laneRestore s.working s.lane).carriers.get c = { s.lane.carriers.get c with entry := none, active := 0 } := by
  have he := lost_entry hlost hlane c
  have hoff := (hlane.1 c).2.2.1
  unfold laneRestore
  dsimp only
  rw [Four.get_ofFn]
  split
  · rw [← he]
  · next h =>
    rw [← he, ← hoff (Bool.eq_false_iff.2 h)]

section
variable (n : FrameNo) (order : FrameOrder)

theorem worked_restored_lane (hlane : LaneSound s) : (worked n order s).lane = laneRestore s.working s.lane := by
  have h : (readied n order s).lane = laneRestore s.working s.lane := by
    rw [readied_lost n order s hlost, restored_lane]
  rw [worked_lane, h, laneCountdown_none]
  exact lost_announcement hlost hlane

theorem worked_restored_rau_active (hrx : ReceiveSound s) (c : Carrier) : ((worked n order s).rau.get c).active = 0 := by
  have hready : ((readied n order s).rau.get c).active = 0 ∧ ((readied n order s).rau.get c).armed = none := by
    have harmed := lost_unarmed hlost hrx c
    rw [readied_lost n order s hlost, restored_rau]
    split
    · exact ⟨rfl, harmed⟩
    · next h =>
      obtain ⟨-, -, -, -, -, -, -, -, -, hoff, -⟩ := hrx c
      exact ⟨(hoff (by simpa using h)).1, harmed⟩
  have e : (worked n order s).rau.get c = (rxFrameWork (rxEnv (readied n order s) c) ((readied n order s).rau.get c)).1 :=
    rauWork_get _ c
  rw [e]
  by_cases hp : ((readied n order s).rau.get c).phase = .standby
  · rw [rxFrameWork_standby _ hp, hready.1]
  · rw [rxFrameWork_unarmed _ hp hready.2, (timerTick_sameSwitching _ _).active, guardTick_eq, hready.1]

theorem worked_restored_mapper (hmap : MapperSound s) : (worked n order s).mapper =
    { active := s.mapper.active
      shadow := some { remaining := 1, loadFrame := n + 1,
                       result := placement (capacities s.working fun _ => 0) s.working.classes } } := by
  have e : (worked n order s).mapper = (readied n order s).mapper := rfl
  have hshadow : s.mapper.shadow = none := (hmap.2.2 hlost).2
  have htick : mapperTick s.mapper = (s.mapper, []) := by
    unfold mapperTick
    rw [hshadow]
  rw [e, readied_lost n order s hlost, restored_mapper, htick]
  rfl

theorem worked_restored_pcu (hpower : PowerSound s) (c : Carrier) :
    ((worked n order s).pcu.get c).atpc = 0 ∧
    ((worked n order s).pcu.get c).period =
      if powerHeld (restored n s) c = true then (s.pcu.get c).period - 1 else (s.params c).period := by
  have e : (worked n order s).pcu.get c = (restored n s).pcu.get c := by
    rw [← readied_lost n order s hlost]
    rfl
  obtain ⟨hatpc, hperiod, -⟩ := powerShadowTick_same (periodTick (s.pcu.get c))
  have hheld := powerHeld_of_lost hlost c
  have hzero : (s.pcu.get c).atpc = 0 := (hpower c).2.1 hheld
  rw [e, restored_pcu, settleHold_atpc, settleHold_period, hheld, hatpc, hperiod]
  refine ⟨by simp [periodTick, hzero], ?_⟩
  cases powerHeld (restored n s) c <;> rfl
end

end

/-! ### The lane's work, with or without a commit -/

theorem laneSelect_empty {link : LinkParams} {n : FrameNo} {running applyPending : Bool} {l : Lane}
    (h : ∀ c, (l.carriers.get c).entry = none) : laneSelect link n running applyPending l = l := by
  rw [laneSelect_of_no_down (hasDown_eq_false fun c e he => by rw [h c] at he; cases he)]
  split
  · split
    · next c hc =>
      obtain ⟨seq, t, arrival, back, he⟩ := chooseUp_entry hc
      rw [h c] at he
      cases he
    · rfl
  · rfl

/-! ### The receive context of a carrier enabled before and after a commit (R73) -/

section
variable (env : RxEnv) (x : RxContext)

theorem slipAbsent_same : (slipAbsent env x).1 = { x with
    active := if env.table.length ≤ x.active then 0 else x.active
    hold := (slipAbsent env x).1.hold
    request := (slipAbsent env x).1.request
    timer := (slipAbsent env x).1.timer } := by
  unfold slipAbsent
  split
  · unfold slipTo
    rw [rebaseRequest_same]
    rfl
  · rfl

theorem dropAbsentSwitch_eq : dropAbsentSwitch env x =
    { x with armed := x.armed.filter fun a => a.next < env.table.length } := by
  obtain ⟨_, _, _, _, _, armed, _, _, _, _, _, _, _, _⟩ := x
  cases armed with
  | none => rfl
  | some a =>
    unfold dropAbsentSwitch
    by_cases h : env.table.length ≤ a.next
    · simp [h, Option.filter_some]
    · simp [h, Option.filter_some]

theorem dropHighRequest_armed (armed : Option Armed) :
    dropHighRequest env { x with armed := armed } = { dropHighRequest env x with armed := armed } := by
  have hcancel : cancelRequest { x with armed := armed } = { cancelRequest x with armed := armed } := by
    unfold cancelRequest isOpen
    dsimp only
    split <;> rfl
  unfold dropHighRequest
  dsimp only
  split
  · split
    · exact hcancel
    · rfl
  · rfl

theorem cancelRequest_same : cancelRequest x =
    { x with request := (cancelRequest x).request, timer := (cancelRequest x).timer } := by
  unfold cancelRequest
  split <;> rfl

theorem dropHighRequest_same : dropHighRequest env x =
    { x with request := (dropHighRequest env x).request, timer := (dropHighRequest env x).timer } := by
  unfold dropHighRequest
  split
  · split
    · exact cancelRequest_same x
    · rfl
  · rfl

/-- The request of a context as a commit leaves it: rebased where the profile slips, and cancelled above the ceiling. -/
def committedRequest : RxContext := dropHighRequest env (slipAbsent env x).1

theorem rxCommit_stays_same : (rxCommit env true true x).1 = { x with
    active := if env.table.length ≤ x.active then 0 else x.active
    armed := x.armed.filter fun a => a.next < env.table.length
    hold := env.link.holdFrames * x.m
    request := (committedRequest env x).request
    timer := (committedRequest env x).timer } := by
  rw [rxCommit_stays, dropAbsentSwitch_eq, dropHighRequest_armed, dropHighRequest_same]
  unfold committedRequest reloadHold
  rw [slipAbsent_same]
end

theorem rxCommit_base (env : RxEnv) (before after : Bool) {x : RxContext} (h : x.active = 0) :
    (rxCommit env before after x).1.active = 0 := by
  cases before with
  | false => cases after with
    | false => exact h
    | true => rfl
  | true => cases after with
    | false => rfl
    | true =>
      rw [rxCommit_stays_same]
      dsimp only
      rw [h, ite_self]

/-! ### What the abort that a commit may raise leaves of the commit's parts -/

section
variable (n : FrameNo) (s : State)

theorem commitWork_active (c : Carrier) : ((commitWork n s).lane.carriers.get c).active =
    if s.enabled c = (s.staged.carriers.get c).enable then s.txActive c else 0 := by
  have hparts : ((commitParts n s).lane.carriers.get c).active =
      if s.enabled c = (s.staged.carriers.get c).enable then s.txActive c else 0 := by
    rw [commitParts_lane]
    unfold laneCommit
    dsimp only
    rw [Four.get_ofFn, laneCommitCarrier_active]
    rfl
  rw [commitWork_eq, ← hparts]
  unfold rederiveAfterCommit
  split
  · exact linkAbort_active ..
  · rfl

theorem commitWork_period (c : Carrier) :
    ((commitWork n s).pcu.get c).period = ((commitParts n s).pcu.get c).period := by
  rw [commitWork_eq]
  unfold rederiveAfterCommit
  split
  · rw [linkAbort_pcu]
    rfl
  · rfl

theorem commitParts_announcement : (commitParts n s).lane.announcement = s.lane.announcement := by
  rw [commitParts_lane]
  rfl

theorem withdrawable_of_idle {l : Lane} (h : l.announcement = none) : withdrawable l = false := by
  unfold withdrawable
  rw [h]

/-- With the lane idle the abort has no shadow to discard. -/
theorem commitWork_mapper (h : s.lane.announcement = none) : (commitWork n s).mapper = (commitParts n s).mapper := by
  have hw : withdrawable (commitParts n s).lane = false :=
    withdrawable_of_idle ((commitParts_announcement n s).trans h)
  rw [commitWork_eq]
  unfold rederiveAfterCommit
  split
  · rw [linkAbort_mapper]
    exact if_neg fun h => absurd (hw.symm.trans h.2) (by decide)
  · rfl

theorem commitParts_shadow : (commitParts n s).mapper.shadow = some
    { remaining := 1, loadFrame := n + 1,
      result := placement (capacities (stagedAsWorking s.staged) fun c => ((commitParts n s).lane.carriers.get c).active)
        s.staged.classes } := by
  rw [commitParts_mapper]
  rfl

/-- Nothing is conformed where the maps are empty. -/
theorem commitParts_maps_empty (h : ∀ c, s.mapper.active.maps.get c = []) (c : Carrier) :
    (commitParts n s).mapper.active.maps.get c = [] := by
  rw [commitParts_mapper]
  refine (conform_maps ..).trans ?_
  unfold keptMap conformMap
  rw [h]
  split <;> rfl
end

/-! ### The lane's work of a restoring frame start -/

section
variable (n : FrameNo) (order : FrameOrder) {s : State} (hlost : s.port.link = .frameLost)
include hlost

theorem worked_restored_base (hlane : LaneSound s) (c : Carrier) : (worked n order s).txActive c = 0 := by
  rw [State.txActive_eq, worked_restored_lane hlost n order hlane, laneRestore_get hlost hlane]

theorem worked_restored_idle (hlane : LaneSound s) : (worked n order s).lane.announcement = none := by
  rw [worked_restored_lane hlost n order hlane]
  exact lost_announcement hlost hlane

/-- With no APPLY pending the lane has nothing to start. -/
theorem laned_restored (hlane : LaneSound s) (hdue : commitDue s = false) : laned n order s = laneStep3 n (worked n order s) ∧
    (laneStep3 n (worked n order s)).pcu = (worked n order s).pcu ∧
    (laneStep3 n (worked n order s)).mapper = (worked n order s).mapper := by
  have hidle : (s.lane.isIdle || announcementDue s.lane) = true := by
    simp [Lane.isIdle, lost_announcement hlost hlane]
  refine ⟨laned_selects n order hdue hidle, laneStep3_starts_nothing n ?_⟩
  rw [laneStep3_lane, worked_restored_lane hlost n order hlane, laneSelect_empty]
  · exact lost_announcement hlost hlane
  · intro c
    rw [laneRestore_get hlost hlane]

theorem laned_restored_rau (hrx : ReceiveSound s) (c : Carrier) : ((laned n order s).rau.get c).active = 0 := by
  have hw := worked_restored_rau_active hlost n order hrx c
  cases hdue : commitDue s with
  | false => rw [(laned_acted n order s hdue).rau, hw]
  | true =>
    rw [laned_commit n order s hdue]
    have hparts : ((commitParts n (worked n order s)).rau.get c).active = 0 := by
      rw [commitParts_rau]
      exact rxCommit_base _ _ _ hw
    rcases commitWork_rau n (worked n order s) c with e | e
    · rw [e, hparts]
    · rw [e, cancelRequest_active, hparts]

theorem laned_restored_base (hlane : LaneSound s) (c : Carrier) : (laned n order s).txActive c = 0 := by
  have hw := worked_restored_base n order hlost hlane c
  cases hdue : commitDue s with
  | false => rw [(laned_acted n order s hdue).txActive, hw]
  | true =>
    rw [laned_commit n order s hdue, State.txActive_eq, commitWork_active, hw, ite_self]

theorem laned_restored_maps (hlane : LaneSound s) (hmap : MapperSound s) (c : Carrier) :
    (laned n order s).mapper.active.maps.get c = [] := by
  have hw (d : Carrier) : (worked n order s).mapper.active.maps.get d = [] := by
    rw [worked_restored_mapper hlost n order hmap]
    exact (hmap.2.2 hlost).1 d
  cases hdue : commitDue s with
  | false => rw [(laned_acted n order s hdue).placement, hw]
  | true =>
    rw [laned_commit n order s hdue, commitWork_mapper _ _ (worked_restored_idle n order hlost hlane)]
    exact commitParts_maps_empty n _ hw c

theorem laned_restored_shadow (hlane : LaneSound s) (hmap : MapperSound s) : (laned n order s).mapper.shadow = some
    { remaining := 1, loadFrame := n + 1,
      result := placement (capacities (laned n order s).working fun _ => 0) (laned n order s).working.classes } := by
  cases hdue : commitDue s with
  | false =>
    have h := laned_restored n order hlost hlane hdue
    rw [laned_working, hdue, h.1, h.2.2, worked_restored_mapper hlost n order hmap]
    rfl
  | true =>
    have hactive (c : Carrier) : ((commitParts n (worked n order s)).lane.carriers.get c).active = 0 := by
      rw [commitParts_lane]
      unfold laneCommit
      dsimp only
      have hw : ((worked n order s).lane.carriers.get c).active = 0 := worked_restored_base n order hlost hlane c
      rw [Four.get_ofFn, laneCommitCarrier_active, hw, ite_self]
    rw [laned_working, hdue, laned_commit n order s hdue, commitWork_mapper _ _ (worked_restored_idle n order hlost hlane),
      commitParts_shadow]
    simp only [hactive, worked_staged]
    rfl

theorem laned_restored_atpc (hpower : PowerSound s) (c : Carrier) (hen : (laned n order s).enabled c = true) :
    ((laned n order s).pcu.get c).atpc = 0 := by
  have hw := (worked_restored_pcu hlost n order hpower c).1
  cases hdue : commitDue s with
  | false => rw [(laned_acted n order s hdue).pcu c |>.1, hw]
  | true =>
    rw [State.enabled_eq, laned_working, hdue] at hen
    rw [laned_commit n order s hdue]
    exact commitWork_atpc_zero n (by rw [worked_staged]; exact hen) hw
end

/-! ### The port, the intake and the events -/

section
variable (n : FrameNo) (order : FrameOrder) {s : State} (hlost : s.port.link = .frameLost)
include hlost

theorem worked_restored_port : (worked n order s).port = uncountedPort n s.port := by
  have e : (worked n order s).port = (readied n order s).port := rfl
  rw [e, readied_lost n order s hlost, restored_port]
  rfl

theorem laned_restored_port : (laned n order s).port.current = some n ∧ (laned n order s).port.previous = none ∧
    ∀ c, (laned n order s).port.carriers.get c = { missed := 0, arrival := false, fieldTaken := false } := by
  have hw := worked_restored_port n order hlost
  have hzero (c : Carrier) : (uncountedPort n s.port).carriers.get c = { missed := 0, arrival := false, fieldTaken := false } :=
    Four.get_fill ..
  cases hdue : commitDue s with
  | false =>
    rw [(laned_acted n order s hdue).port, hw]
    exact ⟨rfl, rfl, hzero⟩
  | true =>
    rw [laned_commit n order s hdue]
    refine ⟨(commitWork_current ..).trans (by rw [hw]; rfl), (commitWork_previous ..).trans (by rw [hw]; rfl), fun c => ?_⟩
    rw [commitWork_carriers, hw, hzero, ite_self]

theorem laned_restored_intake (c : Carrier) : (laned n order s).intake.get c = .initial := by
  have hw (d : Carrier) : (worked n order s).intake.get d = .initial := by
    have e : (worked n order s).intake = (readied n order s).intake := rfl
    rw [e, readied_lost n order s hlost, restored_intake]
  cases hdue : commitDue s with
  | false => rw [(laned_acted n order s hdue).intake, hw]
  | true => rw [laned_commit n order s hdue, commitWork_intake, hw, ite_self]

/-- What a restoring frame start reports beside FRAME_LOST: nothing of the frame number. -/
theorem reported_restoring : Reported (fun r => r.kind ≠ .frameSlip ∨ r.index ≠ 0) (restoredPort n s).events
    (takeFrameStart n order s).events := by
  have hP : AllowsBlocks fun r => r.kind ≠ .frameSlip ∨ r.index ≠ 0 := fun r hr => .inl hr.2.2
  have hready : Reported (fun r => r.kind ≠ .frameSlip ∨ r.index ≠ 0) (restoredPort n s).events (readied n order s).events := by
    rw [readied_lost n order s hlost, restored_events]
    exact reported_mapperWork hP (graceWork (restoredPort n s))
  refine (((hready.trans (reported_worked hP n order s)).trans (reported_laned hP n order s ?_ ?_)).trans
    (reported_blocked hP n order s)).trans (reported_tail n order s ?_ ?_)
  all_goals intros; simp

omit hlost in
theorem restoredPort_events : (restoredPort n s).events =
    latchAll s.port.current s.events [{ kind := .frameLost, index := 0, edge := some .leave }] := rfl

theorem takeFrameStart_restoring_events :
    LatchedAfter s.events (takeFrameStart n order s).events .frameLost 0 (some .leave) ∧
    (takeFrameStart n order s).events.latched .frameSlip 0 = s.events.latched .frameSlip 0 := by
  have h := reported_restoring n order hlost
  constructor
  · refine h.after ?_
    rw [restoredPort_events n]
    exact latchedAfter_of_mem s.port.current s.events [_] { kind := .frameLost, index := 0, edge := some .leave } (by simp)
  · rw [h.latched_eq, restoredPort_events n]
    exact latched_latchAll_of_not_mem _ _ _ _ _ (by simp)
end

/-! ### The power records -/

theorem powerCommit_period_stays {old new : CarrierParams} (other : Bool) (x : PowerCarrier) (hold : old.enable = true)
    (hnew : new.enable = true) (hon : old.atpcEnable = true) (hstill : new.atpcEnable = true) :
    (powerCommit old new other x).period = x.period := by
  unfold powerCommit
  rw [hold, hnew, hon, hstill]
  rfl

theorem takeFrameStart_period (n : FrameNo) (order : FrameOrder) (s : State) (c : Carrier) :
    ((takeFrameStart n order s).pcu.get c).period = ((laned n order s).pcu.get c).period := by
  rw [(takeFrameStart_own n order s c).pcu, (handOne_pcu_rest ..).1, (handOne_pcu_rest ..).1, blocked_pcu]

theorem takeFrameStart_eff (n : FrameNo) (order : FrameOrder) (s : State) (c : Carrier) :
    ((takeFrameStart n order s).pcu.get c).eff = ((blocked n order s).pcu.get c).eff := by
  rw [(takeFrameStart_own n order s c).pcu, (handOne_pcu_rest ..).2.2, (handOne_pcu_rest ..).2.2]

/-- The base profile sets no floor (R58). -/
theorem floorOf_base {table : List ProfileRecord} (h : tableOk table = true) : floorOf table 0 = 0 := by
  match table, h with
  | [], _ => rfl
  | p0 :: p1 :: rest, h =>
    have hfloor : p0.backoffFloor = 0 := by
      unfold tableOk at h
      simp only [Bool.and_eq_true, decide_eq_true_eq] at h
      exact h.1.1.1
    exact hfloor

theorem takeFrameStart_tableOk (n : FrameNo) (order : FrameOrder) {s : State} (hcfg : ConfigSound s) :
    tableOk (takeFrameStart n order s).working.table = true := by
  obtain ⟨hstaged, -, hok, -, hchecked⟩ := hcfg
  rw [takeFrameStart_working]
  cases hdue : commitDue s with
  | false => exact hok
  | true =>
    unfold commitDue at hdue
    rw [Bool.and_eq_true] at hdue
    obtain ⟨table, e, hok', -⟩ := stagedAsWorking_of_checked hstaged (hchecked hdue.1).1
    rw [if_pos rfl, e]
    exact hok'

section
variable (n : FrameNo) (order : FrameOrder) {s : State} (hlost : s.port.link = .frameLost)
include hlost

theorem takeFrameStart_restoring_eff (hcfg : ConfigSound s) (hlane : LaneSound s) (hpower : PowerSound s) (c : Carrier) :
    ((takeFrameStart n order s).pcu.get c).eff = 0 := by
  have hfound : (found n order s).pcu.get c = s.pcu.get c := by
    rw [found_lost n order s hlost]
    rfl
  have hshadow : (s.pcu.get c).shadow = none := (hpower c).2.2.2.2 hlost
  have hloaded : (loadedProfiles (found n order s)).get c = none := by
    rw [loadedProfiles_get, hfound, powerShadowTick_waits]
    rw [hshadow]
    exact nofun
  have htable : (laned n order s).working.table = (takeFrameStart n order s).working.table :=
    congrArg WorkingSet.table (takeFrameStart_keeps n order s).working.symm
  rw [takeFrameStart_eff, blocked_pcu, hloaded]
  dsimp only
  split
  · next hen =>
    unfold effectiveAtten
    rw [laned_restored_atpc n order hlost hpower c hen, Option.getD_none, laned_restored_base n order hlost hlane, htable,
      floorOf_base (takeFrameStart_tableOk n order hcfg)]
    rfl
  · rfl

/-- Where the restoration ends the last hold of a carrier, its period counter is reloaded (R143), and stays so through a
commit that leaves ATPC on. -/
theorem takeFrameStart_restoring_period (hpower : PowerSound s) (c : Carrier) (hen : s.enabled c = true)
    (hen' : (takeFrameStart n order s).enabled c = true) (hon : (s.params c).atpcEnable = true)
    (hon' : ((takeFrameStart n order s).params c).atpcEnable = true) (hsig : (s.sig.get c).lost = false)
    (hrun : s.fault.state = .running) : ((takeFrameStart n order s).pcu.get c).period = (s.params c).period := by
  have hfree : powerHeld (restored n s) c = false := by
    unfold powerHeld
    rw [State.enabled_eq, State.params_eq, restored_working, restored_sig, restored_fault, restored_link,
      ← State.enabled_eq, ← State.params_eq, hen, hon, hsig, hrun]
    rfl
  have hw : ((worked n order s).pcu.get c).period = (s.params c).period := by
    rw [(worked_restored_pcu hlost n order hpower c).2, hfree]
    rfl
  rw [takeFrameStart_period]
  cases hdue : commitDue s with
  | false => exact ((laned_acted n order s hdue).pcu c).2.1.trans hw
  | true =>
    rw [State.enabled_eq, takeFrameStart_working, hdue] at hen'
    rw [State.params_eq, takeFrameStart_working, hdue] at hon'
    rw [laned_commit n order s hdue, commitWork_period, commitParts_pcu, powerCommit_period_stays, hw]
    · rw [State.params_eq, worked_working]
      exact hen
    · rw [State.params_eq, commitParts_working, worked_staged]
      exact hen'
    · rw [State.params_eq, worked_working]
      exact hon
    · rw [State.params_eq, commitParts_working, worked_staged]
      exact hon'

/-- Where a hold stands on, the period counter counts on (R145). -/
theorem takeFrameStart_restoring_held (hlane : LaneSound s) (hpower : PowerSound s) (hp : s.applyPending = false) (c : Carrier)
    (hheld : s.enabled c = false ∨ (s.params c).atpcEnable = false ∨ (s.sig.get c).lost = true ∨ s.fault.state = .aborted) :
    ((takeFrameStart n order s).pcu.get c).period = (s.pcu.get c).period - 1 := by
  have hdue : commitDue s = false := (lost_commitDue hlost hlane).trans hp
  have hstays : powerHeld (restored n s) c = true := by
    unfold powerHeld
    rw [State.enabled_eq, State.params_eq, restored_working, restored_sig, restored_fault, ← State.enabled_eq,
      ← State.params_eq]
    rcases hheld with h | h | h | h <;> simp [h]
  rw [takeFrameStart_period, ((laned_acted n order s hdue).pcu c).2.1, (worked_restored_pcu hlost n order hpower c).2, hstays]
  rfl
end

/-! ### O14 -/

/-- Settles O14: the restoration puts P0 in force, and neither the lane, which has nothing to start, nor a commit made at
the same frame start takes it away. -/
theorem restoringFrameStartPutsBaseInForce : Obligations.RestoringFrameStartPutsBaseInForce := by
  intro n order s hlost hcfg hrx hlane hpower hmap
  have hkeep := takeFrameStart_keeps n order s
  obtain ⟨hcurrent, hprevious, hcarriers⟩ := laned_restored_port n order hlost
  obtain ⟨hleft, hslip⟩ := takeFrameStart_restoring_events n order hlost
  have hactive (c : Carrier) : ((takeFrameStart n order s).rau.get c).active = 0 := by
    rw [(takeFrameStart_own n order s c).rau, (handOne_sameSwitching ..).active, (handOne_sameSwitching ..).active]
    exact laned_restored_rau n order hlost hrx c
  have hbase (c : Carrier) : (takeFrameStart n order s).txActive c = 0 :=
    (hkeep.txActive c).trans (laned_restored_base n order hlost hlane c)
  have hworking : (takeFrameStart n order s).working = (laned n order s).working := hkeep.working
  have hmapper := takeFrameStart_mapper n order s
  obtain ⟨t, ht, hsettings, -⟩ := frameStartDeliversSettingsAndFields n order s
  obtain rfl : takeFrameStart n order s = t := by
    rw [exec_frameStart] at ht
    exact Host.Outcome.next.inj ht
  refine ⟨_, ht, hkeep.current.trans hcurrent, hkeep.previous.trans hprevious, hkeep.link.trans (blocked_link n order s), ?_,
    fun c => ?_, fun c => ?_, hleft, hslip, fun c => ⟨hactive c, hbase c⟩, fun c hen => ?_, fun c => ⟨?_, ?_⟩,
    ⟨capacities (takeFrameStart n order s).working fun _ => 0, fun c => capacities_get .., ?_⟩,
    takeFrameStart_staged .., takeFrameStart_hml ..⟩
  · rw [hkeep.working, takeFrameStart_eq]
    exact frameTail_watch ..
  · exact (congrArg (fun x : Four PortCarrier => x.get c) hkeep.carriers).trans (hcarriers c)
  · rw [hkeep.intake]
    exact laned_restored_intake n order hlost c
  · rw [hsettings, if_pos hen, hactive, hbase, takeFrameStart_restoring_eff n order hlost hcfg hlane hpower, hmapper,
      laned_restored_maps n order hlost hlane hmap]
  · exact takeFrameStart_restoring_period n order hlost hpower c
  · exact fun hp => takeFrameStart_restoring_held n order hlost hlane hpower hp c
  · rw [hmapper, hworking, laned_restored_shadow n order hlost hlane hmap]

end Sys2Proof.Machine
end

section
/-! What a commit does, block by block: its reports, a changed carrier's items, the conformed maps, the carriers carried
over, and the abort that it may raise (O46). -/
namespace Sys2Proof.Machine

/-! ### The reports of a commit -/

section
variable (n : FrameNo) (s : State)

/-- The stages of a commit between which its reports are made. -/
def commitContexts : State := commitRau s.working (committedLane s)
def commitEstimates : State := commitEst s.working (commitContexts s)

theorem commitContexts_working : (commitContexts s).working = stagedAsWorking s.staged := by
  simp [commitContexts, commitRau]

theorem commitContexts_est : (commitContexts s).est = s.est := by
  simp [commitContexts, commitRau, committedLane, commitLane, commitConfiguration]

theorem commitEstimates_working : (commitEstimates s).working = stagedAsWorking s.staged := by
  simp [commitEstimates, commitEst, commitContexts_working]

theorem commitEstimates_monitor : (commitEstimates s).monitor = s.monitor := by
  simp [commitEstimates, commitContexts, commitEst, commitRau, committedLane, commitLane, commitConfiguration]

theorem grows_committedLane : Grows s.events (committedLane s).events :=
  reported_commitConfiguration allowsBlocks_true s

theorem grows_commitContexts : Grows (committedLane s).events (commitContexts s).events :=
  reported_commitRau allowsBlocks_true s.working (committedLane s)

theorem grows_commitEstimates : Grows (commitContexts s).events (commitEstimates s).events :=
  reported_commitEst s.working (commitContexts s) fun _ _ _ _ => trivial

theorem grows_commitBeforeSig : Grows (commitEstimates s).events (commitBeforeSig s).events :=
  reported_commitMonitor allowsBlocks_true s.working (commitEstimates s)

theorem grows_commitBeforeMapper : Grows (commitBeforeSig s).events (commitBeforeMapper s).events :=
  reported_commitSig s.working (commitBeforeSig s) fun _ _ _ _ => trivial

theorem grows_commitParts : Grows (commitBeforeMapper s).events (commitParts n s).events :=
  reported_commitMapper allowsBlocks_true s.working n (commitBeforeMapper s)

theorem grows_commitAbort : Grows (commitParts n s).events (commitWork n s).events :=
  reported_rederiveAfterCommit allowsBlocks_true _ _

/-- From the mapper's part back to the first, what is left to grow. -/
theorem grows_from_beforeMapper : Grows (commitBeforeMapper s).events (commitWork n s).events :=
  (grows_commitParts n s).trans (grows_commitAbort n s)

theorem grows_from_beforeSig : Grows (commitBeforeSig s).events (commitWork n s).events :=
  (grows_commitBeforeMapper s).trans (grows_from_beforeMapper n s)

theorem grows_from_estimates : Grows (commitEstimates s).events (commitWork n s).events :=
  (grows_commitBeforeSig s).trans (grows_from_beforeSig n s)

theorem grows_from_contexts : Grows (commitContexts s).events (commitWork n s).events :=
  (grows_commitEstimates s).trans (grows_from_estimates n s)

theorem grows_from_lane : Grows (committedLane s).events (commitWork n s).events :=
  (grows_commitContexts s).trans (grows_from_contexts n s)

theorem grows_commitWork : Grows s.events (commitWork n s).events :=
  (grows_committedLane s).trans (grows_from_lane n s)

theorem grows_to_contexts : Grows s.events (commitContexts s).events :=
  (grows_committedLane s).trans (grows_commitContexts s)

theorem grows_to_estimates : Grows s.events (commitEstimates s).events :=
  (grows_to_contexts s).trans (grows_commitEstimates s)

theorem grows_to_beforeSig : Grows s.events (commitBeforeSig s).events :=
  (grows_to_estimates s).trans (grows_commitBeforeSig s)

theorem grows_to_beforeMapper : Grows s.events (commitBeforeMapper s).events :=
  (grows_to_beforeSig s).trans (grows_commitBeforeMapper s)

theorem commitWork_applyDone : LatchedAfter s.events (commitWork n s).events .applyDone 0 none :=
  (grows_from_lane n s).after
    (latchedAfter_of_mem s.port.current s.events [occurrence .applyDone 0] (occurrence .applyDone 0) (by simp))

theorem commitWork_slip {c : Carrier} (h : occurrence .profileSlip c.toNat ∈
    (rxCommit (rxEnv (committedLane s) c) (s.enabled c) ((committedLane s).enabled c) (s.rau.get c)).2) :
    LatchedAfter s.events (commitWork n s).events .profileSlip c.toNat none := by
  have hrau : (committedLane s).rau = s.rau := by simp [committedLane, commitLane, commitConfiguration]
  have hmem : occurrence .profileSlip c.toNat ∈ (perCarrier fun d => rxCommit (rxEnv (committedLane s) d)
      (s.working.carriers.get d).enable ((committedLane s).enabled d) ((committedLane s).rau.get d)).2 :=
    mem_perCarrier.2 ⟨c, by rw [hrau]; exact h⟩
  exact (grows_from_contexts n s).after ((grows_committedLane s).before
    (latchedAfter_of_mem (committedLane s).port.current (committedLane s).events _ _ hmem))

/-- A changed carrier leaves the conditions that held on it (R19, R109), and reports no other. -/
theorem commitWork_conditionsLeft {c : Carrier} (hc : enableChanges s.working (stagedAsWorking s.staged) c = true) :
    ConditionsLeft c s (commitWork n s) := by
  refine ⟨fun h => ?_, fun h => ?_, fun h => ?_, fun h => ?_⟩
  · have hmem : { kind := .fadeAlarm, index := c.toNat, edge := some .leave } ∈ (perCarrier fun d =>
        if enableChanges s.working (commitContexts s).working d then unseed d ((commitContexts s).est.get d)
        else ((commitContexts s).est.get d, [])).2 := by
      refine mem_perCarrier.2 ⟨c, ?_⟩
      rw [commitContexts_working, if_pos hc, commitContexts_est]
      unfold unseed
      rw [h]
      exact leave_mem_conditionEdge ..
    exact (grows_from_estimates n s).after ((grows_to_contexts s).before
      (latchedAfter_of_mem (commitContexts s).port.current (commitContexts s).events _ _ hmem))
  · refine (reported_commitWork (P := fun r => r.kind ≠ .fadeAlarm ∨ r.index ≠ c.toNat) (fun r hr => .inl hr.1) n s
      (fun d _ hd e => .inr fun hi => ?_) fun d _ _ e => .inl (by simp)).latched_eq
    rw [Carrier.toNat_inj hi] at hd
    rw [hd] at h
    cases h
  · have hmem : { kind := .sigLost, index := c.toNat, edge := some .leave } ∈ (perCarrier fun d =>
        if enableChanges s.working (commitBeforeSig s).working d then
          (SigCarrier.initial, conditionEdge .sigLost d.toNat ((commitBeforeSig s).sig.get d).lost false)
        else ((commitBeforeSig s).sig.get d, [])).2 := by
      refine mem_perCarrier.2 ⟨c, ?_⟩
      rw [commitBeforeSig_working, if_pos hc, commitBeforeSig_sig, h]
      exact leave_mem_conditionEdge ..
    exact (grows_from_beforeMapper n s).after ((grows_to_beforeSig s).before
      (latchedAfter_of_mem (commitBeforeSig s).port.current (commitBeforeSig s).events _ _ hmem))
  · refine (reported_commitWork (P := fun r => r.kind ≠ .sigLost ∨ r.index ≠ c.toNat) (fun r hr => .inl hr.2.1) n s
      (fun d _ _ e => .inl (by simp)) fun d _ hd e => .inr fun hi => ?_).latched_eq
    rw [Carrier.toNat_inj hi] at hd
    rw [hd] at h
    cases h

/-- The CLASS_SHED edges of the conformed entries (R166). -/
theorem commitWork_shedEdges {r : Report} (h : r ∈ shedEdges s.mapper.active.entries (commitParts n s).mapper.active.entries) :
    LatchedAfter s.events (commitWork n s).events r.kind r.index r.edge := by
  have hm : (commitBeforeMapper s).mapper = s.mapper := by
    simp [commitBeforeMapper, commitPower, commitSig, commitIntake, commitEst, commitRau, committedLane, commitLane,
      commitConfiguration]
  rw [← hm] at h
  exact (grows_commitAbort n s).after ((grows_to_beforeMapper s).before
    (latchedAfter_of_mem (commitBeforeMapper s).port.current (commitBeforeMapper s).events _ r h))
end

/-! ### The Branch Monitor's reports -/

theorem excludeBranch_taken (was now : Bool) (b : BranchState) : (excludeBranch was now b).1 = exclusionTaken was now b := by
  cases was <;> cases now <;> rfl

theorem monitorCommit_reports {link : LinkParams} {c : Carrier} {old new : CarrierParams} {x : Monitor} {side : Side}
    (hold : old.excludes side = false) (hnew : new.excludes side = true)
    (hb : ((x.branches.get c).get side).health = .faulted) :
    { kind := .branchFault, index := branchIndex c side, edge := some .leave } ∈ (monitorCommit link c old new x).2 := by
  have hleft : (excludeBranch (old.excludes side) (new.excludes side) ((x.branches.get c).get side)).2 = true := by
    rw [hold, hnew]
    exact decide_eq_true hb
  unfold monitorCommit
  cases side with
  | a =>
    refine List.mem_append_left _ ?_
    have h : (excludeBranch old.excludeA new.excludeA ((x.branches.get c).a)).2 = true := hleft
    rw [h]
    exact List.mem_singleton.2 rfl
  | b =>
    refine List.mem_append_right _ ?_
    have h : (excludeBranch old.excludeB new.excludeB ((x.branches.get c).b)).2 = true := hleft
    rw [h]
    exact List.mem_singleton.2 rfl

theorem commitMonitor_leaves (old : WorkingSet) {c : Carrier} {side : Side} (hold : (old.carriers.get c).excludes side = false)
    {l : List Carrier} (hc : c ∈ l) (s : State) (hnew : (s.params c).excludes side = true)
    (hb : ((s.monitor.branches.get c).get side).health = .faulted) :
    LatchedAfter s.events (l.foldl (fun t d => commitMonitorCarrier old d t) s).events .branchFault (branchIndex c side)
      (some .leave) := by
  induction l generalizing s with
  | nil => cases hc
  | cons d l ih =>
    by_cases hd : d = c
    · subst hd
      have hone : LatchedAfter s.events (commitMonitorCarrier old d s).events .branchFault (branchIndex d side) (some .leave) :=
        latchedAfter_of_mem s.port.current s.events _ _ (monitorCommit_reports hold hnew hb)
      exact (reported_foldl (P := fun _ => True)
        (fun t e => reported_commitMonitorCarrier allowsBlocks_true old e t) l _).after hone
    · have hother : ((commitMonitorCarrier old d s).monitor.branches.get c).get side = (s.monitor.branches.get c).get side :=
        (monitorCommit_branches ..).trans (if_neg fun e => hd e.symm)
      exact (reported_commitMonitorCarrier allowsBlocks_true old d s).before
        (ih ((List.mem_cons.1 hc).resolve_left fun e => hd e.symm) (commitMonitorCarrier old d s) hnew (by rw [hother]; exact hb))

theorem commitWork_branchFault (n : FrameNo) {s : State} {c : Carrier} {side : Side}
    (hold : (s.params c).excludes side = false) (hnew : ((stagedAsWorking s.staged).carriers.get c).excludes side = true)
    (hb : ((s.monitor.branches.get c).get side).health = .faulted) :
    LatchedAfter s.events (commitWork n s).events .branchFault (branchIndex c side) (some .leave) := by
  have h := commitMonitor_leaves s.working (c := c) (side := side) hold c.mem_all (commitEstimates s)
    (by rw [State.params_eq, commitEstimates_working]; exact hnew) (by rw [commitEstimates_monitor]; exact hb)
  exact (grows_from_beforeSig n s).after ((grows_to_estimates s).before h)

end Sys2Proof.Machine
end

section
/-! The items that a commit leaves: of the carriers that it enables or disables, and of those carried over (O46). -/
namespace Sys2Proof.Machine

/-! ### The abort that a commit may raise -/

/-- The commit raises the abort demand in RUNNING (R171). -/
def commitRaises (n : FrameNo) (s : State) : Prop :=
  abortDemand s = false ∧ abortDemand (commitParts n s) = true ∧ s.fault.state = .running

/-- The state in which a commit's abort finds the part. -/
def commitCounted (n : FrameNo) (s : State) : State :=
  (commitParts n s).setFreeCount ((commitParts n s).freeCount + 1)

section
variable (n : FrameNo) (s : State)

theorem commitWork_raised (h : commitRaises n s) :
    commitWork n s = linkAbort (commitCause (commitParts n s)) (commitCounted n s) := by
  obtain ⟨h1, h2, h3⟩ := h
  rw [commitWork_eq]
  refine if_pos ?_
  rw [h1, h2, (commitParts_fault n s).1, h3]
  rfl

theorem commitWork_unraised (h : ¬ commitRaises n s) : commitWork n s = commitParts n s := by
  rw [commitWork_eq]
  refine if_neg fun hr => h ?_
  simp only [Bool.and_eq_true, Bool.not_eq_eq_eq_not, Bool.not_true, decide_eq_true_eq] at hr
  exact ⟨hr.1.1, hr.1.2, (commitParts_fault n s).1.symm.trans hr.2⟩

theorem abortDemand_congr {u v : State} (hw : v.working = u.working) (hl : v.fault.faultLevel = u.fault.faultLevel)
    (hf : v.fault.farFault = u.fault.farFault) : abortDemand v = abortDemand u := by
  rw [Bool.eq_iff_iff, abortDemand_iff, abortDemand_iff, hw, hl, hf]
  simp only [State.enabled_congr hw]

theorem commitWork_standing : (commitWork n s).fault.faultLevel = (commitParts n s).fault.faultLevel ∧
    (commitWork n s).fault.farFault = (commitParts n s).fault.farFault := by
  by_cases h : commitRaises n s
  · rw [commitWork_raised n s h, linkAbort_fault]
    exact ⟨rfl, rfl⟩
  · rw [commitWork_unraised n s h]
    exact ⟨rfl, rfl⟩

theorem abortDemand_commitWork : abortDemand (commitWork n s) = abortDemand (commitParts n s) :=
  abortDemand_congr (by rw [commitWork_working, commitParts_working]) (commitWork_standing n s).1 (commitWork_standing n s).2

theorem commitRaises_iff : commitRaises n s ↔
    abortDemand s = false ∧ abortDemand (commitWork n s) = true ∧ s.fault.state = .running := by
  rw [abortDemand_commitWork]
  rfl
end

/-- The cause that a commit's abort names is a standing source (R171). -/
theorem commitCause_standing {s : State} (h : abortDemand s = true) :
    (commitCause s = .localFault ∧ localStands s = true) ∨ ∃ c, commitCause s = .far c ∧ farStands s c = true := by
  have hstand (cause : AbortCause) (hc : cause ∈ standingCauses s) :
      (cause = .localFault ∧ localStands s = true) ∨ ∃ c, cause = .far c ∧ farStands s c = true := by
    unfold standingCauses at hc
    rcases List.mem_append.1 hc with hc | hc
    · split at hc
      · next hl => exact .inl ⟨List.mem_singleton.1 hc, hl⟩
      · cases hc
    · obtain ⟨c, hmem, rfl⟩ := List.mem_map.1 hc
      exact .inr ⟨c, rfl, (List.mem_filter.1 hmem).2⟩
  have hsome : standingCauses s ≠ [] := by
    unfold abortDemand at h
    unfold standingCauses
    rcases Bool.or_eq_true .. ▸ h with h | h
    · simp [h]
    · obtain ⟨c, hc, hf⟩ := List.any_eq_true.1 h
      have hmem : AbortCause.far c ∈ (Carrier.all.filter (farStands s)).map AbortCause.far :=
        List.mem_map_of_mem (List.mem_filter.2 ⟨hc, hf⟩)
      intro hnil
      rw [List.append_eq_nil_iff] at hnil
      rw [hnil.2] at hmem
      cases hmem
  unfold commitCause
  cases hs : standingCauses s with
  | nil => exact absurd hs hsome
  | cons cause rest =>
    rw [hs] at hstand
    cases rest with
    | nil => exact hstand cause (List.mem_cons_self ..)
    | cons second rest =>
      have hlt : Config.freeCause s.freeCount % ((second :: rest).length + 1) < (cause :: second :: rest).length :=
        Nat.mod_lt _ (Nat.succ_pos _)
      refine hstand _ ?_
      dsimp only
      rw [List.getD_eq_getElem _ _ hlt]
      exact List.getElem_mem hlt

/-! ### The lane with no announcement -/

theorem abortWithdrawn_idle {w : WorkingSet} {l : Lane} (h : l.announcement = none) : abortWithdrawn w l = l :=
  if_neg (by rw [withdrawable_of_idle h]; decide)

theorem farSideRefused_none {x : LaneCarrier} (h : x.entry = none) : farSideRefused x = x := by
  unfold farSideRefused
  rw [h]

section
variable (n : FrameNo) (s : State)

theorem commitParts_lane_get (c : Carrier) : (commitParts n s).lane.carriers.get c =
    laneCommitCarrier (s.working.carriers.get c) ((stagedAsWorking s.staged).carriers.get c) (stagedAsWorking s.staged).length
      (s.lane.carriers.get c) := by
  rw [commitParts_lane]
  exact Four.get_ofFn ..

theorem laneCommitCarrier_hold (old new : CarrierParams) (T : Nat) (x : LaneCarrier) :
    (laneCommitCarrier old new T x).hold = x.hold := by
  unfold laneCommitCarrier
  cases old.enable <;> cases new.enable <;> dsimp only
  · exact recheckEntry_hold ..
  · exact recheckEntry_hold ..
  · split
    · simp
    · exact recheckEntry_hold ..

theorem commitWork_hold (c : Carrier) : ((commitWork n s).lane.carriers.get c).hold = (s.lane.carriers.get c).hold := by
  have hparts : ((commitParts n s).lane.carriers.get c).hold = (s.lane.carriers.get c).hold := by
    rw [commitParts_lane_get, laneCommitCarrier_hold]
  by_cases h : commitRaises n s
  · have hhold : ((commitWork n s).lane.carriers.get c).hold = ((commitCounted n s).lane.carriers.get c).hold := by
      rw [commitWork_raised n s h, linkAbort_lane]
      split
      · exact laneAbort_hold ..
      · rfl
    exact hhold.trans hparts
  · rw [commitWork_unraised n s h, hparts]

theorem commitWork_announcement (h : s.lane.announcement = none) : (commitWork n s).lane.announcement = none := by
  by_cases hr : commitRaises n s
  · have e : (commitCounted n s).lane.announcement = none := (commitParts_announcement n s).trans h
    rw [commitWork_raised n s hr, linkAbort_announcement, e, ite_self]
  · rw [commitWork_unraised n s hr, commitParts_announcement, h]

/-- A disabled carrier has no entry, and takes no ABORT entry (R131, R138). -/
theorem commitWork_entry_off (hidle : s.lane.announcement = none) {c : Carrier} (hold : s.enabled c = true)
    (hnew : (s.staged.carriers.get c).enable = false) : ((commitWork n s).lane.carriers.get c).entry = none := by
  have hparts : ((commitParts n s).lane.carriers.get c).entry = none := by
    have h1 : (s.working.carriers.get c).enable = true := hold
    have h2 : ((stagedAsWorking s.staged).carriers.get c).enable = false := hnew
    rw [commitParts_lane_get]
    unfold laneCommitCarrier
    rw [h1, h2]
  by_cases hr : commitRaises n s
  · have e : (commitCounted n s).lane = (commitParts n s).lane := rfl
    have hoff : ¬ ((commitCounted n s).working.carriers.get c).enable = true := by
      have ew : (commitCounted n s).working = stagedAsWorking s.staged := commitParts_working n s
      rw [ew]
      exact Bool.eq_false_iff.1 hnew
    rw [commitWork_raised n s hr, linkAbort_lane]
    split
    · rw [laneAbort_items, if_neg fun h => hoff h.1,
        abortWithdrawn_idle (l := (commitCounted n s).lane) ((commitParts_announcement n s).trans hidle), e, farSideRefused_none hparts, hparts]
    · rw [e, hparts]
  · rw [commitWork_unraised n s hr, hparts]
end

/-! ### The items of a carrier that the commit enables or disables -/

section
variable (n : FrameNo) (s : State) (c : Carrier)

theorem commitWork_farFault : (commitWork n s).fault.farFault.get c =
    if enableChanges s.working (stagedAsWorking s.staged) c then false else s.fault.farFault.get c := by
  rw [(commitWork_standing n s).2]
  simp [commitParts, commitFarFault, commitPort, State.setPortCarriers, commitMapper, commitPower, commitSig,
    commitIntake, commitEst, commitRau, committedLane, commitLane, commitConfiguration]

/-- The context of a changed carrier starts afresh (R72). -/
theorem rxCommit_fresh (env : RxEnv) {before after : Bool} (h : before ≠ after) (x : RxContext) :
    let y := (rxCommit env before after x).1
    y.active = 0 ∧ y.linked = false ∧ y.armed = none ∧ y.refused = none ∧ y.timer = none ∧ y.m = 1 ∧
    y.upCounter = 65535 ∧ y.guardOpen = false ∧
    (after = false → y.phase = .standby ∧ y.request.kind = .none) ∧ (after = true → y.phase = .acquire) := by
  cases before with
  | false => cases after with
    | false => exact absurd rfl h
    | true => exact ⟨rfl, rfl, rfl, rfl, rfl, rfl, rfl, rfl, nofun, fun _ => rfl⟩
  | true => cases after with
    | true => exact absurd rfl h
    | false =>
      exact ⟨rfl, rfl, rfl, rfl, rfl, rfl, rfl, rfl, fun _ => ⟨rfl, cancelRequest_kind x⟩, nofun⟩

theorem cancelRequest_stopped {x : RxContext} (h : x.timer = none) : (cancelRequest x).timer = none := by
  unfold cancelRequest
  split
  · rfl
  · exact h

theorem commitWork_rau_fresh (h : enableChanges s.working (stagedAsWorking s.staged) c = true) :
    let y := (commitWork n s).rau.get c
    y.active = 0 ∧ y.linked = false ∧ y.armed = none ∧ y.refused = none ∧ y.timer = none ∧ y.m = 1 ∧
    y.upCounter = 65535 ∧ y.guardOpen = false ∧
    ((s.staged.carriers.get c).enable = false → y.phase = .standby ∧ y.request.kind = .none) ∧
    ((s.staged.carriers.get c).enable = true → y.phase = .acquire) := by
  have hne : s.enabled c ≠ (committedLane s).enabled c := (enableChanges_iff s c).1 h
  obtain ⟨h1, h2, h3, h4, h5, h6, h7, h8, h9, h10⟩ := rxCommit_fresh (rxEnv (committedLane s) c) hne (s.rau.get c)
  rw [← commitParts_rau n] at h1 h2 h3 h4 h5 h6 h7 h8 h9 h10
  dsimp only
  rcases commitWork_rau n s c with e | e
  · rw [e]
    exact ⟨h1, h2, h3, h4, h5, h6, h7, h8, h9, h10⟩
  · rw [e]
    have hsame := cancelRequest_same ((commitParts n s).rau.get c)
    refine ⟨by rw [hsame, h1], by rw [hsame, h2], by rw [hsame, h3], by rw [hsame, h4], cancelRequest_stopped h5,
      by rw [hsame, h6], by rw [hsame, h7], by rw [hsame, h8], fun hoff => ?_, fun hon => by rw [hsame]; exact h10 hon⟩
    obtain ⟨hp, hk⟩ := h9 hoff
    rw [cancelRequest_none hk]
    exact ⟨hp, hk⟩

theorem commitWork_shadow (hidle : s.lane.announcement = none) :
    ((commitWork n s).pcu.get c).shadow = ((commitParts n s).pcu.get c).shadow := by
  by_cases h : commitRaises n s
  · have hw : withdrawable (commitCounted n s).lane = false :=
      withdrawable_of_idle ((commitParts_announcement n s).trans hidle)
    rw [commitWork_raised n s h, linkAbort_pcu]
    dsimp only
    rw [if_neg fun h => by rw [hw] at h; cases h.2]
    rfl
  · rw [commitWork_unraised n s h]

theorem commitWork_atpc : ((commitWork n s).pcu.get c).atpc = ((commitParts n s).pcu.get c).atpc ∨
    ((commitWork n s).pcu.get c).atpc = 0 := by
  rcases commitWork_pcu_cases n s c with ⟨h, -⟩ | h
  · exact .inl h
  · rw [h]
    split
    · exact .inl rfl
    · exact .inr rfl

theorem commitParts_pcu_get : (commitParts n s).pcu.get c = powerCommit (s.params c) (s.staged.carriers.get c)
    (((commitParts n s).sig.get c).lost || s.fault.state = .aborted) (s.pcu.get c) := by
  rw [commitParts_pcu, (commitParts_fault n s).1, State.params_eq (s := commitParts n s), commitParts_working]
  rfl

theorem commitWork_pcu_fresh (hidle : s.lane.announcement = none)
    (h : enableChanges s.working (stagedAsWorking s.staged) c = true) :
    ((commitWork n s).pcu.get c).atpc = 0 ∧ ((commitWork n s).pcu.get c).shadow = none ∧
    ((s.staged.carriers.get c).enable = false → ((commitWork n s).pcu.get c).period = 0) := by
  have hne := (enableChanges_iff s c).1 h
  have hparts : ((commitParts n s).pcu.get c).atpc = 0 ∧ ((commitParts n s).pcu.get c).shadow = none ∧
      ((s.staged.carriers.get c).enable = false → ((commitParts n s).pcu.get c).period = 0) := by
    have hold : s.enabled c = (s.params c).enable := rfl
    rw [commitParts_pcu_get]
    rw [hold] at hne
    unfold powerCommit
    cases h1 : (s.params c).enable <;> cases h2 : (s.staged.carriers.get c).enable
    · rw [h1, h2] at hne; exact absurd rfl hne
    · exact ⟨rfl, rfl, nofun⟩
    · exact ⟨rfl, rfl, fun _ => rfl⟩
    · rw [h1, h2] at hne; exact absurd rfl hne
  refine ⟨?_, by rw [commitWork_shadow n s c hidle, hparts.2.1], fun hoff => by rw [commitWork_period, hparts.2.2 hoff]⟩
  rcases commitWork_atpc n s c with e | e
  · rw [e, hparts.1]
  · exact e

/-- The map of a disabled carrier is empty (R164). -/
theorem commitParts_map_off (hold : s.enabled c = true) (hnew : (s.staged.carriers.get c).enable = false) :
    (commitParts n s).mapper.active.maps.get c = [] := by
  have h : (s.enabled c && !((stagedAsWorking s.staged).carriers.get c).enable) = true := by
    have e : ((stagedAsWorking s.staged).carriers.get c).enable = false := hnew
    rw [hold, e]
    rfl
  rw [commitParts_mapper]
  refine (conform_maps ..).trans ?_
  have hkept (w : WorkingSet) (active : Carrier → Nat) (p : Placement) : keptMap w
      (fun d => s.enabled d && !((stagedAsWorking s.staged).carriers.get d).enable) active p c = [] := if_pos h
  rw [hkept]
  rfl
end

end Sys2Proof.Machine
end

section
/-! The maps, the entries and the branch monitor at a commit (O46). -/
namespace Sys2Proof.Machine

/-! ### A class's entry conformed (R164) -/

theorem segmentSum_keepFirst_le (segs : List (Carrier × Nat)) (budget : Nat) :
    segmentSum (keepFirst segs budget) ≤ budget := by
  induction segs generalizing budget with
  | nil => exact Nat.zero_le _
  | cons seg segs ih =>
    obtain ⟨c, n⟩ := seg
    rw [keepFirst]
    have h := ih (budget - n)
    rw [segmentSum_append]
    split
    · rw [segmentSum_nil]
      omega
    · rw [segmentSum_cons, segmentSum_nil]
      dsimp only
      omega

theorem judgeHeld_eq {r : ClassRecord} {cut : List (Carrier × Nat)} (h : segmentSum cut ≤ r.need) :
    judgeHeld r cut =
      if r.split then
        (if segmentSum cut = r.need then .placed
         else if r.min.getD r.need ≤ segmentSum cut then .partly else .shed)
      else if cut.length = 1 ∧ segmentSum cut = r.need then .placed else .shed := by
  unfold judgeHeld
  cases r.split with
  | false => simp
  | true =>
    by_cases hfull : segmentSum cut = r.need
    · simp [hfull]
    · have hlt : segmentSum cut < r.need := by omega
      simp [hfull, hlt]

theorem conformEntry_conformed (maps : Four (List (Cls × Nat))) (r : ClassRecord) (k : Cls) {e : ClassEntry}
    (hcounts : ∀ seg ∈ e.segments, 1 ≤ seg.2) (hnodup : (e.segments.map (·.1)).Nodup) :
    ClassConformed r (heldSegments maps k e.segments) e (conformEntry maps r k e) := by
  have hheld : ∀ seg ∈ heldSegments maps k e.segments, 1 ≤ seg.2 := fun seg h => hcounts seg (List.mem_filter.1 h).1
  have hheldNodup : ((heldSegments maps k e.segments).map (·.1)).Nodup := (List.filter_sublist.map _).nodup hnodup
  have hcut := cutSegments_eq hheld r.need
  refine ⟨fun hoff => ?_, fun hon => ⟨cutSegments (heldSegments maps k e.segments) r.need, ?_, fun seg hseg => ?_,
    fun i c n hi => ?_, fun hnil => ?_, fun hne => ?_⟩⟩
  · unfold conformEntry
    rw [hoff]
    rfl
  · rw [hcut]
    exact keepFirst_sublist ..
  · rw [hcut] at hseg
    exact (mem_keepFirst (c := seg.1) (n := seg.2) hseg).1
  · rw [hcut]
    exact keepFirst_slots hheldNodup r.need i hi
  · unfold conformEntry
    rw [hon, hnil]
    rfl
  · have hjudge := judgeHeld_eq (r := r) (cut := cutSegments (heldSegments maps k e.segments) r.need)
      (by rw [hcut]; exact segmentSum_keepFirst_le ..)
    have hcase : conformEntry maps r k e =
        if judgeHeld r (cutSegments (heldSegments maps k e.segments) r.need) = .shed then
          { state := .shed, placed := 0, segments := [] }
        else { state := judgeHeld r (cutSegments (heldSegments maps k e.segments) r.need),
               placed := segmentSum (cutSegments (heldSegments maps k e.segments) r.need),
               segments := cutSegments (heldSegments maps k e.segments) r.need } := by
      unfold conformEntry
      rw [hon]
      dsimp only
      rw [if_neg (by decide), if_neg (by simpa using hne)]
      cases judgeHeld r (cutSegments (heldSegments maps k e.segments) r.need) <;> rfl
    dsimp only
    rw [hcase, hjudge]

/-! ### The maps conformed at a commit -/

theorem commitParts_active (n : FrameNo) (s : State) (c : Carrier) :
    ((commitParts n s).lane.carriers.get c).active = (commitWork n s).txActive c := by
  rw [State.txActive_eq, commitWork_active, commitParts_lane_get, laneCommitCarrier_active]
  rfl

/-- The maps and entries of a state t that a commit from w has left. -/
theorem mapsConformed_of {n : FrameNo} {s w t : State} (hidle : w.lane.announcement = none) (hw : w.working = s.working)
    (hst : w.staged = s.staged) (hworking : t.working = stagedAsWorking s.staged)
    (hmapper : t.mapper = (commitWork n w).mapper) (htx : ∀ c, t.txActive c = (commitWork n w).txActive c)
    (hbefore : Grows s.events w.events) (hafter : Grows (commitWork n w).events t.events) :
    MapsConformed s t w.mapper.active := by
  intro hp
  let disabled (c : Carrier) : Bool := s.enabled c && !((stagedAsWorking s.staged).carriers.get c).enable
  let active (c : Carrier) : Nat := ((commitParts n w).lane.carriers.get c).active
  let kept := keptMap (stagedAsWorking s.staged) disabled active w.mapper.active
  have hen (c : Carrier) : w.enabled c = s.enabled c := State.enabled_congr hw c
  have hparts : (commitParts n w).mapper.active = conform (stagedAsWorking s.staged) disabled active w.mapper.active := by
    have e := commitParts_mapper n w
    rw [hst] at e
    simp only [hen] at e
    rw [e]
    rfl
  have hconform : t.mapper.active = conform (stagedAsWorking s.staged) disabled active w.mapper.active := by
    rw [hmapper, commitWork_mapper n w hidle, hparts]
  have hactive (c : Carrier) : active c = t.txActive c := by rw [htx, ← commitParts_active]
  have hcounts (k : Cls) := (hp.2 k).2.2.1
  refine ⟨kept, fun c hon hoff => ?_, fun c h => ?_, fun c => ⟨?_, fun k m => ?_⟩, fun k => ⟨?_, fun hb ha => ?_, fun hb ha => ?_⟩⟩
  · rw [State.enabled_eq, hworking] at hoff
    refine if_pos ?_
    show (s.enabled c && !((stagedAsWorking s.staged).carriers.get c).enable) = true
    rw [hon, hoff]
    rfl
  · have hstays : disabled c = false := by
      show (s.enabled c && !((stagedAsWorking s.staged).carriers.get c).enable) = false
      rcases h with h | h
      · rw [h]; rfl
      · rw [State.enabled_eq, hworking] at h
        rw [h, Bool.not_true, Bool.and_false]
    have hkept : kept c = trimMap (capacityOf t.working.table (t.txActive c))
        ((w.mapper.active.maps.get c).filter fun pair => (t.working.classes.get pair.1).active) := by
      rw [hworking, ← hactive]
      exact if_neg (by rw [hstays]; decide)
    dsimp only
    rw [hkept]
    exact trimMap_spec ..
  · rw [hconform, conform_maps]
    exact mapFromEntries_classes_sublist ..
  · rw [hconform]
    exact mem_conform_maps _ _ _ hp c k m
  · have hheld : (w.mapper.active.entries.get k).segments.filter (fun seg => (kept seg.1).any fun pair => pair.1 = k) =
        heldSegments (.ofFn kept) k (w.mapper.active.entries.get k).segments := by
      unfold heldSegments
      simp only [Four.get_ofFn]
    rw [hheld, hconform, conform_entries, hworking]
    exact conformEntry_conformed _ _ _ (hcounts k) (hp.2 k).2.1
  · have hmem : { kind := .classShed, index := k.toNat, edge := some .enter } ∈
        shedEdges w.mapper.active.entries (commitParts n w).mapper.active.entries :=
      enter_mem_shedEdges hb (by rw [hparts, ← hconform]; exact ha)
    exact hafter.after (hbefore.before (commitWork_shedEdges n w hmem))
  · have hmem : { kind := .classShed, index := k.toNat, edge := some .leave } ∈
        shedEdges w.mapper.active.entries (commitParts n w).mapper.active.entries :=
      leave_mem_shedEdges hb (by rw [hparts, ← hconform]; exact ha)
    exact hafter.after (hbefore.before (commitWork_shedEdges n w hmem))

/-! ### The Branch Monitor at a commit -/

theorem changesBranches_iff (old new : CarrierParams) : changesBranches old new = true ↔
    old.mode ≠ new.mode ∨ old.excludes .a ≠ new.excludes .a ∨ old.excludes .b ≠ new.excludes .b := by
  simp [changesBranches, CarrierParams.excludes, or_assoc]

theorem commitWork_branches (n : FrameNo) (s : State) (c : Carrier) (side : Side) :
    ((commitWork n s).monitor.branches.get c).get side =
      exclusionTaken ((s.params c).excludes side) (((stagedAsWorking s.staged).carriers.get c).excludes side)
        ((s.monitor.branches.get c).get side) := by
  have hm : (committedLane s).monitor = s.monitor := by simp [committedLane, commitLane, commitConfiguration]
  rw [commitWork_monitor, commitMonitor_branches, excludeBranch_taken, hm]
  rfl

theorem commitWork_grace (n : FrameNo) (s : State) (c : Carrier) : (commitWork n s).monitor.grace.get c =
    if s.enabled c = true ∧ (s.staged.carriers.get c).enable = true ∧
      changesBranches (s.params c) (s.staged.carriers.get c) = true then s.staged.link.pauseGrace
    else if s.enabled c = true ∧ (s.staged.carriers.get c).enable = false then 0
    else s.monitor.grace.get c := by
  have hm : (committedLane s).monitor = s.monitor := by simp [committedLane, commitLane, commitConfiguration]
  rw [commitWork_monitor, commitMonitor_grace, hm]
  rfl

end Sys2Proof.Machine
end

section
/-! The carriers that a commit carries over, and the abort that it raises (O46). -/
namespace Sys2Proof.Machine

/-! ### What follows a commit's work leaves a carrier's items -/

/-- A carrier's items in t are those that a commit's work v left; its attenuation in force has been computed since. -/
structure ShownAt (c : Carrier) (v t : State) : Prop where
  est : t.est.get c = v.est.get c
  rau : t.rau.get c = v.rau.get c
  sig : t.sig.get c = v.sig.get c
  lane : t.lane.carriers.get c = v.lane.carriers.get c
  atpc : (t.pcu.get c).atpc = (v.pcu.get c).atpc
  period : (t.pcu.get c).period = (v.pcu.get c).period
  shadow : (t.pcu.get c).shadow = (v.pcu.get c).shadow

/-- What t keeps of the items that a commit's work v left and that no carrier owns, and what has been derived since. -/
structure Shown (v t : State) : Prop where
  working : t.working = v.working
  staged : t.staged = v.staged
  applyPending : t.applyPending = v.applyPending
  mapper : t.mapper = v.mapper
  fault : t.fault = v.fault
  intake : t.intake = v.intake
  announcement : t.lane.announcement = v.lane.announcement
  txActive : ∀ c, t.txActive c = v.txActive c
  link : t.port.link = v.port.link
  carriers : t.port.carriers = v.port.carriers
  watch : t.port.watch = some v.working.link.frameWatch
  muted : ∀ c, t.enabled c = false → (t.pcu.get c).eff = 0 ∧ t.port.fieldOut.get c = none
  grows : Grows v.events t.events

/-! ### The receive context carried over (R73) -/

theorem rebaseRequest_replaces (x : RxContext) : rebaseRequest x = x ∨ rebaseRequest x = replaceByNone x := by
  by_cases h : KeepsStepRules x.active x.request
  · exact .inl (rebaseRequest_stands h)
  · cases ht : x.request.target with
    | some t => exact .inr (rebaseRequest_cancels h (by rw [ht]; rfl))
    | none =>
      refine .inl ?_
      unfold rebaseRequest
      rw [ht]
      cases x.request.kind <;> rfl

section
variable {env : RxEnv} {x : RxContext}

theorem slipAbsent_absent (h : env.table.length ≤ x.active) : slipAbsent env x = slipTo env 0 x := if_pos h

theorem slipAbsent_present (h : x.active < env.table.length) : slipAbsent env x = (x, []) := if_neg (by omega)

/-- A request above the ceiling is cancelled, whether or not the profile slips first. -/
theorem committedRequest_high {target : Nat} (hk : x.request.kind ≠ .none) (ht : x.request.target = some target)
    (hhigh : env.ceiling < target) : (committedRequest env x).request =
      { seq := nextSeq x.request.seq x.consumed, kind := .none, target := none } ∧
    (committedRequest env x).timer = none := by
  have hcancel (y : RxContext) (hr : y.request = x.request) (hc : y.consumed = x.consumed) :
      (dropHighRequest env y).request = { seq := nextSeq x.request.seq x.consumed, kind := .none, target := none } ∧
      (dropHighRequest env y).timer = none := by
    unfold dropHighRequest
    rw [hr, ht]
    dsimp only
    rw [if_pos hhigh, cancelRequest_open (by rw [hr]; exact hk), ← hr, ← hc]
    exact ⟨rfl, rfl⟩
  unfold committedRequest
  by_cases hslip : env.table.length ≤ x.active
  · rw [slipAbsent_absent hslip]
    unfold slipTo
    dsimp only
    rcases rebaseRequest_replaces (reloadHold env { x with active := 0 }) with e | e
    · rw [e]
      exact hcancel _ rfl rfl
    · rw [e]
      exact ⟨rfl, rfl⟩
  · rw [slipAbsent_present (by omega)]
    exact hcancel x rfl rfl

theorem committedRequest_stays (hactive : x.active < env.table.length) (hlow : ∀ target ∈ x.request.target, target ≤ env.ceiling) :
    committedRequest env x = x := by
  unfold committedRequest dropHighRequest
  rw [slipAbsent_present hactive]
  dsimp only
  cases ht : x.request.target with
  | none => rfl
  | some t => exact if_neg (by have := hlow t ht; omega)
end

/-- The lane's part of a commit on a carrier carried over (R129, R131). -/
theorem txCarriedOver_parts {n : FrameNo} {x0 w v : State} {c : Carrier} (hon : w.enabled c = true)
    (hon' : (w.staged.carriers.get c).enable = true) (hworking : v.working = stagedAsWorking w.staged)
    (hlane : v.lane.carriers.get c = (commitParts n w).lane.carriers.get c)
    (hx : x0.lane.carriers.get c = w.lane.carriers.get c) (raised : Prop) : TxCarriedOver x0 v raised c := by
  have h1 : (w.working.carriers.get c).enable = true := hon
  have h2 : ((stagedAsWorking w.staged).carriers.get c).enable = true := hon'
  have hceiling : (v.params c).txCeiling = ((stagedAsWorking w.staged).carriers.get c).txCeiling := by
    rw [State.params_eq, hworking]
  have hcarrier : v.lane.carriers.get c =
      if ((stagedAsWorking w.staged).carriers.get c).txCeiling < (x0.lane.carriers.get c).active then
        intakeOwn .ceiling .down ((stagedAsWorking w.staged).carriers.get c).txCeiling
          (recheckEntry ((stagedAsWorking w.staged).carriers.get c).txCeiling (stagedAsWorking w.staged).length
            (x0.lane.carriers.get c))
      else recheckEntry ((stagedAsWorking w.staged).carriers.get c).txCeiling (stagedAsWorking w.staged).length
        (x0.lane.carriers.get c) := by
    rw [hlane, commitParts_lane_get, ← hx]
    unfold laneCommitCarrier
    rw [h1, h2]
    dsimp only
    rw [recheckEntry_active]
  unfold TxCarriedOver
  dsimp only
  rw [hceiling, hcarrier, hworking]
  refine ⟨?_, fun _ => ⟨_, recheckEntry_rechecked .., fun hlow => if_neg (by omega), fun hhigh => ?_⟩⟩
  · split
    · rw [intakeOwn_active, recheckEntry_active]
    · rw [recheckEntry_active]
  · rw [if_pos hhigh]
    exact intakeOwn_internalIntake ..

section
variable {n : FrameNo} {x0 w t : State} {raised : Prop} {c : Carrier} (hon : w.enabled c = true)
  (hon' : (w.staged.carriers.get c).enable = true) (hworking : t.working = stagedAsWorking w.staged)
  (hraised : raised ↔ commitRaises n w) (hat : ShownAt c (commitWork n w) t)
include hon hon' hworking hraised hat

theorem rxCarriedOver_of (hx : x0.rau.get c = w.rau.get c) (hbefore : Grows x0.events w.events)
    (hafter : Grows (commitWork n w).events t.events) : RxCarriedOver x0 t raised c := by
  let env := rxEnv (committedLane w) c
  have hlen : t.working.length = env.table.length := by rw [hworking]; rfl
  have hceiling : (t.params c).rxCeiling = env.ceiling := by rw [State.params_eq, hworking]; rfl
  have hen : (committedLane w).enabled c = true := hon'
  have hparts : (commitParts n w).rau.get c = (rxCommit env true true (x0.rau.get c)).1 := by
    rw [commitParts_rau, hon, hen, hx]
  have hsame := rxCommit_stays_same env (x0.rau.get c)
  have hrest : t.rau.get c = { (commitParts n w).rau.get c with
      request := (t.rau.get c).request, timer := (t.rau.get c).timer } := by
    rw [hat.rau]
    rcases commitWork_rau n w c with e | e
    · rw [e]
    · rw [e]
      exact cancelRequest_same _
  have hitems := hrest
  rw [hparts, hsame] at hitems
  dsimp only at hitems
  have hact : (t.rau.get c).active = if env.table.length ≤ (x0.rau.get c).active then 0 else (x0.rau.get c).active := by
    rw [hitems]
  have harmed : (t.rau.get c).armed = (x0.rau.get c).armed.filter fun a => a.next < env.table.length := by rw [hitems]
  refine ⟨fun h => ⟨?_, ?_⟩, fun h => ?_, fun h => ?_, fun a ha => ?_, fun target hk ht hhigh => ?_, fun hno hactive hlow => ?_,
    ?_, ?_, ?_, ?_, ?_, ?_⟩
  · rw [hlen] at h
    rw [hact, if_pos h]
  · rw [hlen] at h
    refine hafter.after (hbefore.before (commitWork_slip n w ?_))
    rw [hon, hen, ← hx, rxCommit_stays, slipAbsent_absent h]
    exact List.mem_singleton.2 rfl
  · rw [hlen] at h
    rw [hact, if_neg (by omega)]
  · rw [harmed, h]
    rfl
  · rw [harmed, ha, hlen, Option.filter_some]
    simp only [decide_eq_true_eq]
  · rw [hceiling] at hhigh
    obtain ⟨hrequest, htimer⟩ := committedRequest_high hk ht hhigh
    have hpr : ((commitParts n w).rau.get c).request =
        { seq := nextSeq (x0.rau.get c).request.seq (x0.rau.get c).consumed, kind := .none, target := none } := by
      rw [hparts, hsame]
      exact hrequest
    have hpt : ((commitParts n w).rau.get c).timer = none := by
      rw [hparts, hsame]
      exact htimer
    have e : (commitWork n w).rau.get c = (commitParts n w).rau.get c := by
      rcases commitWork_rau n w c with e | e
      · exact e
      · rw [e, cancelRequest_none (by rw [hpr])]
    rw [hat.rau, e]
    exact ⟨hpr, hpt⟩
  · rw [hlen] at hactive
    rw [hceiling] at hlow
    have hstay := committedRequest_stays hactive hlow
    rw [hat.rau, commitWork_unraised n w fun h => hno (hraised.2 h), hparts, hsame]
    dsimp only
    rw [hstay]
    exact ⟨rfl, rfl⟩
  · rw [hitems, hworking]
    rfl
  all_goals rw [hitems]

theorem txCarriedOver_of (hx : x0.lane.carriers.get c = w.lane.carriers.get c) : TxCarriedOver x0 t raised c := by
  refine ⟨?_, fun hno => (txCarriedOver_parts (n := n) (v := t) hon hon' hworking ?_ hx raised).2 hno⟩
  · have hen : w.enabled c = (w.staged.carriers.get c).enable := by rw [hon, hon']
    rw [hat.lane, commitWork_active, if_pos hen, hx]
    rfl
  · rw [hat.lane, commitWork_unraised n w fun h => hno (hraised.2 h)]

theorem powerCarriedOver_of (hidle : w.lane.announcement = none) (hx : x0.pcu.get c = w.pcu.get c)
    (hparams : x0.params c = w.params c) (hsig : x0.sig.get c = w.sig.get c) (hstate : x0.fault.state = w.fault.state) :
    PowerCarriedOver x0 t raised c := by
  have hnew : t.params c = w.staged.carriers.get c := by
    rw [State.params_eq, hworking]
    rfl
  have hparts := commitParts_pcu_get n w c
  have h1 : (w.params c).enable = true := hon
  have hsigs : (commitParts n w).sig.get c = w.sig.get c := by
    rw [commitParts_sig, if_neg]
    rw [enableChanges_iff, hon, hon']
    exact fun h => h rfl
  unfold PowerCarriedOver
  dsimp only
  rw [hat.atpc, hat.period, hat.shadow, commitWork_period, commitWork_shadow n w c hidle, hnew, hx, hparams, hsig, hstate]
  refine ⟨fun hoff => ⟨?_, ?_⟩, fun hstill hon2 => ⟨?_, fun hno => ?_⟩, fun hstill hoff hlost hrun => ?_, ?_⟩
  · have hzero : ((commitParts n w).pcu.get c).atpc = 0 := by
      rw [hparts]
      exact powerCommit_zero (.inr (.inl hoff)) hon'
    rcases commitWork_atpc n w c with e | e
    · rw [e, hzero]
    · exact e
  · rw [hparts]
    unfold powerCommit
    rw [h1, hon', hoff]
    rfl
  · rw [hparts, powerCommit_period_stays _ _ h1 hon' hon2 hstill]
  · rw [commitWork_unraised n w fun h => hno (hraised.2 h), hparts]
    unfold powerCommit
    rw [h1, hon', hon2, hstill]
    rfl
  · rw [hparts, hsigs, hlost, hrun]
    unfold powerCommit
    rw [h1, hon', hoff, hstill]
    rfl
  · rw [hparts]
    unfold powerCommit
    rw [h1, hon']
    dsimp only
    split
    · rfl
    · split
      · split <;> rfl
      · rfl
end

end Sys2Proof.Machine
end

section
/-! A commit taken, and the abort that it raises, as the state after its step shows them (O46). -/
namespace Sys2Proof.Machine

/-! ### The abort -/

theorem AbortedLane.congr {s t s' t' : State} (h : AbortedLane s t) (hlane : s'.lane = s.lane) (hlane' : t'.lane = t.lane)
    (hworking : s'.working = s.working) (hmapper : s'.mapper = s.mapper) (hmapper' : t'.mapper = t.mapper)
    (hshadow : ∀ c, (s'.pcu.get c).shadow = (s.pcu.get c).shadow)
    (hshadow' : ∀ c, (t'.pcu.get c).shadow = (t.pcu.get c).shadow) : AbortedLane s' t' := by
  unfold AbortedLane at h ⊢
  simp only [State.txActive_eq, State.enabled_eq, State.params_eq] at h ⊢
  simp only [hlane, hlane', hworking, hmapper, hmapper', hshadow, hshadow']
  exact h

/-- The state in which the abort of a commit finds the part, with all that the step t has derived after it. -/
def abortFound (n : FrameNo) (w t : State) : State :=
  { t with
    fault := (commitParts n w).fault
    events := (commitParts n w).events
    lane := (commitParts n w).lane
    rau := (commitParts n w).rau
    mapper := (commitParts n w).mapper
    pcu := .ofFn fun c => { (commitParts n w).pcu.get c with eff := (t.pcu.get c).eff } }

section
variable {n : FrameNo} {w t : State}

theorem abortFound_pcu (c : Carrier) : (abortFound n w t).pcu.get c =
    { (commitParts n w).pcu.get c with eff := (t.pcu.get c).eff } := Four.get_ofFn ..

theorem Shown.lane (h : Shown (commitWork n w) t) (hat : ∀ c, ShownAt c (commitWork n w) t) :
    t.lane = (commitWork n w).lane :=
  Lane.ext_items h.announcement fun c => (hat c).lane

theorem Shown.state_working (h : Shown (commitWork n w) t) : t.working = (commitParts n w).working := by
  rw [h.working, commitWork_working, commitParts_working]

/-- The abort that a commit raises, as the step shows it (R173, R174). -/
theorem abortEffect_of (hr : commitRaises n w) (hlink : w.port.link = .running) (h : Shown (commitWork n w) t)
    (hat : ∀ c, ShownAt c (commitWork n w) t) :
    AbortEffect (commitCause (commitParts n w)) (abortFound n w t) t := by
  obtain ⟨-, hfault, hlatched, hopen, hclosed, hpcu, -, hlane⟩ :=
    linkAbort_effect (commitCause (commitParts n w)) (commitCounted n w)
  have hlink' : (commitCounted n w).port.link = .running := (commitParts_link n w).trans hlink
  have hlane := hlane hlink'
  rw [← commitWork_raised n w hr] at hfault hlatched hopen hclosed hpcu hlane
  have hen (c : Carrier) : (abortFound n w t).enabled c = (commitParts n w).enabled c :=
    State.enabled_congr h.state_working c
  have hrau (c : Carrier) : (abortFound n w t).rau.get c = (commitParts n w).rau.get c := rfl
  have hlinks : t.port.link = .running := by rw [h.link, commitWork_link, hlink]
  have hheld (c : Carrier) : powerHeld (abortFound n w t) c = powerHeld (commitCounted n w) c := by
    have hsig : (commitWork n w).sig.get c = (commitParts n w).sig.get c := by rw [commitWork_sig, commitParts_sig]
    have e1 : (abortFound n w t).sig.get c = (commitParts n w).sig.get c := (hat c).sig.trans hsig
    have e2 : (abortFound n w t).port.link = (commitParts n w).port.link := by
      rw [commitParts_link, hlink]
      exact hlinks
    have e3 : (abortFound n w t).params c = (commitParts n w).params c := by
      rw [State.params_eq, State.params_eq, ← h.state_working]
      rfl
    unfold powerHeld
    rw [hen, e3, e1, e2]
    rfl
  refine ⟨rfl, h.fault.trans hfault, h.grows.after hlatched, fun c hc hk => ?_, fun c hc => ?_, fun c => ⟨?_, ?_, ?_⟩,
    fun hlost => absurd (hlinks.symm.trans hlost) (by decide), fun _ => ?_⟩
  · rw [hen] at hc
    rw [(hat c).rau]
    exact hopen c hc hk
  · rw [hen] at hc
    rw [(hat c).rau]
    exact hclosed c hc
  · rw [(hat c).atpc, hheld, abortFound_pcu]
    exact (hpcu c).1
  · rw [(hat c).period, abortFound_pcu]
    exact (hpcu c).2.1
  · rw [abortFound_pcu]
  · refine AbortedLane.congr (s := commitCounted n w) (t := commitWork n w) hlane rfl (h.lane hat) h.state_working rfl h.mapper (fun c => ?_) fun c => (hat c).shadow
    rw [abortFound_pcu]
    rfl
end

/-! ### Of each carrier -/

section
variable {n : FrameNo} {w : State} (hr : commitRaises n w) (hlink : w.port.link = .running)
  (hidle : w.lane.announcement = none) {c : Carrier} (hon : (w.staged.carriers.get c).enable = true)
include hr hon

theorem commitWork_raised_request : ((commitWork n w).rau.get c).request.kind = .none := by
  have hen : (commitCounted n w).enabled c = true := by
    have e : (commitCounted n w).working = stagedAsWorking w.staged := commitParts_working n w
    rw [State.enabled_eq, e]
    exact hon
  rw [commitWork_raised n w hr, linkAbort_rau_get, if_pos hen]
  exact cancelRequest_kind _

include hlink in
theorem commitWork_raised_atpc (hlost : (w.sig.get c).lost = false) : ((commitWork n w).pcu.get c).atpc = 0 := by
  rw [commitWork_raised n w hr, linkAbort_pcu]
  dsimp only
  split
  · next hheld =>
    have hsig : ((commitParts n w).sig.get c).lost = false := by
      rw [commitParts_sig]
      split
      · rfl
      · exact hlost
    have hrun : (commitParts n w).fault.state = .running := (commitParts_fault n w).1.trans hr.2.2
    have hlink' : (commitParts n w).port.link = .running := (commitParts_link n w).trans hlink
    have hnew : (commitParts n w).params c = w.staged.carriers.get c := by
      rw [State.params_eq, commitParts_working]
      rfl
    have hen : (commitParts n w).enabled c = true := by
      rw [State.enabled_eq, commitParts_working]
      exact hon
    have hoff : (w.staged.carriers.get c).atpcEnable = false := by
      have e : powerHeld (commitCounted n w) c = powerHeld (commitParts n w) c := rfl
      rw [e] at hheld
      unfold powerHeld at hheld
      rw [hen, hnew, hsig, hrun, hlink'] at hheld
      simpa using hheld
    have e : (commitCounted n w).pcu = (commitParts n w).pcu := rfl
    rw [e, commitParts_pcu_get]
    exact powerCommit_zero (.inr (.inl hoff)) hon
  · rfl

include hlink hidle in
theorem commitWork_raised_entry (hactive : 0 < (commitWork n w).txActive c) :
    ∃ maker, ((commitWork n w).lane.carriers.get c).entry = some (.own maker .urgent 0 none) := by
  have hen : (commitCounted n w).enabled c = true := by
    have e : (commitCounted n w).working = stagedAsWorking w.staged := commitParts_working n w
    rw [State.enabled_eq, e]
    exact hon
  have hann := commitWork_announcement n w hidle
  have hlink' : (commitCounted n w).port.link = .running := (commitParts_link n w).trans hlink
  have hbound : (commitWork n w).lane.txBound c = (commitWork n w).txActive c := Lane.txBound_idle hann c
  obtain ⟨-, -, hurgent, -⟩ := linkAbort_abortedLane (commitCause (commitParts n w)) hlink'
  rw [← commitWork_raised n w hr] at hurgent
  exact hurgent c hen (by rw [hbound]; exact hactive)
end

/-! ### The commit taken -/

theorem commitParts_placement_shadow (n : FrameNo) {w : State} (hidle : w.lane.announcement = none) :
    (commitWork n w).mapper.shadow = some
      { remaining := 1, loadFrame := n + 1,
        result := placement (capacities (stagedAsWorking w.staged) (commitWork n w).txActive) w.staged.classes } := by
  rw [commitWork_mapper n w hidle, commitParts_shadow]
  simp only [commitParts_active]

/-- What a commit made from the state w leaves in the state t after the step, told from the state s before it. -/
theorem commitTaken_of {n : FrameNo} {s w t : State} {table : List ProfileRecord} (htable : stagedTable s.staged = some table)
    (hidle : w.lane.announcement = none) (hw : w.working = s.working) (hst : w.staged = s.staged)
    (h : Shown (commitWork n w) t) (hat : ∀ c, s.enabled c ≠ t.enabled c → ShownAt c (commitWork n w) t)
    (hbefore : Grows s.events w.events) (hcond : ∀ c, s.enabled c ≠ t.enabled c → ConditionsLeft c s t)
    (hgrace : ∀ c, s.enabled c = true → t.enabled c = false → t.monitor.grace.get c = 0) : CommitTaken n table s t := by
  have hworking : t.working = stagedAsWorking s.staged := by rw [h.working, commitWork_working, hst]
  have htaken : stagedAsWorking s.staged =
      { link := s.staged.link, carriers := s.staged.carriers, table := table, classes := s.staged.classes } := by
    unfold stagedAsWorking
    rw [htable]
    rfl
  have hen (c : Carrier) : w.enabled c = s.enabled c := State.enabled_congr hw c
  have hen' (c : Carrier) : (w.staged.carriers.get c).enable = t.enabled c := by
    rw [State.enabled_eq, hworking, hst]
    rfl
  have hchange {c : Carrier} (hne : s.enabled c ≠ t.enabled c) :
      enableChanges w.working (stagedAsWorking w.staged) c = true := by
    rw [enableChanges_iff, hen, hen']
    exact hne
  refine ⟨hworking.trans htaken, by rw [h.applyPending, commitWork_applyPending], by rw [h.staged]; simp [hst],
    by rw [h.watch, commitWork_working, hst]; rfl, h.grows.after (hbefore.before (commitWork_applyDone n w)), ?_,
    fun c hne => ?_, fun c hon hoff => ?_, fun c hoff hon => ?_⟩
  · have htx : (commitWork n w).txActive = t.txActive := funext fun c => (h.txActive c).symm
    rw [h.mapper, commitParts_placement_shadow n hidle, htx, hst, ← hworking, hworking]
    rfl
  · have ha := hat c hne
    have hc := hchange hne
    obtain ⟨h1, h2, h3, h4, h5, h6, h7, h8, -⟩ := commitWork_rau_fresh n w c hc
    obtain ⟨hatpc, hshadow, -⟩ := commitWork_pcu_fresh n w c hidle hc
    refine ⟨?_, ?_, ?_, ?_, by rw [ha.rau, h1], by rw [ha.rau, h2], by rw [ha.rau, h3], by rw [ha.rau, h4],
      by rw [ha.rau, h5], by rw [ha.rau, h6], by rw [ha.rau, h7], by rw [ha.rau, h8], by rw [ha.atpc, hatpc],
      by rw [ha.shadow, hshadow], ?_, ?_, hcond c hne⟩
    · rw [ha.est, commitWork_est, if_pos hc]
      rfl
    · rw [h.intake, commitWork_intake, if_pos hc]
      rfl
    · rw [ha.sig, commitWork_sig, if_pos hc]
      rfl
    · rw [h.txActive, State.txActive_eq, commitWork_active, if_neg]
      rw [hen, hen']
      exact hne
    · rw [h.fault, commitWork_farFault, if_pos hc]
    · rw [h.carriers, commitWork_carriers, if_pos hc]
  · have hne : s.enabled c ≠ t.enabled c := by rw [hon, hoff]; decide
    have ha := hat c hne
    have hc := hchange hne
    have hoff' : (w.staged.carriers.get c).enable = false := (hen' c).trans hoff
    have hon' : w.enabled c = true := (hen c).trans hon
    obtain ⟨-, -, -, -, -, -, -, -, hstandby, -⟩ := commitWork_rau_fresh n w c hc
    obtain ⟨hphase, hrequest⟩ := hstandby hoff'
    refine ⟨by rw [ha.rau, hphase], by rw [ha.rau, hrequest], ?_, ?_, ?_, (h.muted c hoff).1, hgrace c hon hoff,
      (h.muted c hoff).2⟩
    · rw [ha.lane, commitWork_entry_off n w hidle hon' hoff']
    · rw [h.mapper, commitWork_mapper n w hidle, commitParts_map_off n w c hon' hoff']
    · rw [ha.period]
      exact (commitWork_pcu_fresh n w c hidle hc).2.2 hoff'
  · have hne : s.enabled c ≠ t.enabled c := by rw [hon, hoff]; decide
    obtain ⟨-, -, -, -, -, -, -, -, -, hacquire⟩ := commitWork_rau_fresh n w c (hchange hne)
    rw [(hat c hne).rau]
    exact hacquire ((hen' c).trans hon)

end Sys2Proof.Machine
end

section
/-! COMMIT, the row (O46). -/
namespace Sys2Proof.Machine

/-- The row's step: the commit, and the attenuation and deliveries that it derives anew. -/
def commitRow (n : FrameNo) (s : State) : State := deliver n (startWatch (computeAtten (.fill none) (commitWork n s)))

section
variable {n : FrameNo} {s : State}

theorem execCommit_due (hl : s.port.link = .running) (hcur : s.port.current = some n) (hp : s.applyPending = true)
    (hidle : s.lane.announcement = none) : exec .commit s = .next (commitRow n s) := by
  have hstep : commitStep s = commitRow n s := by
    unfold commitStep
    rw [hcur]
    rfl
  rw [← hstep]
  exact congrArg Host.Outcome.next (onOccasion_true (by simp [State.frameRunning, hl, hcur, hp, Lane.isIdle, hidle]) _ _)

theorem execCommit_idle (h : s.applyPending = false ∨ s.lane.announcement.isSome = true ∨ s.port.link = .frameLost ∨
    s.port.current = none) : exec .commit s = .next s := by
  refine congrArg Host.Outcome.next (onOccasion_false ?_ _ _)
  rcases h with h | h | h | h
  · simp [h]
  · simp [Lane.isIdle, Option.isNone_eq_false_iff.2 h]
  · simp [State.frameRunning, h]
  · simp [State.frameRunning, h]

variable (n s)

theorem commitRow_shownAt (c : Carrier) : ShownAt c (commitWork n s) (commitRow n s) := by
  have hpcu : (commitRow n s).pcu.get c = _ := computeAtten_pcu (.fill none) (commitWork n s) c
  exact ⟨rfl, rfl, rfl, rfl, by rw [hpcu], by rw [hpcu], by rw [hpcu]⟩

theorem commitRow_shown : Shown (commitWork n s) (commitRow n s) where
  working := rfl
  staged := rfl
  applyPending := rfl
  mapper := rfl
  fault := rfl
  intake := rfl
  announcement := rfl
  txActive _ := rfl
  link := rfl
  carriers := rfl
  watch := rfl
  grows := .refl _
  muted c h := by
    have hen : (commitWork n s).enabled c = false := h
    have hpcu : (commitRow n s).pcu.get c = _ := computeAtten_pcu (.fill none) (commitWork n s) c
    have hout : (commitRow n s).port.fieldOut.get c = if (commitWork n s).enabled c then some
        { frame := n, bytes := composeField (startWatch (computeAtten (.fill none) (commitWork n s))) c } else none :=
      Four.get_ofFn ..
    rw [hpcu, hout, hen]
    exact ⟨rfl, rfl⟩

theorem commitRow_working : (commitRow n s).working = stagedAsWorking s.staged := commitWork_working n s

theorem commitRow_enabled (c : Carrier) : (commitRow n s).enabled c = (s.staged.carriers.get c).enable := by
  rw [State.enabled_eq, commitRow_working]
  rfl

theorem commitRow_changes (c : Carrier) : enableChanges s.working (stagedAsWorking s.staged) c = true ↔
    s.enabled c ≠ (commitRow n s).enabled c := by
  rw [enableChanges_iff, commitRow_enabled]

theorem commitRow_monitorCommitted : MonitorCommitted s (commitRow n s) (fun _ _ b => b) fun c => s.monitor.grace.get c := by
  have hparams (c : Carrier) : (commitRow n s).params c = (stagedAsWorking s.staged).carriers.get c := by
    rw [State.params_eq, commitRow_working]
  refine ⟨fun c side => ?_, fun c side hold hnew hb => ?_, fun c => ?_⟩
  · rw [hparams]
    exact commitWork_branches n s c side
  · rw [hparams] at hnew
    exact commitWork_branchFault n hold hnew hb
  · have hgrace : (commitRow n s).monitor.grace.get c = _ := commitWork_grace n s c
    rw [hgrace, hparams, commitRow_enabled, commitRow_working]
    simp only [changesBranches_iff]
    rfl

theorem commitRow_same (c : Carrier) (h : s.enabled c = (commitRow n s).enabled c) :
    (commitRow n s).est.get c = s.est.get c ∧ (commitRow n s).intake.get c = s.intake.get c ∧
    (commitRow n s).sig.get c = s.sig.get c ∧ (commitRow n s).fault.farFault.get c = s.fault.farFault.get c ∧
    (commitRow n s).port.carriers.get c = s.port.carriers.get c := by
  have hno : ¬ enableChanges s.working (stagedAsWorking s.staged) c = true := fun hc => (commitRow_changes n s c).1 hc h
  exact ⟨(commitWork_est n s c).trans (if_neg hno), (commitWork_intake n s c).trans (if_neg hno),
    (commitWork_sig n s c).trans (if_neg hno), (commitWork_farFault n s c).trans (if_neg hno),
    (commitWork_carriers n s c).trans (if_neg hno)⟩

/-- The HOST pause and the consumed seq of a context stand through a commit (R72, R73). -/
theorem rxCommit_notes (env : RxEnv) (before after : Bool) (x : RxContext) :
    (rxCommit env before after x).1.hostPause = x.hostPause ∧ (rxCommit env before after x).1.consumed = x.consumed := by
  cases before with
  | false => cases after <;> exact ⟨rfl, rfl⟩
  | true => cases after with
    | false =>
      have hsame := cancelRequest_same x
      have e : (rxCommit env true false x).1 = { clearContext (cancelRequest x) with phase := .standby } := rfl
      rw [e, hsame]
      exact ⟨rfl, rfl⟩
    | true =>
      rw [rxCommit_stays_same]
      exact ⟨rfl, rfl⟩

theorem commitWork_notes (c : Carrier) : ((commitWork n s).rau.get c).hostPause = (s.rau.get c).hostPause ∧
    ((commitWork n s).rau.get c).consumed = (s.rau.get c).consumed := by
  have hparts : ((commitParts n s).rau.get c).hostPause = (s.rau.get c).hostPause ∧
      ((commitParts n s).rau.get c).consumed = (s.rau.get c).consumed := by
    rw [commitParts_rau]
    exact rxCommit_notes ..
  rcases commitWork_rau n s c with e | e
  · rw [e]
    exact hparts
  · rw [e, cancelRequest_same]
    exact hparts

/-- Whether the abort demand rises shows in the state after the step. -/
theorem raises_iff_shown {n : FrameNo} {w t : State} (h : Shown (commitWork n w) t) :
    (abortDemand w = false ∧ abortDemand t = true ∧ w.fault.state = .running) ↔ commitRaises n w := by
  rw [commitRaises_iff, abortDemand_congr h.working (congrArg Supervisor.faultLevel h.fault)
    (congrArg Supervisor.farFault h.fault)]

theorem commitWork_unraised_fault (h : ¬ commitRaises n s) :
    (commitWork n s).fault.state = s.fault.state ∧ (commitWork n s).fault.cause = s.fault.cause := by
  rw [commitWork_unraised n s h]
  exact ⟨(commitParts_fault n s).1, (commitParts_fault n s).2.2⟩

theorem localStands_congr {u v : State} (hw : v.working = u.working) (hf : v.fault.faultLevel = u.fault.faultLevel) :
    localStands v = localStands u := by
  unfold localStands
  rw [hw, hf]

theorem farStands_congr {u v : State} (hw : v.working = u.working) (hf : v.fault.farFault = u.fault.farFault) (c : Carrier) :
    farStands v c = farStands u c := by
  unfold farStands
  rw [State.enabled_congr hw, hw, hf]

/-- An abort that a commit raises names a standing source (R171), and is reported (R173). -/
theorem raised_shown {n : FrameNo} {w t : State} (hr : commitRaises n w) (h : Shown (commitWork n w) t) :
    t.fault.state = .aborted ∧ LatchedAfter w.events t.events .aborted 0 (some .enter) ∧
    ((t.fault.cause = some .localFault ∧ localStands t = true) ∨
      ∃ c, t.fault.cause = some (.far c) ∧ farStands t c = true) := by
  have hfault : t.fault = { (commitParts n w).fault with
      state := .aborted, cause := some (commitCause (commitParts n w)) } := by
    rw [h.fault, commitWork_raised n w hr, linkAbort_fault]
    rfl
  obtain ⟨-, -, hlatched, -⟩ := linkAbort_effect (commitCause (commitParts n w)) (commitCounted n w)
  rw [← commitWork_raised n w hr] at hlatched
  have hgrows : Grows w.events (commitParts n w).events := (grows_to_beforeMapper w).trans (grows_commitParts n w)
  refine ⟨by rw [hfault], h.grows.after (hgrows.before hlatched), ?_⟩
  rcases commitCause_standing hr.2.1 with ⟨e, hstand⟩ | ⟨c, e, hstand⟩
  · refine .inl ⟨by rw [hfault, e], ?_⟩
    rw [localStands_congr h.state_working (by rw [hfault]), hstand]
  · refine .inr ⟨c, by rw [hfault, e], ?_⟩
    rw [farStands_congr h.state_working (by rw [hfault]), hstand]
end

/-- The row of O46. -/
theorem commitRow_commits (s : State) (n : FrameNo) (table : List ProfileRecord) (hl : s.port.link = .running)
    (hcur : s.port.current = some n) (hp : s.applyPending = true) (hidle : s.lane.announcement = none)
    (htable : stagedTable s.staged = some table) :
    ∃ t, exec .commit s = .next t ∧
      CommitTaken n table s t ∧ MapsConformed s t s.mapper.active ∧ t.hml = s.hml ∧
      MonitorCommitted s t (fun _ _ b => b) (fun c => s.monitor.grace.get c) ∧
      t.monitor.scanCarrier = s.monitor.scanCarrier ∧ t.monitor.scanSide = s.monitor.scanSide ∧
      t.port.current = s.port.current ∧
      (∀ c, s.enabled c = t.enabled c →
        t.est.get c = s.est.get c ∧ t.intake.get c = s.intake.get c ∧ t.sig.get c = s.sig.get c ∧
        t.fault.farFault.get c = s.fault.farFault.get c ∧ t.port.carriers.get c = s.port.carriers.get c) ∧
      (∀ c, (t.lane.carriers.get c).hold = (s.lane.carriers.get c).hold ∧
        (t.rau.get c).hostPause = (s.rau.get c).hostPause ∧ (t.rau.get c).consumed = (s.rau.get c).consumed) ∧
      (let raised := abortDemand s = false ∧ abortDemand t = true ∧ s.fault.state = .running
       (¬ raised → t.fault.state = s.fault.state ∧ t.fault.cause = s.fault.cause) ∧
       (raised → t.fault.state = .aborted ∧ LatchedAfter s.events t.events .aborted 0 (some .enter) ∧
         ((t.fault.cause = some .localFault ∧ localStands t = true) ∨
           ∃ c, t.fault.cause = some (.far c) ∧ farStands t c = true) ∧
         ∀ c, t.enabled c = true → (t.rau.get c).request.kind = .none ∧
           ((s.sig.get c).lost = false → (t.pcu.get c).atpc = 0) ∧
           (0 < t.txActive c → ∃ maker, (t.lane.carriers.get c).entry = some (.own maker .urgent 0 none))) ∧
       (raised → ∃ u cause, AbortEffect cause u t ∧
         ∀ c, s.enabled c = true → t.enabled c = true → TxCarriedOver s u False c) ∧
       ∀ c, s.enabled c = true → t.enabled c = true →
         RxCarriedOver s t raised c ∧ TxCarriedOver s t raised c ∧ PowerCarriedOver s t raised c) := by
  have hshown := commitRow_shown n s
  have hat := commitRow_shownAt n s
  have hraises := raises_iff_shown hshown
  have hworking := commitRow_working n s
  have hmon : (commitRow n s).monitor = (commitMonitor s.working (committedLane s)).monitor := commitWork_monitor n s
  have hposition := commitMonitor_position s.working (committedLane s)
  have hcommitted : (committedLane s).monitor = s.monitor := by simp [committedLane, commitLane, commitConfiguration]
  refine ⟨_, execCommit_due hl hcur hp hidle, ?_, ?_, ?_, commitRow_monitorCommitted n s, ?_, ?_, commitWork_current n s,
    commitRow_same n s, fun c => ⟨commitWork_hold n s c, commitWork_notes n s c⟩, fun hno => ?_, fun hr => ?_, fun hr => ?_,
    fun c hon hon' => ?_⟩
  · refine commitTaken_of htable hidle rfl rfl hshown (fun c _ => hat c) (.refl _) (fun c hne => ?_) fun c hon hoff => ?_
    · exact commitWork_conditionsLeft n s ((commitRow_changes n s c).2 hne)
    · rw [commitRow_enabled] at hoff
      exact (commitWork_grace n s c).trans ((if_neg (by rw [hoff]; simp)).trans (if_pos ⟨hon, hoff⟩))
  · exact mapsConformed_of hidle rfl rfl hworking rfl (fun _ => rfl) (.refl _) (.refl _)
  · have e : (commitRow n s).hml = (commitWork n s).hml := rfl
    rw [e]
    simp
  · rw [hmon, hposition.1, hcommitted]
  · rw [hmon, hposition.2, hcommitted]
  · exact commitWork_unraised_fault n s fun h => hno (hraises.2 h)
  · have hr' := hraises.1 hr
    obtain ⟨h1, h2, h3⟩ := raised_shown hr' hshown
    refine ⟨h1, h2, h3, fun c hon => ?_⟩
    rw [commitRow_enabled] at hon
    refine ⟨commitWork_raised_request hr' hon, fun hlost => ?_, fun hactive => ?_⟩
    · rw [(hat c).atpc]
      exact commitWork_raised_atpc hr' hl hon hlost
    · exact commitWork_raised_entry hr' hl hidle hon hactive
  · refine ⟨_, _, abortEffect_of (hraises.1 hr) hl hshown hat, fun c hon hon' => ?_⟩
    rw [commitRow_enabled] at hon'
    exact txCarriedOver_parts (n := n) (v := abortFound n s (commitRow n s)) hon hon' hworking rfl rfl _
  · rw [commitRow_enabled] at hon'
    exact ⟨rxCarriedOver_of hon hon' hworking hraises (hat c) rfl (.refl _) (.refl _),
      txCarriedOver_of hon hon' hworking hraises (hat c) rfl,
      powerCarriedOver_of hon hon' hworking hraises (hat c) hidle rfl rfl rfl rfl⟩

end Sys2Proof.Machine
end

section
/-! A FRAME_START that makes the commit: O46. -/
namespace Sys2Proof.Machine

/-! ### The state in which a frame start makes its commit -/

section
variable (n : FrameNo) (order : FrameOrder) {s : State}

theorem commitDue_of_idle (hp : s.applyPending = true) (ha : ∀ a ∈ s.lane.announcement, a.count ≤ 1) : commitDue s = true := by
  unfold commitDue
  rw [hp, Bool.true_and]
  cases h : s.lane.announcement with
  | none => simp [Lane.isIdle, h]
  | some a => rw [announcementDue_of h (ha a h), Bool.or_true]

theorem laneCountdown_idles {w : WorkingSet} {l : Lane} (h : ∀ a ∈ l.announcement, a.count ≤ 1) :
    (laneCountdown w l).1.announcement = none := by
  cases ha : l.announcement with
  | none => rw [laneCountdown_none ha, ha]
  | some a =>
    rw [laneCountdown_due ha (h a ha)]
    rfl

theorem worked_idle (ha : ∀ a ∈ s.lane.announcement, a.count ≤ 1) : (worked n order s).lane.announcement = none := by
  rw [worked_lane]
  exact laneCountdown_idles (by rw [readied_lane_announcement]; exact ha)

theorem mapperTick_loaded (s : State) : (mapperTick s.mapper).1.active = loadedPlacement s := by
  unfold loadedPlacement
  cases h : s.mapper.shadow with
  | none => rw [mapperTick_waits (waits_of_cases (.inl h))]
  | some sh =>
    dsimp only
    by_cases hr : sh.remaining ≤ 1
    · rw [mapperTick_due h hr, if_pos hr]
    · rw [mapperTick_waits (waits_of_cases (.inr ⟨sh, h, by omega⟩)), if_neg hr]

theorem worked_loaded : (worked n order s).mapper.active = loadedPlacement s := by
  cases hl : s.port.link with
  | running => rw [worked_mapper n order hl, mapperTick_loaded]
  | frameLost =>
    have e : (worked n order s).mapper = (readied n order s).mapper := rfl
    rw [e, readied_lost n order s hl, restored_mapper]
    exact mapperTick_loaded s

/-! ### The reports of a frame start -/

/-- What a frame start reports: what its hand-overs and its commit report of the estimator and of the signalling unit, and
reports of the other blocks. -/
theorem reported_takeFrameStart {P : Report → Prop} (hP : AllowsBlocks P) (hslip : P (occurrence .frameSlip 0)) (s : State)
    (hfade : ∀ c, (countedAt s).get c = true → ∀ e, P { kind := .fadeAlarm, index := c.toNat, edge := some e })
    (hsig : ∀ c, (missingAt s).get c = true → ∀ e, P { kind := .sigLost, index := c.toNat, edge := some e })
    (hfadeLeft : ∀ c, commitDue s = true → enableChanges s.working (stagedAsWorking s.staged) c = true →
      ((worked n order s).est.get c).fade = true → ∀ e, P { kind := .fadeAlarm, index := c.toNat, edge := some e })
    (hsigLeft : ∀ c, commitDue s = true → enableChanges s.working (stagedAsWorking s.staged) c = true →
      ((worked n order s).sig.get c).lost = true → ∀ e, P { kind := .sigLost, index := c.toNat, edge := some e }) :
    Reported P s.events (takeFrameStart n order s).events := by
  cases hl : s.port.link with
  | running =>
    have hadopt : Reported P s.events (adopted n s).events := by
      unfold adopted
      split
      · exact .refl _
      · unfold adoptFrame
        dsimp only
        split
        · exact .refl _
        · exact reported_report (s := s) (rs := [occurrence .frameSlip 0]) fun r hr => by
            rw [List.mem_singleton.1 hr]
            exact hslip
    exact hadopt.trans (reported_from_adopted hP n order hl hfade hsig hfadeLeft hsigLeft)
  | frameLost =>
    have hleft : Reported P s.events (restoredPort n s).events := by
      rw [restoredPort_events]
      exact reported_latchAll (fun r hr => by rw [List.mem_singleton.1 hr]; exact hP _ (by simp [OfBlocks])) _ _
    have hready : Reported P (restoredPort n s).events (readied n order s).events := by
      rw [readied_lost n order s hl, restored_events]
      exact reported_mapperWork hP (graceWork (restoredPort n s))
    exact (((hleft.trans (hready.trans (reported_worked hP n order s))).trans
      (reported_laned hP n order s hfadeLeft hsigLeft)).trans (reported_blocked hP n order s)).trans
      (reported_tail n order s hfade hsig)

theorem grows_worked (s : State) : Grows s.events (worked n order s).events := by
  cases hl : s.port.link with
  | running =>
    exact (((grows_adopted n s).trans (grows_found n order hl)).trans (reported_readied allowsBlocks_true n order s hl)).trans
      (reported_worked allowsBlocks_true n order s)
  | frameLost =>
    have hleft : Grows s.events (restoredPort n s).events := by
      rw [restoredPort_events]
      exact reported_latchAll (fun _ _ => trivial) _ _
    have hready : Grows (restoredPort n s).events (readied n order s).events := by
      rw [readied_lost n order s hl, restored_events]
      exact reported_mapperWork allowsBlocks_true (graceWork (restoredPort n s))
    exact (hleft.trans hready).trans (reported_worked allowsBlocks_true n order s)

/-! ### A carrier that is not counted -/

theorem not_counted_of_changed {c : Carrier} (hne : s.enabled c ≠ (takeFrameStart n order s).enabled c) :
    (countedAt s).get c = false := by
  cases hl : s.port.link with
  | running =>
    refine Bool.eq_false_iff.2 fun hc => ?_
    obtain ⟨-, h1, h2⟩ := (countedAt_iff n order s hl c).1 hc
    rw [h1, h2] at hne
    exact hne rfl
  | frameLost =>
    rw [(countedAt_of_not_running (frameRunning_of_lost hl)).1]
    exact Four.get_fill ..

theorem uncounted_own {c : Carrier} (hc : (countedAt s).get c = false) :
    SameAt c (blocked n order s) (takeFrameStart n order s) := by
  have hm : (missingAt s).get c = false := by
    rw [missingAt_get, hc]
    rfl
  have hone (time : HandoverTime) : handOne order (countedAt s) (missingAt s) time c (blocked n order s) = blocked n order s :=
    handOne_none (fun h => by rw [hc] at h; cases h) hm
  have h := takeFrameStart_own n order s c
  rw [hone, hone] at h
  exact h

theorem uncounted_found {c : Carrier} (hc : (countedAt s).get c = false) :
    (worked n order s).est.get c = s.est.get c ∧ (worked n order s).sig.get c = s.sig.get c := by
  have e1 : (worked n order s).est.get c = (found n order s).est.get c := by rw [← readied_est n order s]; rfl
  have e2 : (worked n order s).sig.get c = (found n order s).sig.get c := by rw [← readied_sig n order s]; rfl
  rw [e1, e2]
  cases hl : s.port.link with
  | running =>
    have hm : (missingAt s).get c = false := by
      rw [missingAt_get, hc]
      rfl
    have h := found_own n order s hl c
    rw [handOne_none (fun h => by rw [hc] at h; cases h) hm] at h
    rw [h.est, h.sig, adopted_est, adopted_sig]
    exact ⟨rfl, rfl⟩
  | frameLost =>
    rw [found_lost n order s hl]
    exact ⟨rfl, rfl⟩

/-! ### What the frame start shows of its commit -/

variable (hdue : commitDue s = true)
include hdue

theorem frameCommit_shown : Shown (commitWork n (worked n order s)) (takeFrameStart n order s) := by
  have hkeep := takeFrameStart_keeps n order s
  have hlaned := laned_commit n order s hdue
  have hworking : (blocked n order s).working = (laned n order s).working := rfl
  obtain ⟨t, ht, -, hout, -⟩ := frameStartDeliversSettingsAndFields n order s
  obtain rfl : takeFrameStart n order s = t := by
    rw [exec_frameStart] at ht
    exact Host.Outcome.next.inj ht
  rw [← hlaned]
  exact
    { working := hkeep.working
      staged := hkeep.staged
      applyPending := hkeep.applyPending
      mapper := hkeep.mapper
      fault := hkeep.fault
      intake := hkeep.intake
      announcement := hkeep.announcement
      txActive := hkeep.txActive
      link := hkeep.link
      carriers := hkeep.carriers
      watch := by
        rw [takeFrameStart_eq]
        exact frameTail_watch ..
      muted := fun c hoff => by
        refine ⟨?_, Option.not_isSome_iff_eq_none.1 (by rw [hout, hoff]; decide)⟩
        have hen : (laned n order s).enabled c = false := by
          rw [State.enabled_eq, ← hworking, ← hkeep.working]
          exact hoff
        rw [takeFrameStart_eff, blocked_pcu, hen]
        rfl
      grows := grows_from_laned n order s }

theorem frameCommit_shownAt {c : Carrier} (h : SameAt c (blocked n order s) (takeFrameStart n order s)) :
    ShownAt c (commitWork n (worked n order s)) (takeFrameStart n order s) := by
  rw [← laned_commit n order s hdue]
  have hpcu := blocked_pcu n order s c
  exact ⟨h.est, h.rau, h.sig, h.lane, by rw [h.pcu, hpcu], by rw [h.pcu, hpcu], by rw [h.pcu, hpcu]⟩

theorem frameCommit_working : (takeFrameStart n order s).working = stagedAsWorking s.staged := by
  rw [takeFrameStart_working, hdue]
  rfl

theorem frameCommit_enabled (c : Carrier) : (takeFrameStart n order s).enabled c = (s.staged.carriers.get c).enable := by
  rw [takeFrameStart_enabled]
  exact if_pos hdue

theorem frameCommit_changes {c : Carrier} (hne : s.enabled c ≠ (takeFrameStart n order s).enabled c) :
    enableChanges s.working (stagedAsWorking s.staged) c = true := by
  rw [enableChanges_iff, ← frameCommit_enabled n order hdue]
  exact hne

theorem frameCommit_conditionsLeft {c : Carrier} (hne : s.enabled c ≠ (takeFrameStart n order s).enabled c) :
    ConditionsLeft c s (takeFrameStart n order s) := by
  have hc := not_counted_of_changed n order hne
  obtain ⟨hest, hsig⟩ := uncounted_found n order hc
  have hchange : enableChanges (worked n order s).working (stagedAsWorking (worked n order s).staged) c = true := by
    rw [worked_working, worked_staged]
    exact frameCommit_changes n order hdue hne
  obtain ⟨hfadeLeft, -, hsigLeft, -⟩ := commitWork_conditionsLeft n (worked n order s) hchange
  have hafter := (frameCommit_shown n order hdue).grows
  have hnot {d : Carrier} (hd : (countedAt s).get d = true) : d.toNat ≠ c.toNat := fun e => by
    rw [Carrier.toNat_inj e, hc] at hd
    cases hd
  rw [hest] at hfadeLeft
  rw [hsig] at hsigLeft
  refine ⟨fun h => hafter.after ((grows_worked n order s).before (hfadeLeft h)), fun h => ?_,
    fun h => hafter.after ((grows_worked n order s).before (hsigLeft h)), fun h => ?_⟩
  · refine (reported_takeFrameStart (P := fun r => r.kind ≠ .fadeAlarm ∨ r.index ≠ c.toNat) n order (fun r hr => .inl hr.1)
      (.inl (by decide)) s (fun d hd e => .inr (hnot hd)) (fun d _ e => .inl (by simp)) (fun d _ _ hd e => .inr fun hi => ?_)
      fun d _ _ _ e => .inl (by simp)).latched_eq
    rw [Carrier.toNat_inj hi, hest, h] at hd
    cases hd
  · refine (reported_takeFrameStart (P := fun r => r.kind ≠ .sigLost ∨ r.index ≠ c.toNat) n order (fun r hr => .inl hr.2.1)
      (.inl (by decide)) s (fun d _ e => .inl (by simp)) (fun d hd e => .inr (hnot (missing_counted hd)))
      (fun d _ _ _ e => .inl (by simp)) fun d _ _ hd e => .inr fun hi => ?_).latched_eq
    rw [Carrier.toNat_inj hi, hsig, h] at hd
    cases hd

/-- The grace of a carrier that the commit disables (R50). -/
theorem frameCommit_grace_off {c : Carrier} (hon : s.enabled c = true) (hoff : (takeFrameStart n order s).enabled c = false) :
    (takeFrameStart n order s).monitor.grace.get c = 0 := by
  rw [takeFrameStart_grace, if_neg, laned_grace, if_neg (by rw [hoff]; simp), if_pos ⟨hdue, hon, hoff⟩]
  rintro ⟨hj, rfl, -⟩
  obtain ⟨-, -, -, h⟩ := (frameJudges_iff n order s).1 hj
  rw [hoff] at h
  cases h

theorem frameCommit_taken {table : List ProfileRecord} (htable : stagedTable s.staged = some table)
    (ha : ∀ a ∈ s.lane.announcement, a.count ≤ 1) : CommitTaken n table s (takeFrameStart n order s) :=
  commitTaken_of htable (worked_idle n order ha) (worked_working n order s) (worked_staged n order s)
    (frameCommit_shown n order hdue)
    (fun _ hne => frameCommit_shownAt n order hdue (uncounted_own n order (not_counted_of_changed n order hne)))
    (grows_worked n order s) (fun _ hne => frameCommit_conditionsLeft n order hdue hne)
    fun _ hon hoff => frameCommit_grace_off n order hdue hon hoff

theorem frameCommit_maps (ha : ∀ a ∈ s.lane.announcement, a.count ≤ 1) :
    MapsConformed s (takeFrameStart n order s) (loadedPlacement s) := by
  have hshown := frameCommit_shown n order hdue
  rw [← worked_loaded n order]
  exact mapsConformed_of (worked_idle n order ha) (worked_working n order s) (worked_staged n order s)
    (frameCommit_working n order hdue) hshown.mapper hshown.txActive (grows_worked n order s) hshown.grows

/-! ### The Branch Monitor -/

theorem frameCommit_branchFault {c : Carrier} {side : Side} (hold : (s.params c).excludes side = false)
    (hnew : ((takeFrameStart n order s).params c).excludes side = true)
    (hb : ((s.monitor.branches.get c).get side).health = .faulted) :
    LatchedAfter s.events (takeFrameStart n order s).events .branchFault (branchIndex c side) (some .leave) := by
  have hold' : ((worked n order s).params c).excludes side = false := by
    rw [State.params_eq, worked_working]
    exact hold
  have hnew' : ((stagedAsWorking (worked n order s).staged).carriers.get c).excludes side = true := by
    rw [State.params_eq, frameCommit_working n order hdue] at hnew
    rw [worked_staged]
    exact hnew
  have hbranch : (((worked n order s).monitor.branches.get c).get side).health = .faulted := by
    rw [worked_monitor]
    exact hb
  exact (frameCommit_shown n order hdue).grows.after
    ((grows_worked n order s).before (commitWork_branchFault n hold' hnew' hbranch))

/-- The branch of the slot, judged as the frame start finds it after the exclusion. -/
theorem frameSample_of_commit (hj : frameJudges n order s = true) : frameSample n order s =
    sampleBranch (takeFrameStart n order s).working.link (badSample (takeFrameStart n order s).working.link n
      ((s.intake.get s.monitor.scanCarrier).records.get s.monitor.scanSide))
      (exclusionTaken ((s.params s.monitor.scanCarrier).excludes s.monitor.scanSide)
        (((takeFrameStart n order s).params s.monitor.scanCarrier).excludes s.monitor.scanSide)
        ((s.monitor.branches.get s.monitor.scanCarrier).get s.monitor.scanSide)) := by
  obtain ⟨-, hrun, hon, hon'⟩ := (frameJudges_iff n order s).1 hj
  have hl : s.port.link = .running := by
    cases hl : s.port.link with
    | running => rfl
    | frameLost => rw [frameRunning_of_lost hl] at hrun; cases hrun
  have hintake : (laned n order s).intake.get s.monitor.scanCarrier = s.intake.get s.monitor.scanCarrier := by
    have e : (worked n order s).intake = s.intake := readied_intake n order s hl
    rw [laned_commit n order s hdue, commitWork_intake, if_neg, e]
    rw [enableChanges_iff, worked_staged, State.enabled_eq, worked_working, ← frameCommit_enabled n order hdue, hon',
      ← State.enabled_eq, hon]
    exact fun h => h rfl
  have hw : (takeFrameStart n order s).working = (laned n order s).working := (takeFrameStart_keeps n order s).working
  unfold frameSample slotSample
  rw [(laned_position n order s).1, (laned_position n order s).2, hintake, laned_branches, excludeBranch_taken, hw]

theorem frameCommit_monitor :
    let t := takeFrameStart n order s
    let scanned (c : Carrier) (side : Side) (b : BranchState) :=
      s.port.link = .running ∧ s.port.current.isSome = true ∧ c = s.monitor.scanCarrier ∧
        side = s.monitor.scanSide ∧ s.enabled c = true ∧ t.enabled c = true ∧ b.health ≠ .excluded
    let sample (c : Carrier) (side : Side) (b : BranchState) :=
      sampleBranch t.working.link (badSample t.working.link n ((s.intake.get c).records.get side)) b
    MonitorCommitted s t (fun c side b => if scanned c side b then (sample c side b).1 else b)
      (fun c =>
        let side := s.monitor.scanSide
        let b := exclusionTaken ((s.params c).excludes side) ((t.params c).excludes side)
          ((s.monitor.branches.get c).get side)
        if scanned c side b ∧ (sample c side b).2.isSome = true then t.working.link.pauseGrace
        else s.monitor.grace.get c - 1) := by
  intro t scanned sample
  have hrunning : s.frameRunning = true ↔ s.port.link = .running ∧ s.port.current.isSome = true := by
    simp [State.frameRunning]
  have hjudges := frameJudges_iff n order s
  rw [excludeBranch_taken, hrunning] at hjudges
  have hscanned (c : Carrier) (side : Side) :
      (frameJudges n order s = true ∧ c = s.monitor.scanCarrier ∧ side = s.monitor.scanSide) ↔
      scanned c side (exclusionTaken ((s.params c).excludes side) ((t.params c).excludes side)
        ((s.monitor.branches.get c).get side)) := by
    constructor
    · rintro ⟨hj, rfl, rfl⟩
      obtain ⟨h1, ⟨h2, h3⟩, h4, h5⟩ := hjudges.1 hj
      exact ⟨h2, h3, rfl, rfl, h4, h5, h1⟩
    · rintro ⟨h2, h3, rfl, rfl, h4, h5, h1⟩
      exact ⟨hjudges.2 ⟨h1, ⟨h2, h3⟩, h4, h5⟩, rfl, rfl⟩
  refine ⟨fun c side => ?_, fun c side hold hnew hb => frameCommit_branchFault n order hdue hold hnew hb, fun c => ?_⟩
  · rw [takeFrameStart_branches, excludeBranch_taken]
    by_cases h : frameJudges n order s = true ∧ c = s.monitor.scanCarrier ∧ side = s.monitor.scanSide
    · rw [if_pos h]
      refine Eq.trans ?_ (if_pos ((hscanned c side).1 h)).symm
      obtain ⟨hj, rfl, rfl⟩ := h
      rw [frameSample_of_commit n order hdue hj]
    · rw [if_neg h]
      exact (if_neg fun hs => h ((hscanned c side).2 hs)).symm
  · have hgrace : t.monitor.grace.get c = _ := takeFrameStart_grace n order s c
    rw [hgrace, laned_grace]
    simp only [hdue, true_and, changesBranches_iff]
    by_cases hch : s.enabled c = true ∧ t.enabled c = true ∧ ((s.params c).mode ≠ (t.params c).mode ∨
        (s.params c).excludes .a ≠ (t.params c).excludes .a ∨ (s.params c).excludes .b ≠ (t.params c).excludes .b)
    · rw [if_pos hch, if_pos hch, ite_self]
    · rw [if_neg hch, if_neg hch]
      by_cases hoff : s.enabled c = true ∧ t.enabled c = false
      · rw [if_pos hoff, if_pos hoff, if_neg]
        rintro ⟨hj, rfl, -⟩
        obtain ⟨-, -, -, h5⟩ := hjudges.1 hj
        exact absurd (hoff.2.symm.trans h5) (by decide)
      · rw [if_neg hoff, if_neg hoff]
        have hside := hscanned c s.monitor.scanSide
        by_cases hj : frameJudges n order s = true ∧ c = s.monitor.scanCarrier ∧ (frameSample n order s).2.isSome = true
        · rw [if_pos hj]
          obtain ⟨h1, rfl, h3⟩ := hj
          rw [frameSample_of_commit n order hdue h1] at h3
          exact (if_pos ⟨hside.1 ⟨h1, rfl, rfl⟩, h3⟩).symm
        · rw [if_neg hj]
          refine (if_neg ?_).symm
          rintro ⟨hs, h3⟩
          obtain ⟨h1, rfl, -⟩ := hside.2 hs
          refine hj ⟨h1, rfl, ?_⟩
          rw [frameSample_of_commit n order hdue h1]
          exact h3
end

end Sys2Proof.Machine
end

section
/-! The carriers that a FRAME_START with a commit carries over: O46. -/
namespace Sys2Proof.Machine

/-! ### The earlier work of the frame start, on the items of the state before it -/

theorem PowerCarrier.ext_items {x y : PowerCarrier} (hatpc : x.atpc = y.atpc) (hperiod : x.period = y.period)
    (heff : x.eff = y.eff) (hshadow : x.shadow = y.shadow) : x = y := by
  cases x
  cases y
  simp_all only

theorem powerShadowTick_eq (x : PowerCarrier) : (powerShadowTick (periodTick x)).1 = { x with
    period := x.period - 1
    shadow := x.shadow.bind fun sh =>
      if sh.remaining ≤ 1 then none else some { sh with remaining := sh.remaining - 1 } } := by
  obtain ⟨hatpc, hperiod, heff, -⟩ := powerShadowTick_same (periodTick x)
  exact PowerCarrier.ext_items hatpc hperiod heff (powerShadowTick_shadow (periodTick x))

/-- The items that the work of a frame start before its commit leaves where nothing is handed over. -/
def frameWorkedItems (s : State) : State :=
  { s with
    rau := .ofFn fun c => (rxFrameWork (frameEnv s c) (s.rau.get c)).1
    lane := (laneCountdown s.working s.lane).1
    pcu := .ofFn fun c => (powerShadowTick (periodTick (s.pcu.get c))).1 }

theorem frameWorkedItems_worked {s : State} (ha : ∀ a ∈ s.lane.announcement, a.count ≤ 1) :
    FrameWorked s (frameWorkedItems s) := by
  refine ⟨rfl, laneCountdown_idles ha, fun c => Four.get_ofFn .., fun c => ?_, fun c => ⟨fun a m hs hm => ?_, fun hno => ?_⟩⟩
  · exact (Four.get_ofFn ..).trans (powerShadowTick_eq _)
  · have e : (frameWorkedItems s).lane = (laneSwitch s.working a s.lane).1 := by
      rw [← laneCountdown_due hs (ha a hs)]
      rfl
    rw [e]
    exact laneSwitch_rechecked hm
  · cases hs : s.lane.announcement with
    | none =>
      have e : (frameWorkedItems s).lane = s.lane :=
        congrArg (fun r : Lane × List Report => r.1) (laneCountdown_none hs)
      rw [e]
    | some a =>
      have e : (frameWorkedItems s).lane = (laneSwitch s.working a s.lane).1 := by
        rw [← laneCountdown_due hs (ha a hs)]
        rfl
      rw [e]
      exact laneSwitch_other (hno a hs)

/-- A carrier's items after the countdown rest on its own and on the announcement. -/
theorem laneCountdown_get_congr {w : WorkingSet} {l k : Lane} {c : Carrier} (ha : k.announcement = l.announcement)
    (hc : k.carriers.get c = l.carriers.get c) :
    (laneCountdown w k).1.carriers.get c = (laneCountdown w l).1.carriers.get c := by
  cases h : l.announcement with
  | none => rw [laneCountdown_none h, laneCountdown_none (ha.trans h), hc]
  | some a =>
    by_cases hcount : a.count ≤ 1
    · rw [laneCountdown_due h hcount, laneCountdown_due (ha.trans h) hcount, laneSwitch_get, laneSwitch_get, hc]
    · rw [laneCountdown_counts h (by omega), laneCountdown_counts (ha.trans h) (by omega)]
      exact hc

section
variable (n : FrameNo) (order : FrameOrder) {s : State} (hl : s.port.link = .running) {c : Carrier}
include hl

/-- A carrier for which nothing is handed over is moved by the blocks' work alone. -/
theorem commitQuiet_own (hdue : commitDue s = true) (hq : CommitQuiet s c) :
    SameAt c (adopted n s) (found n order s) ∧ SameAt c (blocked n order s) (takeFrameStart n order s) := by
  have hloss : (takeFrameStart n order s).working.link.reportLoss = s.staged.link.reportLoss := by
    rw [frameCommit_working n order hdue]
    rfl
  rcases hq with hcur | ⟨hfield, h1, h2⟩
  · have hc : (countedAt s).get c = false := by
      rw [countedAt_get s hl, hcur]
      rfl
    refine quiet_own n order hl c (fun h => ?_) ?_
    · rw [hc] at h
      cases h
    · rw [missingAt_get, hc]
      rfl
  · refine quiet_own n order hl c (fun _ => ⟨h1, hloss ▸ h2⟩) ?_
    rw [missingAt_get, hfield, Bool.not_true, Bool.and_false]

theorem worked_quiet (h : SameAt c (adopted n s) (found n order s)) :
    (frameWorkedItems s).rau.get c = (worked n order s).rau.get c ∧
    (frameWorkedItems s).lane.carriers.get c = (worked n order s).lane.carriers.get c ∧
    (frameWorkedItems s).pcu.get c = (worked n order s).pcu.get c ∧
    (frameWorkedItems s).sig.get c = (worked n order s).sig.get c := by
  refine ⟨?_, ?_, ?_, ?_⟩
  · rw [worked_rau n order hl, h.rau, adopted_rau]
    exact Four.get_ofFn ..
  · rw [worked_lane]
    refine (laneCountdown_get_congr ?_ ?_).symm
    · exact readied_lane_announcement n order s
    · rw [readied_lane n order hl, h.lane, adopted_lane]
  · have e : (worked n order s).pcu.get c = (readied n order s).pcu.get c := rfl
    rw [e, readied_pcu n order s hl, h.pcu, adopted_pcu]
    exact Four.get_ofFn ..
  · have e : (worked n order s).sig = (readied n order s).sig := rfl
    rw [e, readied_sig, h.sig, adopted_sig]
    rfl

theorem worked_fault : (worked n order s).fault = s.fault := readied_fault n order s hl

theorem worked_link : (worked n order s).port.link = .running :=
  (congrArg Port.link (readied_port n order s hl)).trans (adopted_link n s hl)
end

/-! ### The profile and the armed switch of a carrier carried over -/

theorem commitWork_switching (n : FrameNo) {w : State} {c : Carrier} (hon : w.enabled c = true)
    (hon' : (w.staged.carriers.get c).enable = true) :
    (((commitWork n w).rau.get c).active < (stagedAsWorking w.staged).length ∨ ((commitWork n w).rau.get c).active = 0) ∧
    ∀ armed ∈ ((commitWork n w).rau.get c).armed, armed.next < (stagedAsWorking w.staged).length := by
  have hen : (committedLane w).enabled c = true := hon'
  have hparts : (((commitParts n w).rau.get c).active < (stagedAsWorking w.staged).length ∨
      ((commitParts n w).rau.get c).active = 0) ∧
      ∀ armed ∈ ((commitParts n w).rau.get c).armed, armed.next < (stagedAsWorking w.staged).length := by
    have hlen : (rxEnv (committedLane w) c).table.length = (stagedAsWorking w.staged).length := rfl
    rw [commitParts_rau, hon, hen, rxCommit_stays_same]
    dsimp only
    rw [hlen]
    refine ⟨?_, fun armed h => ?_⟩
    · split
      · exact .inr rfl
      · exact .inl (by omega)
    · have := (Option.filter_eq_some_iff.1 h).2
      simpa using this
  rcases commitWork_rau n w c with e | e
  · rw [e]
    exact hparts
  · rw [e, cancelRequest_same]
    exact hparts

theorem frameCommit_sameSwitching (n : FrameNo) (order : FrameOrder) {s : State} (hdue : commitDue s = true) (c : Carrier) :
    SameSwitching ((commitWork n (worked n order s)).rau.get c) ((takeFrameStart n order s).rau.get c) := by
  have e : (blocked n order s).rau = (laned n order s).rau := rfl
  rw [(takeFrameStart_own n order s c).rau, ← laned_commit n order s hdue, ← e]
  exact (handOne_sameSwitching ..).trans (handOne_sameSwitching ..)

/-- Settles O46: the row in `commitRow_commits`; the frame start makes the same commit (`laned_commit`) from the items
that its earlier work leaves. -/
theorem commitPutsTheStagedSetInForce : Obligations.CommitPutsTheStagedSetInForce := by
  refine ⟨commitRow_commits, fun s => execCommit_idle, fun n order s table hp ha htable => ?_⟩
  have hdue := commitDue_of_idle hp ha
  have hshown := frameCommit_shown n order hdue
  have hworking := frameCommit_working n order hdue
  have hworking' : (takeFrameStart n order s).working = stagedAsWorking (worked n order s).staged := by
    rw [worked_staged, hworking]
  have hen {c : Carrier} (hon : s.enabled c = true) : (worked n order s).enabled c = true := by
    rw [State.enabled_eq, worked_working]
    exact hon
  have hen' {c : Carrier} (hon : (takeFrameStart n order s).enabled c = true) :
      ((worked n order s).staged.carriers.get c).enable = true := by
    rw [worked_staged, ← frameCommit_enabled n order hdue, hon]
  refine ⟨_, exec_frameStart n order s, frameCommit_taken n order hdue htable ha, frameCommit_maps n order hdue ha, ?_,
    frameCommit_monitor n order hdue, fun c hon hon' => ?_, fun hl => ?_⟩
  · rw [hshown.announcement, commitWork_announcement n _ (worked_idle n order ha)]
  · have hsame := frameCommit_sameSwitching n order hdue c
    rw [hsame.active, hsame.armed, hworking']
    exact commitWork_switching n (hen hon) (hen' hon')
  · have hlink := worked_link n order hl
    have hfault := worked_fault n order hl
    have hdemand : abortDemand (worked n order s) = abortDemand s :=
      abortDemand_congr (worked_working n order s) (congrArg Supervisor.faultLevel hfault)
        (congrArg Supervisor.farFault hfault)
    have hraises := raises_iff_shown hshown
    rw [hdemand, hfault] at hraises
    have hgrows := grows_worked n order s
    refine ⟨fun hno => ?_, fun hr => ?_, frameWorkedItems s, frameWorkedItems_worked ha, fun c hon hon' hq => ?_,
      fun hr hq => ?_⟩
    · have h := commitWork_unraised_fault n (worked n order s) fun h => hno (hraises.2 h)
      rw [hshown.fault, ← hfault]
      exact h
    · obtain ⟨h1, h2, h3⟩ := raised_shown (hraises.1 hr) hshown
      exact ⟨h1, hgrows.before h2, h3⟩
    · obtain ⟨hfound, hown⟩ := commitQuiet_own n order hl hdue hq
      obtain ⟨hrau, hlane, hpcu, hsig⟩ := worked_quiet n order hl hfound
      have hat := frameCommit_shownAt n order hdue hown
      have hparams : (frameWorkedItems s).params c = (worked n order s).params c := by
        rw [State.params_eq (s := worked n order s), worked_working]
        rfl
      have hstate : (frameWorkedItems s).fault.state = (worked n order s).fault.state := by
        rw [hfault]
        rfl
      exact ⟨rxCarriedOver_of (hen hon) (hen' hon') hworking' hraises hat hrau hgrows hshown.grows,
        txCarriedOver_of (hen hon) (hen' hon') hworking' hraises hat hlane,
        powerCarriedOver_of (hen hon) (hen' hon') hworking' hraises hat (worked_idle n order ha) hpcu hparams hsig hstate⟩
    · have hat (c : Carrier) := frameCommit_shownAt n order hdue (commitQuiet_own n order hl hdue (hq c)).2
      refine ⟨_, _, abortEffect_of (hraises.1 hr) hlink hshown hat, fun c hon hon' => ?_⟩
      obtain ⟨-, hlane, -⟩ := worked_quiet n order hl (commitQuiet_own n order hl hdue (hq c)).1
      exact txCarriedOver_parts (n := n) (v := abortFound n (worked n order s) (takeFrameStart n order s)) (hen hon)
        (hen' hon') hworking' rfl hlane _

end Sys2Proof.Machine
end

section
/-! Where the pieces of a reply stand: `BytesAt`, pieces joined, items of one width, and padding (11.6). -/
namespace Sys2Proof.Machine

/-! ### Bytes at a place -/

theorem bytesAt_trans {xs ys zs : List Byte} {i j : Nat} (hy : BytesAt xs i ys) (hz : BytesAt ys j zs) :
    BytesAt xs (i + j) zs := by
  have hlen : min zs.length (ys.length - j) = zs.length := by
    have h := congrArg List.length hz
    have hdrop : (ys.drop j).length = ys.length - j := List.length_drop
    rwa [List.length_take, hdrop] at h
  have hcut : ys.drop j = ((xs.drop i).take ys.length).drop j := congrArg (List.drop j) hy.symm
  calc (xs.drop (i + j)).take zs.length
      = (((xs.drop i).drop j).take (ys.length - j)).take zs.length := by
        rw [List.take_take, hlen, List.drop_drop]
    _ = zs := by rw [← List.drop_take, ← hcut]; exact hz

/-- `bytesAt_trans` at a place that is given. -/
theorem bytesAt_within {xs ys zs : List Byte} {i j k : Nat} (hy : BytesAt xs i ys) (hz : BytesAt ys j zs) (hk : i + j = k) :
    BytesAt xs k zs := hk ▸ bytesAt_trans hy hz

theorem bytesAt_self (xs : List Byte) : BytesAt xs 0 xs := List.take_length

theorem bytesAt_middle (xs ys zs : List Byte) : BytesAt (xs ++ (ys ++ zs)) xs.length ys := by
  rw [BytesAt, List.drop_left, List.take_left]

theorem bytesAt_after (xs ys : List Byte) : BytesAt (xs ++ ys) xs.length ys := by
  rw [BytesAt, List.drop_left, List.take_length]

theorem bytesAt_append {xs ys : List Byte} {i : Nat} (h : BytesAt xs i ys) (zs : List Byte) : BytesAt (xs ++ zs) i ys := by
  have hx : BytesAt (xs ++ zs) 0 xs := bytesAt_middle [] xs zs
  simpa using bytesAt_trans hx h

theorem getElem?_of_bytesAt {xs : List Byte} {i : Nat} {b : Byte} (h : BytesAt xs i [b]) : xs[i]? = some b := by
  have h0 := congrArg (·[0]?) h
  simpa using h0

theorem bytesAt_join {xs ys zs : List Byte} {i : Nat} (hy : BytesAt xs i ys) (hz : BytesAt xs (i + ys.length) zs) :
    BytesAt xs i (ys ++ zs) := by
  have hy' : (xs.drop i).take ys.length = ys := hy
  have hz' : ((xs.drop i).drop ys.length).take zs.length = zs := by rw [List.drop_drop]; exact hz
  rw [BytesAt, List.length_append, List.take_add, hy', hz']

/-- Pieces joined: piece k stands after the pieces before it. -/
theorem bytesAt_flatten {pieces : List (List Byte)} {k : Nat} {piece : List Byte} (h : pieces[k]? = some piece) :
    BytesAt pieces.flatten ((pieces.map List.length).take k).sum piece := by
  obtain ⟨hk, rfl⟩ := List.getElem?_eq_some_iff.1 h
  have hsplit : pieces.flatten = (pieces.take k).flatten ++ (pieces[k] ++ (pieces.drop (k + 1)).flatten) := by
    rw [← List.flatten_cons, ← List.drop_eq_getElem_cons hk, ← List.flatten_append, List.take_append_drop]
  rw [hsplit, ← List.map_take, ← List.length_flatten]
  exact bytesAt_middle _ _ _

/-! ### Items of one width -/

section
variable {α : Type} {f : α → List Byte} {w : Nat} (hw : ∀ a, (f a).length = w)
include hw

theorem length_flatMap_of_width (l : List α) : (l.flatMap f).length = w * l.length := by
  induction l with
  | nil => rfl
  | cons a l ih => rw [List.flatMap_cons, List.length_append, hw, ih, List.length_cons, Nat.mul_succ, Nat.add_comm]

theorem bytesAt_flatMap {l : List α} {j : Nat} {a : α} (h : l[j]? = some a) : BytesAt (l.flatMap f) (w * j) (f a) := by
  have hpiece : (l.map f)[j]? = some (f a) := by rw [List.getElem?_map, h]; rfl
  have hj : j < l.length := (List.getElem?_eq_some_iff.1 h).1
  have hsum : (((l.map f).map List.length).take j).sum = w * j := by
    rw [List.map_map, (List.map_congr_left fun a _ => hw a : l.map (List.length ∘ f) = l.map fun _ => w), List.map_const',
      List.take_replicate, Nat.min_eq_left hj.le, List.sum_replicate_nat, Nat.mul_comm]
  rw [← hsum, List.flatMap_def]
  exact bytesAt_flatten hpiece

end

/-! ### Padding -/

theorem length_padTo (n : Nat) (bytes : List Byte) : (padTo n bytes).length = n := by simp [padTo]

theorem padTo_nil (n : Nat) : padTo n [] = List.replicate n 0 := by simp [padTo]

theorem bytesAt_take {xs ys : List Byte} {i n : Nat} (h : BytesAt xs i ys) (hn : i + ys.length ≤ n) :
    BytesAt (xs.take n) i ys := by
  rw [BytesAt, List.drop_take, List.take_take, Nat.min_eq_left (by omega)]
  exact h

theorem bytesAt_replicate {n i w : Nat} (h : i + w ≤ n) : BytesAt (List.replicate n 0) i (List.replicate w 0) := by
  rw [BytesAt, List.drop_replicate, List.take_replicate, List.length_replicate, Nat.min_eq_left (by omega)]

/-- Slots of one width: slot j shows item j, and is 0 past the last item. -/
theorem bytesAt_padTo {α : Type} {f : α → List Byte} {w : Nat} (hw : ∀ a, (f a).length = w) (l : List α) {m j : Nat}
    (hj : j < m) : BytesAt (padTo (w * m) (l.flatMap f)) (w * j) (match l[j]? with
      | some a => f a
      | none => List.replicate w 0) := by
  have hfit : w * j + w ≤ w * m := by rw [← Nat.mul_succ]; exact Nat.mul_le_mul_left w hj
  cases h : l[j]? with
  | some a => exact bytesAt_take (bytesAt_append (bytesAt_flatMap hw h) _) ((congrArg (w * j + ·) (hw a)).trans_le hfit)
  | none =>
    have hlen : (l.flatMap f).length ≤ w * j := by
      rw [length_flatMap_of_width hw]
      exact Nat.mul_le_mul_left w (List.getElem?_eq_none_iff.1 h)
    have hzeros : BytesAt (l.flatMap f ++ List.replicate (w * m) 0) (w * j) (List.replicate w 0) := by
      have hinner : BytesAt (List.replicate (w * m) 0) (w * j - (l.flatMap f).length) (List.replicate w 0) :=
        bytesAt_replicate (by omega)
      have h0 := bytesAt_trans (bytesAt_after (l.flatMap f) (List.replicate (w * m) 0)) hinner
      rwa [Nat.add_sub_cancel' hlen] at h0
    exact bytesAt_take hzeros (by rw [List.length_replicate]; exact hfit)

/-! ### Lists over the carriers and the classes -/

theorem carrierAll_getElem? (c : Carrier) : Carrier.all[c.toNat]? = some c := by cases c <;> rfl

theorem clsAll_getElem? (k : Cls) : Cls.all[k.toNat]? = some k := by cases k <;> rfl

section
variable {w : Nat}

theorem bytesAt_carriers {f : Carrier → List Byte} (hw : ∀ c, (f c).length = w) (c : Carrier) :
    BytesAt (Carrier.all.flatMap f) (w * c.toNat) (f c) := bytesAt_flatMap hw (carrierAll_getElem? c)

theorem bytesAt_classes {f : Cls → List Byte} (hw : ∀ k, (f k).length = w) (k : Cls) :
    BytesAt (Cls.all.flatMap f) (w * k.toNat) (f k) := bytesAt_flatMap hw (clsAll_getElem? k)

theorem length_carriers {f : Carrier → List Byte} (hw : ∀ c, (f c).length = w) : (Carrier.all.flatMap f).length = w * 4 :=
  length_flatMap_of_width hw _

theorem length_classes {f : Cls → List Byte} (hw : ∀ k, (f k).length = w) : (Cls.all.flatMap f).length = w * 8 :=
  length_flatMap_of_width hw _

end

/-! ### Bytes of numbers, flags and codes -/

theorem setWidth_eq_byteOf {w : Nat} (x : BitVec w) : x.setWidth 8 = byteOf x.toNat := (BitVec.ofNat_toNat 8 x).symm

theorem bytes16_eq_frameBytes (n : Nat) : bytes16 n = frameBytes (BitVec.ofNat 16 n) := by
  have hhigh : byteOf (n / 256) = (BitVec.ofNat 16 n).extractLsb' 8 8 := by
    apply BitVec.eq_of_toNat_eq
    rw [byteOf, BitVec.extractLsb'_toNat, BitVec.toNat_ofNat, BitVec.toNat_ofNat, Nat.shiftRight_eq_div_pow]
    omega
  have hlow : byteOf n = (BitVec.ofNat 16 n).extractLsb' 0 8 := by
    apply BitVec.eq_of_toNat_eq
    rw [byteOf, BitVec.extractLsb'_toNat, BitVec.toNat_ofNat, BitVec.toNat_ofNat, Nat.shiftRight_zero]
    omega
  rw [bytes16, frameBytes, hhigh, hlow]

theorem flagByte_eq_flagCode (x : Bool) : flagByte x = flagCode x := rfl

theorem ansKind_byte (k : AnsKind) : k.code.setWidth 8 = ansKindCode k := by cases k <;> decide

theorem changeKind_byte (k : ChangeKind) : k.byte = changeKindCode k := by cases k <;> rfl

theorem request_byte (k : ReqKind) (seq : Seq) : k.code ++ seq ++ 0#3 = byteOf (64 * reqKindCode k + 8 * seq.toNat) := by
  revert seq
  cases k <;> decide

theorem abortSources_eq (l : LinkParams) : abortSources l =
    byteOf ((if l.abortOnLocal then 1 else 0) + if l.abortOnFar then 2 else 0) := by
  unfold abortSources
  generalize l.abortOnLocal = x
  generalize l.abortOnFar = y
  revert x y
  decide

theorem cause_bytes (cause : Option AbortCause) : causeBytes cause = match cause with
    | none => [0, 0xFF]
    | some .localFault => [1, 0xFF]
    | some (.far d) => [2, byteOf d.toNat]
    | some .host => [3, 0xFF] := by
  cases cause with
  | none => rfl
  | some cause => cases cause <;> rfl

theorem bits_bitsByte (x0 x1 x2 x3 x4 x5 x6 x7 : Bool) :
    (List.range 8).map (bitsByte [x0, x1, x2, x3, x4, x5, x6, x7]).getLsbD = [x0, x1, x2, x3, x4, x5, x6, x7] := by
  revert x0 x1 x2 x3 x4 x5 x6 x7
  decide

end Sys2Proof.Machine
end

section
/-! The replies that show the running state, piece by piece: O52 (R53, R97, R118, R141, R152, R167, R176). -/
namespace Sys2Proof.Machine

/-! ### READ_CARRIER -/

/-- The pieces of READ_CARRIER's payload. -/
def carrierPieces (s : State) (c : Carrier) : List (List Byte) :=
  let x := s.rau.get c
  let est := s.est.get c
  let sig := s.sig.get c
  let power := s.pcu.get c
  let free := Config.freeReplyByte s.freeCount
  [[Status.ok.code, byteOf c.toNat, (rxView x).byte, (txView (s.enabled c) s.lane c).byte, byteOf x.active,
      byteOf (s.txActive c)],
    estimateBytes est.est, [byteOf est.margin],
    [bitsByte [est.seeded, est.fade, x.hostPause, scanPauses s c, sig.lost, s.fault.farFault.get c,
      s.fault.faultLevel, s.fault.state = .aborted]],
    ((holdRemaining (rxEnv s c) x).map bytes16).getD [0xFF, 0xFF],
    [byteOf x.m, x.request.kind.code ++ x.request.seq ++ 0#3, (x.request.target.map byteOf).getD 0xFF],
    lastAnswerBytes free x.lastAnswer, [byteOf power.atpc, byteOf power.period, byteOf power.eff],
    shadowBytes free power.shadow, [byteOf sig.invalidRun, byteOf sig.validRun], lastValidBytes free sig.lastValid,
    causeBytes s.fault.cause, [abortSources s.working.link, flagByte (s.port.link = .frameLost)]]

theorem carrierPayload_eq (s : State) (c : Carrier) : carrierPayload s c = (carrierPieces s c).flatten := by
  unfold carrierPayload carrierPieces
  dsimp only
  cases holdRemaining (rxEnv s c) (s.rau.get c) <;> cases (s.rau.get c).request.target <;> simp [List.append_assoc]

theorem length_estimateBytes (e : Option Estimate) : (estimateBytes e).length = 6 := by cases e <;> rfl

theorem length_lastAnswerBytes (free : Nat → Byte) (a : Option Answer) : (lastAnswerBytes free a).length = 2 := by
  cases a <;> rfl

theorem length_shadowBytes (free : Nat → Byte) (sh : Option PowerShadow) : (shadowBytes free sh).length = 2 := by
  cases sh <;> rfl

theorem length_causeBytes (cause : Option AbortCause) : (causeBytes cause).length = 2 := by
  cases cause with
  | none => rfl
  | some cause => cases cause <;> rfl

theorem length_lastValidBytes (free : Nat → Byte) (v : Option TakenField) : (lastValidBytes free v).length = 8 := by
  cases v with
  | none => rfl
  | some v =>
    obtain ⟨bytes, frame⟩ := v
    cases frame <;> rfl

theorem length_holdBytes (h : Option Nat) : ((h.map bytes16).getD [0xFF, 0xFF]).length = 2 := by cases h <;> rfl

theorem carrierPieces_lengths (s : State) (c : Carrier) :
    (carrierPieces s c).map List.length = [6, 6, 1, 1, 2, 3, 2, 3, 2, 2, 8, 2, 2] := by
  simp only [carrierPieces, List.map_cons, List.map_nil, length_estimateBytes, length_lastAnswerBytes, length_shadowBytes,
    length_causeBytes, length_lastValidBytes, length_holdBytes, List.length_cons, List.length_nil]

theorem length_carrierPayload (s : State) (c : Carrier) : (carrierPayload s c).length = 40 := by
  rw [carrierPayload_eq, List.length_flatten, carrierPieces_lengths]; rfl

/-- Piece k of READ_CARRIER's payload, at its place. -/
theorem bytesAt_carrierPiece {s : State} {c : Carrier} {k : Nat} {piece : List Byte} (h : (carrierPieces s c)[k]? = some piece) :
    BytesAt (carrierPayload s c) (([6, 6, 1, 1, 2, 3, 2, 3, 2, 2, 8, 2, 2].take k).sum) piece := by
  rw [carrierPayload_eq, ← carrierPieces_lengths s c]
  exact bytesAt_flatten h

theorem rxView_byte (x : RxContext) : (rxView x).byte = match x.phase with
    | .standby => 0
    | .acquire => 1
    | .siglost => 5
    | .working => if x.armed.isSome then 4 else if x.request.kind = .none then 2 else 3 := by
  unfold rxView
  cases x.phase with
  | standby => rfl
  | acquire => rfl
  | siglost => rfl
  | working =>
    cases harmed : x.armed.isSome
    · by_cases hkind : x.request.kind = .none <;> simp [isOpen, hkind, RxView.byte]
    · rfl

theorem txView_byte (enabled : Bool) (l : Lane) (c : Carrier) : (txView enabled l c).byte =
    if enabled = false then 0 else if (l.memberOf c).isSome then 3 else if (l.carriers.get c).entry.isSome then 2 else 1 := by
  unfold txView
  cases enabled with
  | false => rfl
  | true => cases (l.memberOf c).isSome <;> cases (l.carriers.get c).entry.isSome <;> rfl

/-- The phases in which the hold count is shown are WORKING with no armed switch (R71, R97). -/
theorem rxView_steady_or_requesting_iff (x : RxContext) : (rxView x = .steady ∨ rxView x = .requesting) ↔
    x.phase = .working ∧ x.armed = none := by
  unfold rxView
  cases x.phase with
  | standby => simp
  | acquire => simp
  | siglost => simp
  | working => cases x.armed <;> cases isOpen x <;> simp

theorem holdRemaining_eq (s : State) (c : Carrier) : holdRemaining (rxEnv s c) (s.rau.get c) =
    if (s.rau.get c).phase = .working ∧ (s.rau.get c).armed = none ∧ s.fault.state = .running ∧
      (s.rau.get c).active < (s.params c).rxCeiling ∧ (s.rau.get c).hostPause = false ∧ s.monitor.grace.get c = 0 ∧
      (s.rau.get c).request.kind ≠ .down ∧ (s.rau.get c).request.kind ≠ .urgent
    then some (s.rau.get c).hold else none := by
  refine if_congr ?_ rfl rfl
  have hview := rxView_steady_or_requesting_iff (s.rau.get c)
  simp only [isPaused, Bool.and_eq_true, Bool.or_eq_true, decide_eq_true_eq, Bool.not_eq_true', Bool.or_eq_false_iff, hview,
    and_assoc]
  simp only [rxEnv, decide_eq_true_eq, decide_eq_false_iff_not, Nat.not_lt, Nat.le_zero]

section
variable (s : State) (c : Carrier)

theorem carrierPayload_head : BytesAt (carrierPayload s c) 0 [0, byteOf c.toNat,
    (match (s.rau.get c).phase with
      | .standby => 0
      | .acquire => 1
      | .siglost => 5
      | .working => if (s.rau.get c).armed.isSome then 4 else if (s.rau.get c).request.kind = .none then 2 else 3),
    (if s.enabled c = false then 0 else if (s.lane.memberOf c).isSome then 3
      else if (s.lane.carriers.get c).entry.isSome then 2 else 1),
    byteOf (s.rau.get c).active, byteOf (s.txActive c)] := by
  refine bytesAt_carrierPiece (k := 0) ?_
  rw [← txView_byte]
  exact congrArg (fun view => some [0, byteOf c.toNat, view, (txView (s.enabled c) s.lane c).byte,
    byteOf (s.rau.get c).active, byteOf (s.txActive c)]) (rxView_byte (s.rau.get c))

theorem carrierPayload_estimate (v : Option Estimate) (h : (s.est.get c).est = v) :
    BytesAt (carrierPayload s c) 6 (estimateBytes v) :=
  bytesAt_carrierPiece (k := 1) (congrArg (fun e => some (estimateBytes e)) h)

theorem estimateBytes_some (v : Estimate) : estimateBytes (some v) =
    frameBytes (BitVec.ofNat 16 v.e.toNat) ++ frameBytes (BitVec.ofInt 16 v.r) ++ frameBytes (BitVec.ofNat 16 v.pr.toNat) := by
  rw [← bytes16_eq_frameBytes, ← bytes16_eq_frameBytes]; rfl

theorem carrierPayload_flags : ((carrierPayload s c)[13]?.map fun flags => (List.range 8).map flags.getLsbD) =
    some [(s.est.get c).est.isSome, (s.est.get c).fade, (s.rau.get c).hostPause, 0 < s.monitor.grace.get c,
      (s.sig.get c).lost, s.fault.farFault.get c, s.fault.faultLevel, s.fault.state = .aborted] := by
  have hbyte : BytesAt (carrierPayload s c) 13 [_] := bytesAt_carrierPiece (k := 3) rfl
  rw [getElem?_of_bytesAt hbyte]
  exact congrArg some (bits_bitsByte ..)

theorem carrierPayload_hold : BytesAt (carrierPayload s c) 14
    (if (s.rau.get c).phase = .working ∧ (s.rau.get c).armed = none ∧ s.fault.state = .running ∧
        (s.rau.get c).active < (s.params c).rxCeiling ∧ (s.rau.get c).hostPause = false ∧ s.monitor.grace.get c = 0 ∧
        (s.rau.get c).request.kind ≠ .down ∧ (s.rau.get c).request.kind ≠ .urgent
      then frameBytes (BitVec.ofNat 16 (s.rau.get c).hold) else [0xFF, 0xFF]) := by
  refine bytesAt_carrierPiece (k := 4) ?_
  refine (congrArg (fun h : Option Nat => some ((h.map bytes16).getD [0xFF, 0xFF])) (holdRemaining_eq s c)).trans ?_
  rw [← bytes16_eq_frameBytes]
  split
  · rfl
  · rfl

theorem carrierPayload_request : BytesAt (carrierPayload s c) 16 [byteOf (s.rau.get c).m,
    byteOf (64 * reqKindCode (s.rau.get c).request.kind + 8 * (s.rau.get c).request.seq.toNat),
    (match (s.rau.get c).request.target with
      | some target => byteOf target
      | none => 0xFF)] := by
  refine bytesAt_carrierPiece (k := 5) ?_
  have htarget : ∀ target : Option Nat, (target.map byteOf).getD 0xFF = match target with
      | some target => byteOf target
      | none => 0xFF := fun target => by cases target <;> rfl
  rw [← request_byte]
  exact congrArg (fun target => some [byteOf (s.rau.get c).m,
    (s.rau.get c).request.kind.code ++ (s.rau.get c).request.seq ++ 0#3, target]) (htarget _)

theorem carrierPayload_lastAnswer (a : Option Answer) (h : (s.rau.get c).lastAnswer = a) :
    BytesAt (carrierPayload s c) 19 (lastAnswerBytes (Config.freeReplyByte s.freeCount) a) :=
  bytesAt_carrierPiece (k := 6) (congrArg (fun a => some (lastAnswerBytes (Config.freeReplyByte s.freeCount) a)) h)

theorem carrierPayload_no_answer (h : (s.rau.get c).lastAnswer = none) : BytesAt (carrierPayload s c) 19 [0xFF] :=
  bytesAt_within (carrierPayload_lastAnswer s c none h) (bytesAt_middle [] [0xFF] _) rfl

theorem lastAnswerBytes_some (free : Nat → Byte) (a : Answer) :
    lastAnswerBytes free (some a) = [ansKindCode a.kind, byteOf a.seq.toNat] := by
  rw [← ansKind_byte, ← setWidth_eq_byteOf]; rfl

theorem carrierPayload_answer (a : Answer) (h : (s.rau.get c).lastAnswer = some a) :
    BytesAt (carrierPayload s c) 19 [ansKindCode a.kind, byteOf a.seq.toNat] := by
  rw [← lastAnswerBytes_some]
  exact carrierPayload_lastAnswer s c (some a) h

theorem carrierPayload_shadow (sh : Option PowerShadow) (h : (s.pcu.get c).shadow = sh) :
    BytesAt (carrierPayload s c) 24 (shadowBytes (Config.freeReplyByte s.freeCount) sh) :=
  bytesAt_carrierPiece (k := 8) (congrArg (fun sh => some (shadowBytes (Config.freeReplyByte s.freeCount) sh)) h)

theorem carrierPayload_no_shadow (h : (s.pcu.get c).shadow = none) : BytesAt (carrierPayload s c) 24 [0xFF] :=
  bytesAt_within (carrierPayload_shadow s c none h) (bytesAt_middle [] [0xFF] _) rfl

theorem carrierPayload_lastValid (v : Option TakenField) (h : (s.sig.get c).lastValid = v) :
    BytesAt (carrierPayload s c) 28 (lastValidBytes (Config.freeReplyByte s.freeCount) v) :=
  bytesAt_carrierPiece (k := 10) (congrArg (fun v => some (lastValidBytes (Config.freeReplyByte s.freeCount) v)) h)

theorem lastValidBytes_frame (free : Nat → Byte) {v : TakenField} {f : FrameNo} (h : v.frame = some f) :
    BytesAt (lastValidBytes free (some v)) 6 (frameBytes f) := by
  obtain ⟨bytes, frame⟩ := v
  cases h
  rfl

theorem lastValidBytes_head (free : Nat → Byte) (v : TakenField) : BytesAt (lastValidBytes free (some v)) 0
    [1, v.bytes.b0, v.bytes.b1, v.bytes.b2, v.bytes.b3, v.bytes.b4] := by
  obtain ⟨bytes, frame⟩ := v
  cases frame <;> rfl

theorem carrierPayload_no_field (h : (s.sig.get c).lastValid = none) : BytesAt (carrierPayload s c) 28 [0] :=
  bytesAt_within (carrierPayload_lastValid s c none h) (bytesAt_middle [] [0] _) rfl

theorem carrierPayload_field (v : TakenField) (h : (s.sig.get c).lastValid = some v) :
    BytesAt (carrierPayload s c) 28 [1, v.bytes.b0, v.bytes.b1, v.bytes.b2, v.bytes.b3, v.bytes.b4] ∧
    ∀ f, v.frame = some f → BytesAt (carrierPayload s c) 34 (frameBytes f) :=
  have hfield := carrierPayload_lastValid s c (some v) h
  ⟨bytesAt_within hfield (lastValidBytes_head _ v) rfl, fun _ hf => bytesAt_within hfield (lastValidBytes_frame _ hf) rfl⟩

theorem carrierPayload_cause : BytesAt (carrierPayload s c) 36
    ((match s.fault.cause with
      | none => [0, 0xFF]
      | some .localFault => [1, 0xFF]
      | some (.far d) => [2, byteOf d.toNat]
      | some .host => [3, 0xFF]) ++
      [byteOf ((if s.working.link.abortOnLocal then 1 else 0) + if s.working.link.abortOnFar then 2 else 0),
        flagCode (s.port.link = .frameLost)]) := by
  have hjoin : BytesAt (carrierPayload s c) 36 (causeBytes s.fault.cause ++
      [abortSources s.working.link, flagByte (s.port.link = .frameLost)]) := by
    refine bytesAt_join (bytesAt_carrierPiece (k := 11) rfl) ?_
    rw [length_causeBytes]
    exact bytesAt_carrierPiece (k := 12) rfl
  rw [cause_bytes, abortSources_eq] at hjoin
  exact hjoin

end

theorem exec_readCarrier {s : State} (hs : Answering s) (tag : Byte) {b : Byte} {c : Carrier} (h : Carrier.ofNat? b.toNat = some c) :
    exec (.readCarrier tag [b]) s = answered 0x30 tag (carrierPayload s c) (s.setFreeCount (s.freeCount + 1)) := by
  refine exec_of_act (m := .readCarrier) (by decide) hs tag ?_
  change (match Carrier.ofNat? b.toNat with
    | some c => (s.setFreeCount (s.freeCount + 1), carrierPayload s c)
    | none => refuse .badValue s) = _
  rw [h]

theorem exec_readCarrier_out_of_range {s : State} (hs : Answering s) (tag : Byte) {b : Byte} (h : 4 ≤ b.toNat) :
    exec (.readCarrier tag [b]) s = refusedWith .badValue 0x30 tag s := by
  refine exec_of_refuse (m := .readCarrier) (by decide) hs tag ?_
  change (match Carrier.ofNat? b.toNat with
    | some c => (s.setFreeCount (s.freeCount + 1), carrierPayload s c)
    | none => refuse .badValue s) = _
  rw [(Carrier.ofNat?_eq_none_iff _).2 h]

end Sys2Proof.Machine
end

section
/-! The replies of READ_BRANCHES, READ_LANE and READ_MAP: O52 (R53, R141, R167). -/
namespace Sys2Proof.Machine

/-! ### READ_BRANCHES -/

theorem recordBytes_some (r : BranchRecord) : recordBytes (some r) = (match r.part with
    | none => [1, 0, 0]
    | some p => [(if p.lock then 7 else 3), p.snr, BitVec.ofInt 8 p.level]) ++ frameBytes r.frame := by
  obtain ⟨frame, part⟩ := r
  cases part with
  | none => rfl
  | some p =>
    have hflags : bitsByte [true, true, p.lock] = if p.lock then 7 else 3 := by cases p.lock <;> rfl
    exact congrArg (fun b => [b, p.snr, BitVec.ofInt 8 p.level] ++ frameBytes frame) hflags

theorem branchBytes_eq (b : BranchState) (record : Option BranchRecord) : branchBytes b record = branchReply b record := by
  obtain ⟨health, _, _⟩ := b
  have hhealth : health.byte = match health with
      | .healthy => 0
      | .suspect => 1
      | .faulted => 2
      | .excluded => 3 := by cases health <;> rfl
  unfold branchBytes branchReply
  cases record with
  | none => rw [hhealth]; rfl
  | some r => rw [hhealth, recordBytes_some] <;> rfl

theorem length_branchBytes (b : BranchState) (record : Option BranchRecord) : (branchBytes b record).length = 8 := by
  cases record with
  | none => rfl
  | some r =>
    obtain ⟨frame, part⟩ := r
    cases part <;> rfl

/-- The sixteen bytes of a carrier's two branches. -/
def branchPair (s : State) (c : Carrier) : List Byte :=
  branchBytes (s.monitor.branches.get c).a (s.intake.get c).records.a ++
  branchBytes (s.monitor.branches.get c).b (s.intake.get c).records.b

theorem length_branchPair (s : State) (c : Carrier) : (branchPair s c).length = 16 := by
  rw [branchPair, List.length_append, length_branchBytes, length_branchBytes]

theorem bytesAt_branchPair (s : State) (c : Carrier) (side : Side) : BytesAt (branchPair s c)
    (match side with
      | .a => 0
      | .b => 8) (branchReply ((s.monitor.branches.get c).get side) ((s.intake.get c).records.get side)) := by
  cases side with
  | a => rw [← branchBytes_eq]; exact bytesAt_middle [] _ _
  | b =>
    rw [← branchBytes_eq]
    have h := bytesAt_after (branchBytes (s.monitor.branches.get c).a (s.intake.get c).records.a)
      (branchBytes (s.monitor.branches.get c).b (s.intake.get c).records.b)
    rw [length_branchBytes] at h
    exact h

def pauseBytes (s : State) (c : Carrier) : List Byte :=
  [(s.params c).mode.code, byteOf (s.monitor.grace.get c), flagByte (scanPauses s c)]

/-- The pieces of READ_BRANCHES's payload. -/
def branchesPieces (s : State) : List (List Byte) :=
  [[0], Carrier.all.flatMap (branchPair s), Carrier.all.flatMap (pauseBytes s), [byteOf (scanSlot s.monitor)]]

theorem branchesPayload_eq (s : State) : branchesPayload s = (branchesPieces s).flatten := by
  simp only [branchesPieces, List.flatten_cons, List.flatten_nil, List.append_nil, ← List.append_assoc]; rfl

theorem branchesPieces_lengths (s : State) : (branchesPieces s).map List.length = [1, 64, 12, 1] := by
  have hpause : ∀ c, (pauseBytes s c).length = 3 := fun _ => rfl
  simp only [branchesPieces, List.map_cons, List.map_nil, length_carriers (length_branchPair s), length_carriers hpause,
    List.length_cons, List.length_nil]

theorem bytesAt_branchesPiece {s : State} {k : Nat} {piece : List Byte} (h : (branchesPieces s)[k]? = some piece) :
    BytesAt (branchesPayload s) (([1, 64, 12, 1].take k).sum) piece := by
  rw [branchesPayload_eq, ← branchesPieces_lengths s]
  exact bytesAt_flatten h

theorem length_branchesPayload (s : State) : (branchesPayload s).length = 78 := by
  rw [branchesPayload_eq, List.length_flatten, branchesPieces_lengths]; rfl

section
variable (s : State) (c : Carrier)

theorem branchesPayload_branch (side : Side) : BytesAt (branchesPayload s) (1 + 8 * branchIndex c side)
    (branchReply ((s.monitor.branches.get c).get side) ((s.intake.get c).records.get side)) := by
  have hpairs : BytesAt (branchesPayload s) 1 (Carrier.all.flatMap (branchPair s)) := bytesAt_branchesPiece (k := 1) rfl
  have hpair := bytesAt_trans hpairs (bytesAt_carriers (length_branchPair s) c)
  refine bytesAt_within hpair (bytesAt_branchPair s c side) ?_
  cases side <;> simp only [branchIndex] <;> omega

theorem branchesPayload_pause : BytesAt (branchesPayload s) (65 + 3 * c.toNat)
    [(match (s.params c).mode with
      | .combine => 0
      | .select => 1
      | .forceA => 2
      | .forceB => 3), byteOf (s.monitor.grace.get c), flagCode (0 < s.monitor.grace.get c)] := by
  have hall : BytesAt (branchesPayload s) 65 (Carrier.all.flatMap (pauseBytes s)) := bytesAt_branchesPiece (k := 2) rfl
  have hmode : ∀ mode : CombiningMode, mode.code = match mode with
      | .combine => 0
      | .select => 1
      | .forceA => 2
      | .forceB => 3 := fun mode => by cases mode <;> rfl
  have h := bytesAt_trans hall (bytesAt_carriers (f := pauseBytes s) (w := 3) (fun _ => rfl) c)
  rw [pauseBytes, hmode] at h
  exact h

theorem branchesPayload_scan :
    BytesAt (branchesPayload s) 77 [byteOf (branchIndex s.monitor.scanCarrier s.monitor.scanSide)] := by
  refine bytesAt_branchesPiece (k := 3) ?_
  have hslot : scanSlot s.monitor = branchIndex s.monitor.scanCarrier s.monitor.scanSide := by
    unfold scanSlot branchIndex
    cases s.monitor.scanSide <;> rfl
  rw [← hslot]; rfl

end

/-! ### READ_LANE -/

theorem memberBytes_eq (m : Member) : memberBytes m = memberReply (some m) := by
  obtain ⟨carrier, fromP, toP, origin, arrival⟩ := m
  cases origin with
  | far seq => rw [memberBytes, Origin.bytes, setWidth_eq_byteOf]; rfl
  | own maker => cases maker <;> rfl

theorem length_memberBytes (m : Member) : (memberBytes m).length = 5 := by
  obtain ⟨carrier, fromP, toP, origin, arrival⟩ := m
  cases origin with
  | far seq => rfl
  | own maker => cases maker <;> rfl

theorem entryBytes_eq (e : Option Entry) : entryBytes e = entryReply e := by
  cases e with
  | none => rfl
  | some e =>
    cases e with
    | far seq kind target arrival restored =>
      have hflags : bitsByte [true, arrival.isSome, kind = .up, kind = .up && restored, false] =
          byteOf (1 + (if arrival.isSome then 2 else 0) + (if kind = .up then 4 else 0) +
            if kind = .up ∧ restored = true then 8 else 0) := by
        cases arrival.isSome <;> cases kind <;> cases restored <;> rfl
      rw [entryBytes, entryReply, hflags, Origin.bytes, setWidth_eq_byteOf, changeKind_byte]; rfl
    | own maker kind target absorbed =>
      have hflags : bitsByte [true, false, false, false, absorbed.isSome] =
          byteOf (1 + if absorbed.isSome then 16 else 0) := by cases absorbed.isSome <;> rfl
      have hmaker : (Origin.own maker).bytes = [makerCode maker, 0] := by cases maker <;> rfl
      rw [entryBytes, entryReply, hflags, hmaker, setWidth_eq_byteOf, changeKind_byte]; rfl

theorem length_entryBytes (e : Option Entry) : (entryBytes e).length = 8 := by
  rw [entryBytes_eq]
  cases e with
  | none => rfl
  | some e => cases e <;> rfl

theorem laneCarrierBytes_eq (x : LaneCarrier) : laneCarrierBytes x = [byteOf x.active, flagCode x.hold,
    byteOf x.lastAnswered.toNat, ansKindCode x.answer.kind, byteOf x.answer.seq.toNat] := by
  rw [laneCarrierBytes, ansKind_byte, setWidth_eq_byteOf, setWidth_eq_byteOf, flagByte_eq_flagCode]

theorem announcementBytes_none : announcementBytes none = 0xFF :: List.replicate 24 0 := rfl

/-- The five bytes before the member slots. -/
def announcementHead (a : Announcement) : List Byte :=
  [flagCode (a.kind = .down), byteOf a.count] ++ frameBytes a.switchFrame ++ [byteOf a.members.length]

theorem announcementBytes_some (a : Announcement) :
    announcementBytes (some a) = announcementHead a ++ padTo 20 (a.members.flatMap memberBytes) := by
  obtain ⟨kind, count, switchFrame, members⟩ := a
  cases kind <;> rfl

theorem length_announcementBytes (a : Option Announcement) : (announcementBytes a).length = 25 := by
  cases a with
  | none => rfl
  | some a => rw [announcementBytes_some, List.length_append, length_padTo]; rfl

theorem bytesAt_announcementHead (a : Announcement) : BytesAt (announcementBytes (some a)) 0 (announcementHead a) := by
  rw [announcementBytes_some]
  exact bytesAt_append (bytesAt_self _) _

theorem bytesAt_announcementMember (a : Announcement) {i : Nat} (hi : i < 4) :
    BytesAt (announcementBytes (some a)) (5 + 5 * i) (memberReply a.members[i]?) := by
  have hslots : BytesAt (announcementBytes (some a)) 5 (padTo (5 * 4) (a.members.flatMap memberBytes)) := by
    rw [announcementBytes_some]
    exact bytesAt_after (announcementHead a) _
  have hslot := bytesAt_trans hslots (bytesAt_padTo length_memberBytes a.members hi)
  cases h : a.members[i]? with
  | none => rw [h] at hslot; exact hslot
  | some m => rw [h] at hslot; rw [← memberBytes_eq]; exact hslot

/-- The pieces of READ_LANE's payload. -/
def lanePieces (s : State) : List (List Byte) :=
  [[0, flagByte s.lane.announcement.isSome], announcementBytes s.lane.announcement,
    Carrier.all.flatMap (fun c => entryBytes (s.lane.carriers.get c).entry),
    Carrier.all.flatMap (fun c => laneCarrierBytes (s.lane.carriers.get c))]

theorem lanePayload_eq (s : State) : lanePayload s = (lanePieces s).flatten := by
  simp only [lanePieces, List.flatten_cons, List.flatten_nil, List.append_nil, ← List.append_assoc]; rfl

theorem lanePieces_lengths (s : State) : (lanePieces s).map List.length = [2, 25, 32, 20] := by
  have hentry : ∀ c, (entryBytes (s.lane.carriers.get c).entry).length = 8 := fun _ => length_entryBytes _
  have hcarrier : ∀ c, (laneCarrierBytes (s.lane.carriers.get c)).length = 5 := fun _ => rfl
  simp only [lanePieces, List.map_cons, List.map_nil, length_carriers hentry, length_carriers hcarrier,
    length_announcementBytes, List.length_cons, List.length_nil]

theorem bytesAt_lanePiece {s : State} {k : Nat} {piece : List Byte} (h : (lanePieces s)[k]? = some piece) :
    BytesAt (lanePayload s) (([2, 25, 32, 20].take k).sum) piece := by
  rw [lanePayload_eq, ← lanePieces_lengths s]
  exact bytesAt_flatten h

theorem length_lanePayload (s : State) : (lanePayload s).length = 79 := by
  rw [lanePayload_eq, List.length_flatten, lanePieces_lengths]; rfl

theorem lanePayload_announcement {s : State} {a : Option Announcement} (h : s.lane.announcement = a) :
    BytesAt (lanePayload s) 2 (announcementBytes a) :=
  bytesAt_lanePiece (k := 1) (congrArg (fun a => some (announcementBytes a)) h)

theorem lanePayload_entry (s : State) (c : Carrier) :
    BytesAt (lanePayload s) (27 + 8 * c.toNat) (entryReply (s.lane.carriers.get c).entry) := by
  rw [← entryBytes_eq]
  have hall : BytesAt (lanePayload s) 27 (Carrier.all.flatMap fun c => entryBytes (s.lane.carriers.get c).entry) :=
    bytesAt_lanePiece (k := 2) rfl
  exact bytesAt_within hall (bytesAt_carriers (fun _ => length_entryBytes _) c) rfl

theorem lanePayload_carrier (s : State) (c : Carrier) : BytesAt (lanePayload s) (59 + 5 * c.toNat)
    [byteOf (s.lane.carriers.get c).active, flagCode (s.lane.carriers.get c).hold,
      byteOf (s.lane.carriers.get c).lastAnswered.toNat, ansKindCode (s.lane.carriers.get c).answer.kind,
      byteOf (s.lane.carriers.get c).answer.seq.toNat] := by
  rw [← laneCarrierBytes_eq]
  have hall : BytesAt (lanePayload s) 59 (Carrier.all.flatMap fun c => laneCarrierBytes (s.lane.carriers.get c)) :=
    bytesAt_lanePiece (k := 3) rfl
  exact bytesAt_within hall (bytesAt_carriers (w := 5) (fun _ => rfl) c) rfl

end Sys2Proof.Machine
end

section
/-! READ_MAP's reply and the settling of O52 (R167). -/
namespace Sys2Proof.Machine

/-! ### Slot maps and class entries -/

def pairBytes (pair : Cls × Nat) : List Byte := [byteOf pair.1.toNat, byteOf pair.2]

def segmentBytes (seg : Carrier × Nat) : List Byte := [byteOf seg.1.toNat, byteOf seg.2]

theorem length_mapBytes (m : List (Cls × Nat)) : (mapBytes m).length = 17 := by
  rw [mapBytes, List.length_cons, length_padTo]

theorem mapAt_of_bytesAt {reply : List Byte} {i : Nat} {m : List (Cls × Nat)} (h : BytesAt reply i (mapBytes m)) :
    MapAt reply i m := by
  have hslots : BytesAt (mapBytes m) 1 (padTo (2 * 8) (m.flatMap pairBytes)) :=
    bytesAt_after [byteOf m.length] _
  refine ⟨bytesAt_within h (bytesAt_append (bytesAt_self [byteOf m.length]) _) rfl, fun j hj => ?_⟩
  have hslot := bytesAt_trans h (bytesAt_trans hslots (bytesAt_padTo (f := pairBytes) (fun _ => rfl) m hj))
  rw [← Nat.add_assoc] at hslot
  cases hm : m[j]? with
  | none => rw [hm] at hslot; exact hslot
  | some pair => rw [hm] at hslot; exact hslot

theorem length_classEntryBytes (e : ClassEntry) : (classEntryBytes e).length = 11 := by
  rw [classEntryBytes, List.length_append, length_padTo]; rfl

theorem placeState_byte (p : PlaceState) : p.byte = match p with
    | .inactive => 0
    | .placed => 1
    | .partly => 2
    | .shed => 3 := by cases p <;> rfl

theorem classEntryAt_of_bytesAt {reply : List Byte} {i : Nat} {e : ClassEntry} (h : BytesAt reply i (classEntryBytes e)) :
    ClassEntryAt reply i e := by
  have hslots : BytesAt (classEntryBytes e) 3 (padTo (2 * 4) (e.segments.flatMap segmentBytes)) :=
    bytesAt_after [e.state.byte, byteOf e.placed, byteOf e.segments.length] _
  have hhead := bytesAt_trans h
    (bytesAt_append (bytesAt_self [e.state.byte, byteOf e.placed, byteOf e.segments.length]) _)
  rw [placeState_byte] at hhead
  refine ⟨hhead, fun j hj => ?_⟩
  have hslot := bytesAt_trans h (bytesAt_trans hslots (bytesAt_padTo (f := segmentBytes) (fun _ => rfl) e.segments hj))
  rw [← Nat.add_assoc] at hslot
  cases hm : e.segments[j]? with
  | none => rw [hm] at hslot; exact hslot
  | some seg => rw [hm] at hslot; exact hslot

/-! ### READ_MAP 0 -/

/-- A carrier's enable, capacity and map. -/
def capacityBytes (s : State) (c : Carrier) : List Byte :=
  [flagByte (s.enabled c), byteOf (if s.enabled c then capacityOf s.working.table (s.txActive c) else 0)] ++
  mapBytes (s.mapper.active.maps.get c)

def classPlaceBytes (s : State) (k : Cls) : List Byte :=
  classBytes (s.working.classes.get k) ++ classEntryBytes (s.mapper.active.entries.get k)

theorem length_capacityBytes (s : State) (c : Carrier) : (capacityBytes s c).length = 19 := by
  rw [capacityBytes, List.length_append, length_mapBytes]; rfl

theorem length_classPlaceBytes (s : State) (k : Cls) : (classPlaceBytes s k).length = 17 := by
  rw [classPlaceBytes, List.length_append, length_classEntryBytes]; rfl

/-- The pieces of the payload that shows the placement in force. -/
def map0Pieces (s : State) : List (List Byte) :=
  [[0, 0], Carrier.all.flatMap (capacityBytes s), Cls.all.flatMap (classPlaceBytes s)]

theorem mapPayload0_eq (s : State) : mapPayload0 s = (map0Pieces s).flatten := by
  simp only [map0Pieces, List.flatten_cons, List.flatten_nil, List.append_nil, ← List.append_assoc]; rfl

theorem map0Pieces_lengths (s : State) : (map0Pieces s).map List.length = [2, 76, 136] := by
  simp only [map0Pieces, List.map_cons, List.map_nil, length_carriers (length_capacityBytes s),
    length_classes (length_classPlaceBytes s), List.length_cons, List.length_nil]

theorem bytesAt_map0Piece {s : State} {k : Nat} {piece : List Byte} (h : (map0Pieces s)[k]? = some piece) :
    BytesAt (mapPayload0 s) (([2, 76, 136].take k).sum) piece := by
  rw [mapPayload0_eq, ← map0Pieces_lengths s]
  exact bytesAt_flatten h

theorem length_mapPayload0 (s : State) : (mapPayload0 s).length = 214 := by
  rw [mapPayload0_eq, List.length_flatten, map0Pieces_lengths]; rfl

section
variable (s : State)

theorem mapPayload0_carrier (c : Carrier) :
    BytesAt (mapPayload0 s) (2 + 19 * c.toNat)
      [flagCode (s.enabled c), byteOf ((capacities s.working s.txActive).get c)] ∧
    MapAt (mapPayload0 s) (4 + 19 * c.toNat) (s.mapper.active.maps.get c) := by
  have hall : BytesAt (mapPayload0 s) 2 (Carrier.all.flatMap (capacityBytes s)) := bytesAt_map0Piece (k := 1) rfl
  have hc := bytesAt_trans hall (bytesAt_carriers (length_capacityBytes s) c)
  have hmap : BytesAt (capacityBytes s c) 2 (mapBytes (s.mapper.active.maps.get c)) :=
    bytesAt_after
      [flagByte (s.enabled c), byteOf (if s.enabled c then capacityOf s.working.table (s.txActive c) else 0)] _
  refine ⟨?_, mapAt_of_bytesAt (bytesAt_within hc hmap (by omega))⟩
  rw [capacities_get]
  exact bytesAt_within hc (bytesAt_append (bytesAt_self _) _) rfl

theorem mapPayload0_class (k : Cls) :
    BytesAt (mapPayload0 s) (78 + 17 * k.toNat) (classBytes (s.working.classes.get k)) ∧
    ClassEntryAt (mapPayload0 s) (84 + 17 * k.toNat) (s.mapper.active.entries.get k) := by
  have hall : BytesAt (mapPayload0 s) 78 (Cls.all.flatMap (classPlaceBytes s)) := bytesAt_map0Piece (k := 2) rfl
  have hk := bytesAt_trans hall (bytesAt_classes (length_classPlaceBytes s) k)
  have hentry : BytesAt (classPlaceBytes s k) 6 (classEntryBytes (s.mapper.active.entries.get k)) :=
    bytesAt_after (classBytes (s.working.classes.get k)) _
  exact ⟨bytesAt_within hk (bytesAt_append (bytesAt_self _) _) rfl,
    classEntryAt_of_bytesAt (bytesAt_within hk hentry (by omega))⟩

end

/-! ### READ_MAP 1 -/

/-- The pieces of the payload that shows a shadow. -/
def map1Pieces (sh : MapShadow) : List (List Byte) :=
  [[0, 1], [1, byteOf sh.remaining] ++ frameBytes sh.loadFrame, Carrier.all.flatMap (fun c => mapBytes (sh.result.maps.get c)),
    Cls.all.flatMap (fun k => classEntryBytes (sh.result.entries.get k))]

theorem mapPayload1_none {s : State} (h : s.mapper.shadow = none) : mapPayload1 s = [0, 1] ++ List.replicate 160 0 := by
  unfold mapPayload1
  rw [h, ← padTo_nil]
  rfl

theorem mapPayload1_some {s : State} {sh : MapShadow} (h : s.mapper.shadow = some sh) :
    mapPayload1 s = (map1Pieces sh).flatten := by
  unfold mapPayload1
  rw [h]
  simp only [map1Pieces, List.flatten_cons, List.flatten_nil, List.append_nil, ← List.append_assoc]
  rfl

theorem map1Pieces_lengths (sh : MapShadow) : (map1Pieces sh).map List.length = [2, 4, 68, 88] := by
  have hmap : ∀ c, (mapBytes (sh.result.maps.get c)).length = 17 := fun _ => length_mapBytes _
  have hentry : ∀ k, (classEntryBytes (sh.result.entries.get k)).length = 11 := fun _ => length_classEntryBytes _
  simp only [map1Pieces, List.map_cons, List.map_nil, length_carriers hmap, length_classes hentry, List.length_append,
    List.length_cons, List.length_nil]
  rfl

theorem length_mapPayload1 (s : State) : (mapPayload1 s).length = 162 := by
  cases h : s.mapper.shadow with
  | none => rw [mapPayload1_none h, List.length_append, List.length_replicate]; rfl
  | some sh => rw [mapPayload1_some h, List.length_flatten, map1Pieces_lengths]; rfl

theorem mapPayload1_head (s : State) : BytesAt (mapPayload1 s) 0 [0, 1] := by
  cases h : s.mapper.shadow with
  | none => rw [mapPayload1_none h]; exact bytesAt_append (bytesAt_self _) _
  | some sh => rw [mapPayload1_some h]; exact bytesAt_flatten (pieces := map1Pieces sh) (k := 0) rfl

theorem bytesAt_map1Piece {s : State} {sh : MapShadow} (hsh : s.mapper.shadow = some sh) {k : Nat} {piece : List Byte}
    (h : (map1Pieces sh)[k]? = some piece) : BytesAt (mapPayload1 s) (([2, 4, 68, 88].take k).sum) piece := by
  rw [mapPayload1_some hsh, ← map1Pieces_lengths sh]
  exact bytesAt_flatten h

theorem mapPayload1_shadow {s : State} {sh : MapShadow} (h : s.mapper.shadow = some sh) :
    BytesAt (mapPayload1 s) 2 ([1, byteOf sh.remaining] ++ frameBytes sh.loadFrame) ∧
    (∀ c, MapAt (mapPayload1 s) (6 + 17 * c.toNat) (sh.result.maps.get c)) ∧
    ∀ k, ClassEntryAt (mapPayload1 s) (74 + 11 * k.toNat) (sh.result.entries.get k) := by
  have hmaps : BytesAt (mapPayload1 s) 6 (Carrier.all.flatMap fun c => mapBytes (sh.result.maps.get c)) :=
    bytesAt_map1Piece h (k := 2) rfl
  have hentries : BytesAt (mapPayload1 s) 74 (Cls.all.flatMap fun k => classEntryBytes (sh.result.entries.get k)) :=
    bytesAt_map1Piece h (k := 3) rfl
  exact ⟨bytesAt_map1Piece h (k := 1) rfl,
    fun c => mapAt_of_bytesAt (bytesAt_within hmaps (bytesAt_carriers (fun _ => length_mapBytes _) c) rfl),
    fun k => classEntryAt_of_bytesAt (bytesAt_within hentries (bytesAt_classes (fun _ => length_classEntryBytes _) k) rfl)⟩

theorem mapPayload1_empty {s : State} (h : s.mapper.shadow = none) : BytesAt (mapPayload1 s) 2 (List.replicate 160 0) := by
  rw [mapPayload1_none h]
  exact bytesAt_after [0, 1] _

theorem exec_readMap_out_of_range {s : State} (hs : Answering s) (tag : Byte) {b : Byte} (h : 2 ≤ b.toNat) :
    exec (.readMap tag [b]) s = refusedWith .badValue 0x33 tag s := by
  have hne : ∀ n : Byte, n.toNat < 2 → b ≠ n := fun n hn heq => by
    rw [heq] at h
    omega
  refine exec_of_refuse (m := .readMap) (by decide) hs tag ?_
  exact (if_neg (hne 0 (by decide))).trans (if_neg (hne 1 (by decide)))

/-! ### The statement -/

/-- Settles O52: each payload is its pieces one after the other, and each item the piece, or a part of the piece, at its place. -/
theorem stateRepliesHaveTheirLayout : Obligations.StateRepliesHaveTheirLayout := by
  intro tag s hs
  refine ⟨fun b c hc => ⟨carrierPayload s c, exec_readCarrier hs tag hc, length_carrierPayload s c, ?carrier⟩,
    fun b hb => exec_readCarrier_out_of_range hs tag hb,
    ⟨branchesPayload s, exec_of_act (m := .readBranches) (by decide) hs tag rfl, length_branchesPayload s,
      bytesAt_branchesPiece (k := 0) rfl, branchesPayload_branch s, branchesPayload_pause s, branchesPayload_scan s⟩,
    ⟨lanePayload s, exec_of_act (m := .readLane) (by decide) hs tag rfl, length_lanePayload s,
      bytesAt_lanePiece (k := 0) rfl, fun h => lanePayload_announcement h, fun a h =>
        ⟨bytesAt_within (lanePayload_announcement h) (bytesAt_announcementHead a) rfl, fun i hi =>
          bytesAt_within (lanePayload_announcement h) (bytesAt_announcementMember a hi) (by omega)⟩,
      fun c => ⟨lanePayload_entry s c, lanePayload_carrier s c⟩⟩,
    ⟨mapPayload0 s, exec_of_act (m := .readMap) (by decide) hs tag rfl, length_mapPayload0 s,
      bytesAt_map0Piece (k := 0) rfl, mapPayload0_carrier s, mapPayload0_class s⟩,
    ⟨mapPayload1 s, exec_of_act (m := .readMap) (by decide) hs tag rfl, length_mapPayload1 s, mapPayload1_head s,
      fun h => mapPayload1_empty h, fun sh h => mapPayload1_shadow h⟩,
    fun b hb => exec_readMap_out_of_range hs tag hb⟩
  case carrier =>
    have hb : byteOf c.toNat = b := by rw [toNat_of_ofNat? hc, byteOf_toNat]
    subst hb
    refine ⟨carrierPayload_head s c, carrierPayload_estimate s c none, fun v h => ?_, bytesAt_carrierPiece (k := 2) rfl,
      carrierPayload_flags s c, fun h => ?_, fun h => ?_, carrierPayload_request s c, carrierPayload_no_answer s c,
      carrierPayload_answer s c, bytesAt_carrierPiece (k := 7) rfl, carrierPayload_no_shadow s c,
      fun sh => carrierPayload_shadow s c (some sh), bytesAt_carrierPiece (k := 9) rfl, carrierPayload_no_field s c,
      carrierPayload_field s c, carrierPayload_cause s c⟩
    · rw [← estimateBytes_some]; exact carrierPayload_estimate s c (some v) h
    · have hold := carrierPayload_hold s c
      rwa [if_pos h] at hold
    · have hold := carrierPayload_hold s c
      rwa [if_neg h] at hold

end Sys2Proof.Machine
end
